-- ==== Sys2Proof/Word.lean ====
section
/-! DEFINITION. The byte of a frame and the ranges of the device's counts. -/
namespace Sys2Proof

/-- A byte of a frame, a class byte, a pass mask, a station address (R1, R8, R10). -/
abbrev Byte := BitVec 8

/-- Largest value of part time and of every 32-bit count or accumulator (R20, R39, R64). -/
abbrev max32 : Nat := 4294967295

/-- Largest value of a 16-bit count (R22, R45, R182). -/
abbrev max16 : Nat := 65535

/-- Largest value of an 8-bit count (R64, R123). -/
abbrev max8 : Nat := 255

end Sys2Proof
end

