-- ==== Sys2Proof/Types.lean ====
section
/-! DEFINITION. The fixed sets of names the manual uses: ports, kinds, states, outcomes, reasons, verdicts, alert codes. Their numbers are in Sys2Proof.Machine.Codes. -/
namespace Sys2Proof

/-- The two lines of the device. -/
inductive Port | field | trunk
  deriving DecidableEq, Repr

/-- The two directions of the Pass Path: up is field to trunk, down is trunk to field. -/
inductive Direction | up | down
  deriving DecidableEq, Repr

/-- The four pass masks of R10. -/
inductive MaskName | upRoute | upIdle | downRoute | downIdle
  deriving DecidableEq, Repr

/-- The queues of a port (R13, R14, R16). Only the trunk has an alert queue. -/
inductive QueueKind | reply | alert | forward
  deriving DecidableEq, Repr

/-- A sensor in fault, as the sentinels of R32 report it. -/
inductive SensorFault | sensorOpen | sensorShort
  deriving DecidableEq, Repr

/-- A door's state as a report gives it (R89). The live view has a fourth value, UNKNOWN, held as an absent state. -/
inductive DoorState | opened | closed | fault
  deriving DecidableEq, Repr

/-- A thermal state other than NO_DATA (R76). -/
inductive Grade | inLimit | excursion | severe
  deriving DecidableEq, Repr

/-- The route state (R104). -/
inductive RouteState | noRoute | opened | closing
  deriving DecidableEq, Repr

/-- The mode of a Settle Window (R46). -/
inductive WindowMode | idle | running | closing | frozen
  deriving DecidableEq, Repr

/-- How a route ended (R104). -/
inductive CloseReason | closed | reset
  deriving DecidableEq, Repr

/-- The outcome of a stop (R123, R132, R136). -/
inductive StopOutcome | delivered | partlyDelivered | refused | abandoned
  deriving DecidableEq, Repr

/-- The state of a drop (R109, R121). A final state carries its outcome. -/
inductive DropState
  | planned | active | handingOver | handedOver | settling
  | final (o : StopOutcome)
  | notVisited
  deriving DecidableEq, Repr

/-- Why items were refused at the door (R110). -/
inductive RefusalReason | temperature | damaged | wrongProduct | other
  deriving DecidableEq, Repr

/-- A verdict on an item or a claim (R139, R171 to R173). -/
inductive Verdict
  | supported | refuted | indeterminate | notApplicable | noSuchItem | unknownRecord
  deriving DecidableEq, Repr

/-- The result of a TERMINAL_REPLY with its reason (R125). -/
inductive TermReason
  | noRoute | noDrop | state | notOwner | badItem | overCount | notTerminal | lockout
  deriving DecidableEq, Repr

/-- The result a TERMINAL_REPLY carries (R125). -/
inductive TermResult
  | accepted | retry
  | refused (r : TermReason)
  deriving DecidableEq, Repr

/-- The reasons of a REFUSED MGMT_REPLY (R191). -/
inductive MgmtReason
  | malformed | outOfRange | noEntry | conflict | lockedOnRoute | state | noSlot | noRoom | emptyDrop | lockout
  deriving DecidableEq, Repr

/-- The kinds of proof record (R149). -/
inductive RecordKind | routeOpen | dropOutcome | routeClose | claimVerdict | storeFault
  deriving DecidableEq, Repr

/-- The occasion of a store-fault detection (R159). -/
inductive FaultSource | fill | fetch | claim
  deriving DecidableEq, Repr

/-- When a complaint was made (R165). It plays no part in the verdict (R173). -/
inductive ClaimKind | atReceipt | afterReceipt
  deriving DecidableEq, Repr

/-- What a claim refers to (R165). -/
inductive ClaimRef
  | record (n : Nat)
  | drop (n : Nat)
  deriving DecidableEq, Repr

/-- Which items a claim is about (R165); none stands for ALL. -/
abbrev Selector := Option Nat

/-- The 21 alert codes of chapter 10. -/
inductive AlertCode
  | excursionEnter | severeEnter | returnInLimit | noData | probeFault | readingClamped | lateSample
  | windowForced | budgetExceeded | doorOpenLong | unscheduledOpen | doorContactFault | handoverTimeout
  | stopAbandoned | storeLow | storeFault | lockout | claimSupported | unknownStation | forwardOverflow
  | resumed
  deriving DecidableEq, Repr

/-- The subject of a raise (R182). -/
inductive Subject
  | compartment (c : Fin 4)
  | door (c : Fin 4) (p : Fin 2)
  | station (a : Byte)
  | drop (n : Nat)
  | slot (i : Fin 256)
  | direction (d : Direction)
  | store
  | part
  deriving DecidableEq, Repr

/-- The COUNTERS groups of R199. -/
inductive CounterGroup | ports | stations | stops | store | claims | alerts | agent
  deriving DecidableEq, Repr

end Sys2Proof
end

