-- ==== Sys2Proof/Syntax.lean ====
section
/-! DEFINITION. Frames, and the commands of the device: one constructor of Instr for each row of spec/opcode_table.json. -/
namespace Sys2Proof

/-- A frame without its CRC, which R2 fixes from the rest (R1). trailer holds the 8 bytes of the annotation trailer, or nothing. -/
structure Frame where
  dst : Byte
  src : Byte
  typ : Byte
  flags : Byte
  seq : Byte
  age : BitVec 16
  payload : List Byte
  trailer : List Byte
  deriving DecidableEq, Repr

/-- The header fields of an arriving frame that its command's row does not fix (R1). -/
structure Hdr where
  src : Byte
  flags : Byte
  seq : Byte
  age : BitVec 16
  deriving DecidableEq, Repr

/-- What the Management Agent uses of a command frame's header (R190): its source and its sequence number. -/
structure CmdHdr where
  src : Byte
  seq : Byte
  deriving DecidableEq, Repr

/-- Why the device stops (R204). -/
inductive StopCause
  /-- Main power is lost; markWritten says whether the supply held long enough to mark the down time valid. -/
  | mainSupply (markWritten : Bool)
  /-- The reset line is asserted. -/
  | resetLine
  deriving DecidableEq, Repr

/-- What makes the device start (R205). -/
inductive StartCause
  | mainSupply
  | resetLine
  deriving DecidableEq, Repr

/-- The commands: one constructor for each row of the table. Operand bytes (ops, payload) are those that follow the bytes the row itself fixes: the frame type, the command code, and for MANIFEST_LOAD, QUERY and PROOF_FETCH the part, subject or selector byte (chapter 13). -/
inductive Instr
  | tick
  | horizonRetire (c : Fin 4)
  | stopEndAdvance (drop : Nat)
  | closeAdvance
  | idleDeadlineExpiry
  | departureDeadlineExpiry
  | openingDeadlineExpiry (c : Fin 4) (p : Fin 2)
  | recoveryEnd
  | linkUp
  | linkDown (receiving : Bool)
  | transmitStart (p : Port)
  | transmitDone (p : Port)
  | receiveError (p : Port) (bytes : List Byte)
  | sample (dst : Byte) (h : Hdr) (payload : List Byte)
  | doorState (dst : Byte) (h : Hdr) (payload : List Byte)
  | fieldFramePassUp (dst : Byte) (typ : Byte) (h : Hdr) (payload : List Byte)
  | unhandledFrame (p : Port) (typ : Byte) (h : Hdr) (payload : List Byte) (trailer : List Byte)
  | trunkFramePassDown (dst : Byte) (typ : Byte) (h : Hdr) (payload : List Byte) (trailer : List Byte)
  | stopArrive (h : Hdr) (payload : List Byte)
  | stopDepart (h : Hdr) (payload : List Byte)
  | handoverOpen (h : Hdr) (payload : List Byte)
  | itemConfirm (h : Hdr) (payload : List Byte)
  | handoverClose (h : Hdr) (payload : List Byte)
  | handoverAbort (h : Hdr) (payload : List Byte)
  | terminalClaimLodge (h : Hdr) (payload : List Byte)
  | stationWrite (m : CmdHdr) (ops : List Byte)
  | stationClear (m : CmdHdr) (ops : List Byte)
  | compartmentWrite (m : CmdHdr) (ops : List Byte)
  | classWrite (m : CmdHdr) (ops : List Byte)
  | frameClassWrite (m : CmdHdr) (ops : List Byte)
  | passMaskSet (m : CmdHdr) (ops : List Byte)
  | alertLevelWrite (m : CmdHdr) (ops : List Byte)
  | alertMaskSet (m : CmdHdr) (ops : List Byte)
  | configWrite (m : CmdHdr) (ops : List Byte)
  | timeSet (m : CmdHdr) (ops : List Byte)
  | manifestLoadSingle (m : CmdHdr) (ops : List Byte)
  | manifestLoadPartOne (m : CmdHdr) (ops : List Byte)
  | manifestLoadPartTwo (m : CmdHdr) (ops : List Byte)
  | manifestDelete (m : CmdHdr) (ops : List Byte)
  | routeOpen (m : CmdHdr) (ops : List Byte)
  | routeClose (m : CmdHdr) (ops : List Byte)
  | queryPart (m : CmdHdr) (ops : List Byte)
  | queryCompartment (m : CmdHdr) (ops : List Byte)
  | queryDoor (m : CmdHdr) (ops : List Byte)
  | queryStation (m : CmdHdr) (ops : List Byte)
  | queryDrop (m : CmdHdr) (ops : List Byte)
  | queryStore (m : CmdHdr) (ops : List Byte)
  | queryClaims (m : CmdHdr) (ops : List Byte)
  | queryCounters (m : CmdHdr) (ops : List Byte)
  | proofFetchNext (m : CmdHdr) (ops : List Byte)
  | proofFetchNumber (m : CmdHdr) (ops : List Byte)
  | proofRelease (m : CmdHdr) (ops : List Byte)
  /-- asFrame: the claim came as a CLAIM_LODGE frame and not as a MGMT frame (R166, R190); the effect is the same. -/
  | claimLodge (asFrame : Bool) (m : CmdHdr) (ops : List Byte)
  | monitorReset (m : CmdHdr) (ops : List Byte)
  | fullClear (m : CmdHdr) (ops : List Byte)
  | powerLoss (cause : StopCause)
  | backupSupplyLoss
  | deviceStart (cause : StartCause)
  /-- payload is the whole payload of the MGMT frame, its command code included. -/
  | unknownCommandCode (m : CmdHdr) (payload : List Byte)
  deriving DecidableEq, Repr

end Sys2Proof
end

