-- ==== Sys2Proof/Config.lean ====
section
/-! DEFINITION. The fixed sizes of the device, and the values the spec leaves open: each is an opaque constant, so that nothing can be proved of its value. -/
namespace Sys2Proof.Config

/-- Places of a Forward FIFO (R13). -/
abbrev fifoPlaces : Nat := 32
/-- Places of a reply queue (R14). -/
abbrev replyPlaces : Nat := 4
/-- Places of the alert queue (R16). -/
abbrev alertPlaces : Nat := 8
/-- Entries of the Station Table (R21). -/
abbrev stationPlaces : Nat := 48
/-- Pending events a Settle Window holds (R43). -/
abbrev windowPlaces : Nat := 16
/-- Contexts of the Stop Context List (R122). -/
abbrev contextPlaces : Nat := 4
/-- Items of the item pool (R110). -/
abbrev poolPlaces : Nat := 512
/-- Claims of the Claim Queue (R165). -/
abbrev claimPlaces : Nat := 8
/-- Spare areas of the array (R160). -/
abbrev spareAreas : Nat := 64
/-- Ticks a recovery takes (R160). -/
abbrev recoveryTicks : Nat := 4

/-- FREE VALUE (log entry 5): whether the array's nth read beyond the script State holds finds uncorrectable data. DESIGN CHOICE: the spec does not say when data is uncorrectable (R155, R156, R159). -/
opaque readFails : Nat → Bool

/-- FREE VALUE (log entry 9): the code of a route state in a QUERY reply; 13.2 numbers none. -/
opaque routeStateCode : RouteState → Byte
/-- FREE VALUE (log entry 9): the code of the trunk link state in a QUERY reply, true standing for UP. -/
opaque linkStateCode : Bool → Byte
/-- FREE VALUE (log entry 9): the code of a window mode in a QUERY reply. -/
opaque windowModeCode : WindowMode → Byte
/-- FREE VALUE (log entry 9): the code of a fault mark in a QUERY reply. -/
opaque sensorFaultCode : SensorFault → Byte
/-- FREE VALUE (log entry 9): the code of the live door state UNKNOWN in a QUERY reply. -/
opaque doorUnknownCode : Byte
/-- FREE VALUE (log entry 9): the code of a claim's state in a QUERY reply, true standing for EVALUATED. -/
opaque claimStateCode : Bool → Byte
/-- FREE VALUE (log entry 21): the drop number byte of a TERMINAL_REPLY to a claim whose DROP reference is above 255. -/
opaque wideDropByte : Nat → Byte
/-- FREE VALUE (log entry 25): the segment index byte of a PROOF_RECORD marked CORRUPT, from the index the fetch gave. -/
opaque corruptSegmentByte : Byte → Byte
/-- FREE VALUE (log entry 29): the fourth byte of a MGMT_REPLY whose result is BUSY; 13.5 gives it for DONE and REFUSED alone. -/
opaque busyFourthByte : Byte
/-- FREE VALUE (log entry 30): the command code byte of the MGMT_REPLY to an empty payload. -/
opaque emptyPayloadCode : Byte

end Sys2Proof.Config
end

