-- ==== Sys2Proof/Machine/Bytes.lean ====
section
/-! DEFINITION. Byte order, signed fields, saturation and the two CRCs (R2, R150, R209). -/
namespace Sys2Proof.Machine

/-- n + k, stopping at max ("Saturation and chopping", 00_scope.md). -/
def satAdd (max n k : Nat) : Nat := min (n + k) max

/-- One more, stopping at max. -/
def satInc (max n : Nat) : Nat := satAdd max n 1

/-- v moved into lo..hi (R33, R131, R196). -/
def clampInt (lo hi v : Int) : Int := if v < lo then lo else if hi < v then hi else v

/-- v moved into lo..hi, for counts (R196). -/
def clampNat (lo hi v : Nat) : Nat := if v < lo then lo else if hi < v then hi else v

/-- n as w bytes, most significant first (R209). -/
def beBytes : Nat → Nat → List Byte
  | 0, _ => []
  | w + 1, n => BitVec.ofNat 8 (n / 256 ^ w) :: beBytes w n

/-- The count that bytes spell, most significant first (R209). -/
def beNat (bs : List Byte) : Nat := bs.foldl (fun n b => n * 256 + b.toNat) 0

/-- A signed value in w bytes, two's complement (R209). -/
def beInt (w : Nat) (v : Int) : List Byte := beBytes w (BitVec.ofInt (8 * w) v).toNat

/-- The signed 16-bit value of two bytes (R32, R209). -/
def int16 (hi lo : Byte) : Int := (hi ++ lo).toInt

/-- A yes/no field, 1 or 0 (13.3). -/
def yesNo (b : Bool) : Byte := if b then 1 else 0

/-- An optional field behind a presence byte (R210). -/
def withPresence (o : Option (List Byte)) : List Byte :=
  match o with
  | none => [0]
  | some bs => 1 :: bs

/-- A temperature, or 0x8000 for none (R210). -/
def tempBytes (o : Option Int) : List Byte :=
  match o with
  | none => [0x80, 0x00]
  | some t => beInt 2 t

/-- A time behind a presence byte (R210). -/
def timeBytes (o : Option Nat) : List Byte := withPresence (o.map (beBytes 4))

/-- A temperature with its time behind a presence byte: a peak or an account reading (R210). -/
def readingBytes (o : Option (Int × Nat)) : List Byte :=
  withPresence (o.map fun r => beInt 2 r.1 ++ beBytes 4 r.2)

/-- A record number or drop number, 0 when absent (R210). -/
def numberBytes (w : Nat) (o : Option Nat) : List Byte := beBytes w (o.getD 0)

/-- A byte of a one-byte enumeration, 0xFF when absent (R210). -/
def enumByte (o : Option Byte) : Byte := o.getD 0xFF

/-- One bit into a CRC-16 register with polynomial 0x1021, unreflected (R2). -/
def crc16Bit (r : BitVec 16) (b : Bool) : BitVec 16 :=
  if r.msb != b then (r <<< 1) ^^^ 0x1021 else r <<< 1

/-- One byte, most significant bit first, into the CRC-16 register (R2). -/
def crc16Byte (r : BitVec 16) (x : Byte) : BitVec 16 :=
  [7, 6, 5, 4, 3, 2, 1, 0].foldl (fun r i => crc16Bit r (x.getLsbD i)) r

/-- The frame CRC of bytes: started at 0xFFFF, no final XOR (R2). -/
def crc16 (bs : List Byte) : BitVec 16 := bs.foldl crc16Byte 0xFFFF

/-- One bit into a CRC-32 register with polynomial 0x04C11DB7, unreflected (R150). -/
def crc32Bit (r : BitVec 32) (b : Bool) : BitVec 32 :=
  if r.msb != b then (r <<< 1) ^^^ 0x04C11DB7 else r <<< 1

/-- One byte, most significant bit first, into the CRC-32 register (R150). -/
def crc32Byte (r : BitVec 32) (x : Byte) : BitVec 32 :=
  [7, 6, 5, 4, 3, 2, 1, 0].foldl (fun r i => crc32Bit r (x.getLsbD i)) r

/-- The CRC-32 of bytes: started at 0xFFFFFFFF, no final XOR (R150). -/
def crc32 (bs : List Byte) : BitVec 32 := bs.foldl crc32Byte 0xFFFFFFFF

/-- The bytes a CRC covers: header, payload and trailer, in transmission order (R1, 13.1). -/
def frameBody (f : Frame) : List Byte :=
  [f.dst, f.src, f.typ, f.flags, f.seq] ++ beBytes 2 f.age.toNat
    ++ [BitVec.ofNat 8 f.payload.length] ++ f.payload ++ f.trailer

/-- The bytes of a frame on the line: its body and the CRC computed over it (R2, 13.1). -/
def frameWire (f : Frame) : List Byte := frameBody f ++ beBytes 2 (crc16 (frameBody f)).toNat

end Sys2Proof.Machine
end

