-- ==== Sys2Proof/Machine/Codes.lean ====
section
/-! DEFINITION. The numbers of chapter 13.2: frame types, command codes and the codes of enumerations, both ways. -/
namespace Sys2Proof.Machine

/-- The device's own station address (R4). -/
abbrev deviceAddr : Byte := 0xFE
/-- The broadcast address (R4). -/
abbrev broadcastAddr : Byte := 0xFF

/-- Frame types (13.2). -/
abbrev typSample : Byte := 0x10
abbrev typDoorState : Byte := 0x18
abbrev typStopArrive : Byte := 0x30
abbrev typStopDepart : Byte := 0x31
abbrev typHandoverOpen : Byte := 0x32
abbrev typItemConfirm : Byte := 0x33
abbrev typHandoverClose : Byte := 0x34
abbrev typHandoverAbort : Byte := 0x35
abbrev typClaimLodge : Byte := 0x36
abbrev typTerminalReply : Byte := 0x38
abbrev typClaimAnswer : Byte := 0x39
abbrev typMgmt : Byte := 0x40
abbrev typMgmtReply : Byte := 0x41
abbrev typProofRecord : Byte := 0x42
abbrev typAlert : Byte := 0x48

/-- Command codes (13.5). -/
abbrev cmdStationWrite : Byte := 0x01
abbrev cmdStationClear : Byte := 0x02
abbrev cmdCompartmentWrite : Byte := 0x03
abbrev cmdClassWrite : Byte := 0x04
abbrev cmdFrameClassWrite : Byte := 0x05
abbrev cmdPassMaskSet : Byte := 0x06
abbrev cmdAlertLevelWrite : Byte := 0x07
abbrev cmdAlertMaskSet : Byte := 0x08
abbrev cmdConfigWrite : Byte := 0x09
abbrev cmdTimeSet : Byte := 0x0A
abbrev cmdManifestLoad : Byte := 0x0B
abbrev cmdManifestDelete : Byte := 0x0C
abbrev cmdRouteOpen : Byte := 0x0D
abbrev cmdRouteClose : Byte := 0x0E
abbrev cmdQuery : Byte := 0x0F
abbrev cmdProofFetch : Byte := 0x10
abbrev cmdProofRelease : Byte := 0x11
abbrev cmdClaimLodge : Byte := 0x12
abbrev cmdMonitorReset : Byte := 0x13
abbrev cmdFullClear : Byte := 0x14

/-- Door state codes (13.2). -/
def doorStateCode : DoorState → Byte
  | .closed => 0
  | .opened => 1
  | .fault => 2

/-- The state a DOOR_STATE byte is read as: every value but those of OPEN and CLOSED is FAULT (R89). -/
def doorStateOf (b : Byte) : DoorState :=
  if b = 0 then .closed else if b = 1 then .opened else .fault

/-- The code of a live door state; UNKNOWN has none in 13.2 and is free (log entry 9). -/
def liveDoorCode : Option DoorState → Byte
  | none => Config.doorUnknownCode
  | some d => doorStateCode d

/-- Outcome codes (13.2). -/
def outcomeCode : StopOutcome → Byte
  | .delivered => 5
  | .partlyDelivered => 6
  | .refused => 7
  | .abandoned => 8

/-- Drop state codes (13.2). -/
def dropStateCode : DropState → Byte
  | .planned => 0
  | .active => 1
  | .handingOver => 2
  | .handedOver => 3
  | .settling => 4
  | .final o => outcomeCode o
  | .notVisited => 9

/-- Refusal reason codes (13.2). -/
def refusalCode : RefusalReason → Byte
  | .temperature => 1
  | .damaged => 2
  | .wrongProduct => 3
  | .other => 4

/-- The refusal reason a code is taken as: any other code is OTHER (R131). -/
def refusalOf (b : Byte) : RefusalReason :=
  if b = 1 then .temperature else if b = 2 then .damaged else if b = 3 then .wrongProduct else .other

/-- Verdict codes (13.2). -/
def verdictCode : Verdict → Byte
  | .supported => 1
  | .refuted => 2
  | .indeterminate => 3
  | .notApplicable => 4
  | .noSuchItem => 5
  | .unknownRecord => 6

/-- Terminal reason codes (13.2). -/
def termReasonCode : TermReason → Byte
  | .noRoute => 1
  | .noDrop => 2
  | .state => 3
  | .notOwner => 4
  | .badItem => 5
  | .overCount => 6
  | .notTerminal => 7
  | .lockout => 8

/-- Management reason codes (13.2). -/
def mgmtReasonCode : MgmtReason → Byte
  | .malformed => 1
  | .outOfRange => 2
  | .noEntry => 3
  | .conflict => 4
  | .lockedOnRoute => 5
  | .state => 6
  | .noSlot => 7
  | .noRoom => 8
  | .emptyDrop => 9
  | .lockout => 10

/-- Record kind codes (13.2). -/
def recordKindCode : RecordKind → Byte
  | .routeOpen => 1
  | .dropOutcome => 2
  | .routeClose => 3
  | .claimVerdict => 4
  | .storeFault => 5

/-- Thermal state codes, NO_DATA for an absent grade (13.2). -/
def thermalCode : Option Grade → Byte
  | some .inLimit => 0
  | some .excursion => 1
  | some .severe => 2
  | none => 3

/-- Detection source codes (13.2). -/
def sourceCode : FaultSource → Byte
  | .fill => 1
  | .fetch => 2
  | .claim => 3

/-- Claim kind codes (13.2). -/
def claimKindCode : ClaimKind → Byte
  | .atReceipt => 1
  | .afterReceipt => 2

/-- Port codes (13.2). -/
def portCode : Port → Byte
  | .field => 0
  | .trunk => 1

/-- A claim reference: its type byte and its two bytes (13.4). -/
def refBytes : ClaimRef → List Byte
  | .record n => 1 :: beBytes 2 n
  | .drop n => 2 :: beBytes 2 n

/-- A selector byte: an index, or 0xFF for ALL (13.2). -/
def selectorCode : Selector → Byte
  | none => 0xFF
  | some i => BitVec.ofNat 8 i

/-- Close reason codes (13.2). -/
def closeReasonCode : CloseReason → Byte
  | .closed => 1
  | .reset => 2

/-- Alert code numbers (chapter 10). -/
def alertNumber : AlertCode → Nat
  | .excursionEnter => 1
  | .severeEnter => 2
  | .returnInLimit => 3
  | .noData => 4
  | .probeFault => 5
  | .readingClamped => 6
  | .lateSample => 7
  | .windowForced => 8
  | .budgetExceeded => 9
  | .doorOpenLong => 10
  | .unscheduledOpen => 11
  | .doorContactFault => 12
  | .handoverTimeout => 13
  | .stopAbandoned => 14
  | .storeLow => 15
  | .storeFault => 16
  | .lockout => 17
  | .claimSupported => 18
  | .unknownStation => 19
  | .forwardOverflow => 20
  | .resumed => 21

/-- The place of a code in the level table, 0..20. -/
def alertIndex (k : AlertCode) : Fin 21 := ⟨alertNumber k - 1, by cases k <;> decide⟩

/-- The code of a station's kind, PROBE 1 to OTHER 4 (13.2). -/
abbrev kindProbe : Byte := 1
abbrev kindDoor : Byte := 2
abbrev kindTerminal : Byte := 3
abbrev kindOther : Byte := 4

/-- Subject class and subject byte of an ALERT frame (13.7). -/
def subjectBytes : Subject → List Byte
  | .compartment c => [1, BitVec.ofNat 8 c.val]
  | .door c p => [2, BitVec.ofNat 8 (c.val * 2 + p.val)]
  | .station a => [3, a]
  | .drop n => [4, BitVec.ofNat 8 n]
  | .slot i => [5, BitVec.ofNat 8 i.val]
  | .direction .up => [6, 0]
  | .direction .down => [6, 1]
  | .store => [7, 0]
  | .part => [8, 0]

end Sys2Proof.Machine
end

