-- ==== Sys2Proof/Machine/Flags.lean ====
section
/-! DEFINITION. The flag sets of the device's frames: header flags, the trailer's flag set, the marks of a DONE reply, the given mask of CONFIG_WRITE. -/
namespace Sys2Proof.Machine

/-- Header flag ANNOTATED, bit 0 (13.1). -/
abbrev flagAnnotated : Byte := 0x01
/-- Header flag part-originated, bit 1 (13.1). -/
abbrev flagOriginated : Byte := 0x02

/-- Whether a frame's ANNOTATED flag is set (R1). -/
def annotated (flags : Byte) : Bool := flags.getLsbD 0

/-- The marks an arrival gives to its forwarded copy (R11, R27). -/
structure Marks where
  comp : Option (Fin 4) := none
  temperature : Option Int := none
  late : Bool := false
  clamped : Bool := false
  unknown : Bool := false
  probeFault : Bool := false
  deriving DecidableEq, Repr

/-- The trailer's flag set: LATE bit 0, CLAMPED bit 1, UNKNOWN_STATION bit 2, PROBE_FAULT bit 3, the rest zero (13.1). -/
def markFlags (m : Marks) : Nat :=
  m.late.toNat + 2 * m.clamped.toNat + 4 * m.unknown.toNat + 8 * m.probeFault.toNat

/-- Marks of a DONE reply: CLAMPED bit 0, STAGED bit 1, EMPTY bit 2, INCOMPLETE bit 3 (13.5). -/
abbrev markNone : Byte := 0
abbrev markClamped : Byte := 1
abbrev markStaged : Byte := 2
abbrev markEmpty : Byte := 4
abbrev markIncomplete : Byte := 8

end Sys2Proof.Machine
end

