-- ==== Sys2Proof/Machine/State.lean ====
section
/-! DEFINITION. Everything the spec gives the device to hold, as plain data, and its value after a cold start. -/
namespace Sys2Proof.Machine

/-- Why the machine stops with a fault. The spec describes no event after which the device stops for good: refusals of requests are answers, store faults and LOCKOUT are state. So there is none. -/
inductive Fault
  deriving DecidableEq, Repr

/-- Why a command is given no meaning. -/
inductive Refusal
  /-- Raised by exec's arm of a command that is not modelled yet; safe. -/
  | notModelled (mnemonic : String)
  deriving DecidableEq, Repr

/-! ### Power and time -/

/-- Power, the reset line and the retention domain's own items (R204, R205). -/
structure Power where
  /-- Main power is present. -/
  mainPower : Bool := true
  /-- The reset line is asserted. -/
  resetAsserted : Bool := false
  /-- The check word held, XORed with the check word computed over the retained state; 0 when the two agree (log entry 6). -/
  checkDiff : BitVec 32 := 0
  downTime : Nat := 0
  downValid : Bool := false
  deriving DecidableEq, Repr

/-- The Timebase (R39, R40). -/
structure Clock where
  partTime : Nat := 0
  timeSet : Bool := false
  deriving DecidableEq, Repr

/-- The configuration values of R196. -/
structure Settings where
  settleDelay : Nat := 60
  arrivalLead : Nat := 20
  idleTimeout : Nat := 480
  departTimeout : Nat := 480
  alertHoldoff : Nat := 40
  deriving DecidableEq, Repr

/-! ### Ports and the Pass Path -/

/-- A frame in a queue. numbered: its originated sequence number has been given (R6, R18). -/
structure QFrame where
  frame : Frame
  numbered : Bool := false
  deriving DecidableEq, Repr

/-- A frame in transmission: the head of a queue, and the bytes put on the line (R2, R6, R17). -/
structure Sending where
  queue : QueueKind
  wire : List Byte
  deriving DecidableEq, Repr

/-- The counts a port keeps (R20). formatErrors is kept on the field port alone. -/
structure PortCounts where
  received : Nat := 0
  lengthErrors : Nat := 0
  formatErrors : Nat := 0
  crcErrors : Nat := 0
  addressErrors : Nat := 0
  unhandled : Nat := 0
  sent : Nat := 0
  replyDrops : Nat := 0
  deriving DecidableEq, Repr

/-- One port: its reply queue, its Forward FIFO, the frame in transmission and its counter (R13, R14, R17, R18). -/
structure PortUnit where
  replies : List QFrame := []
  forward : List QFrame := []
  sending : Option Sending := none
  seqCounter : Byte := 0
  counts : PortCounts := {}
  deriving DecidableEq, Repr

/-- Both ports; the alert queue, the link state and the reply place reservations are the trunk's (R6, R14, R16). -/
structure Ports where
  field : PortUnit := {}
  trunk : PortUnit := {}
  alertQueue : List QFrame := []
  reserved : Nat := 0
  linkUp : Bool := false
  mgmtDiscards : Nat := 0
  alertDrops : Nat := 0
  deriving DecidableEq, Repr

/-- The counts of one direction (R20). -/
structure DirCounts where
  heldBack : Nat := 0
  forwarded : Nat := 0
  overflow : Nat := 0
  deriving DecidableEq, Repr

/-- The Class Table, the pass masks and the directions' counts (R8, R10, R20). -/
structure PassPath where
  classTable : Vector Byte 256 := Vector.replicate 256 0x01
  upRoute : Byte := 0x01
  upIdle : Byte := 0x01
  downRoute : Byte := 0x01
  downIdle : Byte := 0x01
  upCounts : DirCounts := {}
  downCounts : DirCounts := {}
  deriving DecidableEq, Repr

/-! ### The Station Table -/

/-- What kind of station an entry is, and what it is bound to (R21). -/
inductive Binding
  | probe (comp : Fin 4) (pos : Fin 4) (offset : Int)
  | door (comp : Fin 4) (pos : Fin 2)
  | terminal
  | other
  deriving DecidableEq, Repr

/-- A Station Table entry: loaded fields (R21), then live fields and counts (R22). doorLive none is UNKNOWN. -/
structure Station where
  addr : Byte
  binding : Binding
  override : Option Byte
  seqSeen : Bool := false
  lastSeq : Byte := 0
  latest : Option (Int × Nat) := none
  faultMark : Option (SensorFault × Nat) := none
  doorLive : Option DoorState := none
  doorTime : Option Nat := none
  taken : Nat := 0
  repeats : Nat := 0
  held : Nat := 0
  deriving DecidableEq, Repr

/-- The Station Table, entries in rising address order, and its counts (R38). -/
structure StationTable where
  entries : List Station := []
  repeats : Nat := 0
  unknownSource : Nat := 0
  kindMismatches : Nat := 0
  shortReadings : Nat := 0
  probeFaults : Nat := 0
  clamped : Nat := 0
  deriving DecidableEq, Repr

/-! ### Compartments: profile, Settle Window, account, doors -/

/-- A Compartment Table entry (R63, R105). -/
structure Profile where
  enabled : Bool := false
  limit : Int := -288
  severe : Int := -192
  hysteresis : Nat := 16
  weight : Nat := 4
  freshness : Nat := 240
  openLimit : Nat := 240
  budget : Nat := 0
  deriving DecidableEq, Repr

/-- What a pending event says (R43). -/
inductive EventContent
  | probe (pos : Fin 4) (value : Int)
  | door (pos : Fin 2) (state : DoorState)
  deriving DecidableEq, Repr

/-- A pending event (R43). -/
structure PendingEvent where
  time : Nat
  arrival : Nat
  content : EventContent
  deriving DecidableEq, Repr

/-- A Settle Window, events earliest first (R43, R44, R45). armed: the compartment was enabled at ROUTE_OPEN (R46). -/
structure Window where
  armed : Bool := false
  events : List PendingEvent := []
  arrivals : Nat := 0
  committed : Nat := 0
  inserted : Nat := 0
  forced : Nat := 0
  afterClose : Nat := 0
  closeDiscards : Nat := 0
  deriving DecidableEq, Repr

/-- The accounting state (R64). thermal none is NO_DATA; a reading and the peak carry their time. -/
structure Account where
  e : Nat := 0
  p : Nat := 0
  h : Nat := 0
  readings : Vector (Option (Int × Nat)) 4 := Vector.replicate 4 none
  tg : Option Int := none
  thermal : Option Grade := none
  lastClass : Grade := .inLimit
  severeCount : Nat := 0
  peak : Option (Int × Nat) := none
  gap : Nat := 0
  late : Nat := 0
  lateWarm : Nat := 0
  satFlag : Bool := false
  budgetFlag : Bool := false
  deriving DecidableEq, Repr

/-- One door slot of the Door Monitor (R88). -/
structure DoorSlot where
  opening : Option Nat := none
  deadline : Option Nat := none
  liveOpenings : Nat := 0
  longOpenings : Nat := 0
  settled : DoorState := .closed
  since : Nat := 0
  deriving DecidableEq, Repr

/-- A compartment's route totals of the Door Monitor (R88). -/
structure DoorTotals where
  openings : Nat := 0
  unscheduled : Nat := 0
  openTicks : Nat := 0
  redundant : Nat := 0
  deriving DecidableEq, Repr

/-- One compartment. -/
structure Comp where
  profile : Profile := {}
  window : Window := {}
  account : Account := {}
  doors : Vector DoorSlot 2 := Vector.replicate 2 {}
  totals : DoorTotals := {}
  deriving DecidableEq, Repr

/-! ### Route, manifest, stops -/

/-- A defined Product Class Table entry (R107). -/
structure ProductClass where
  budget : Nat
  gapTolerance : Nat
  receiptLimit : Int
  shockSensitive : Bool
  deriving DecidableEq, Repr

/-- An item of a drop (R110). -/
structure Item where
  product : Nat
  lot : Nat
  cls : Fin 16
  comp : Fin 4
  planned : Nat
  accepted : Nat := 0
  refused : Nat := 0
  reason : Option RefusalReason := none
  receipt : Option Int := none
  auto : Option Verdict := none
  deriving DecidableEq, Repr

/-- A drop of the manifest (R109). allowance is in ticks; reservation is a slot index. -/
structure Drop where
  number : Nat
  site : Nat
  mask : BitVec 4
  allowance : Nat
  items : List Item
  state : DropState := .planned
  reservation : Option (Fin 256) := none
  record : Option Nat := none
  owner : Option Byte := none
  deriving DecidableEq, Repr

/-- The staged part of a two-part MANIFEST_LOAD, as it was sent (R111). -/
structure StagedPart where
  number : Nat
  site : Nat
  mask : Byte
  allowance : Nat
  total : Nat
  items : List Item
  deriving DecidableEq, Repr

/-- The route (R104, R114). -/
structure Route where
  state : RouteState := .noRoute
  id : Nat := 0
  openTime : Nat := 0
  closeTime : Option Nat := none
  closeReason : Option CloseReason := none
  reservation : Option (Fin 256) := none
  staged : Option StagedPart := none
  deriving DecidableEq, Repr

/-- A compartment's snapshot at its resolution (R138). toBreach says that P was moved into E and not into H. -/
structure Snapshot where
  e : Nat
  h : Nat
  moved : Nat
  toBreach : Bool
  severeCount : Nat
  gap : Nat
  peak : Option (Int × Nat)
  lateWarm : Nat
  unscheduled : Nat
  openTicks : Nat
  used : Nat
  saturated : Bool
  deriving DecidableEq, Repr

/-- What a stop context holds for one compartment of its mask (R123). -/
structure CtxComp where
  comp : Fin 4
  start : Nat
  allowance : Nat
  used : Nat := 0
  openTicks : Nat := 0
  resolved : Bool := false
  snapshot : Option Snapshot := none
  deriving DecidableEq, Repr

/-- A stop context (R123). -/
structure Context where
  drop : Nat
  arrival : Nat
  comps : List CtxComp
  endTime : Option Nat := none
  outcome : Option StopOutcome := none
  handoverClose : Option Nat := none
  digest : Option (BitVec 64) := none
  attempts : Nat := 0
  idleDeadline : Option Nat := none
  departDeadline : Option Nat := none
  deriving DecidableEq, Repr

/-- The Stop Controller's counts (R145). -/
structure StopCounts where
  requests : Nat := 0
  accepted : Nat := 0
  retries : Nat := 0
  refused : Nat := 0
  malformed : Nat := 0
  handoverTimeouts : Nat := 0
  abandoned : Nat := 0
  deriving DecidableEq, Repr

/-! ### The Proof Store -/

/-- A record's common header (R151). -/
structure RecordHeader where
  number : Nat
  kind : RecordKind
  routeId : Nat
  fillTime : Nat
  chain : BitVec 32
  deriving DecidableEq, Repr

/-- The seed of an enabled compartment in a ROUTE_OPEN record (R152). -/
structure SeedEntry where
  readings : Vector (Option (Int × Nat)) 4
  tg : Option Int
  thermal : Option Grade
  door0 : DoorState
  door1 : DoorState
  deriving DecidableEq, Repr

/-- The body of a ROUTE_OPEN record (R152). Drops are their number, site code and item count; seeds are of the enabled compartments in rising order. -/
structure RouteOpenBody where
  openTime : Nat
  settings : Settings
  profiles : Vector Profile 4
  classes : Vector (Option ProductClass) 16
  seeds : List (Fin 4 × SeedEntry)
  drops : List (Nat × Nat × Nat)
  deriving DecidableEq, Repr

/-- A compartment's part of a DROP_OUTCOME record: its start and its snapshot (R141). -/
structure OutcomeComp where
  comp : Fin 4
  start : Nat
  snap : Snapshot
  deriving DecidableEq, Repr

/-- The body of a DROP_OUTCOME record (R141). -/
structure DropOutcomeBody where
  number : Nat
  site : Nat
  mask : BitVec 4
  allowance : Nat
  outcome : StopOutcome
  owner : Option Byte
  arrival : Nat
  endTime : Nat
  handoverClose : Option Nat
  digest : Option (BitVec 64)
  attempts : Nat
  comps : List OutcomeComp
  items : List Item
  deriving DecidableEq, Repr

/-- The body of a ROUTE_CLOSE record (R153): the final account and totals of each compartment enabled at the open, and each drop's number, site, final state and record number. -/
structure RouteCloseBody where
  closeTime : Nat
  reason : CloseReason
  comps : List (Fin 4 × Account × DoorTotals)
  drops : List (Nat × Nat × DropState × Option Nat)
  deriving DecidableEq, Repr

/-- A verdict entry (R172): index none is the ALL of an UNKNOWN_RECORD entry; eu is E of the snapshot in EU, 0 where the figures are zero; budget in °C·min; gap in whole seconds. -/
structure VerdictEntry where
  index : Option Nat
  verdict : Verdict
  eu : Nat := 0
  budget : Nat := 0
  gapSeconds : Nat := 0
  deriving DecidableEq, Repr

/-- The body of a CLAIM_VERDICT record (R154). -/
structure ClaimVerdictBody where
  tag : Nat
  port : Port
  station : Byte
  reference : ClaimRef
  resolved : Option Nat
  selector : Selector
  kind : ClaimKind
  entries : List VerdictEntry
  deriving DecidableEq, Repr

/-- The body of a STORE_FAULT record (R154). -/
structure StoreFaultBody where
  source : FaultSource
  time : Nat
  slot : Fin 256
  number : Nat
  kind : RecordKind
  faults : Nat
  free : Nat
  deriving DecidableEq, Repr

/-- A record's body (R152, R153, R154). -/
inductive RecordBody
  | routeOpen (b : RouteOpenBody)
  | dropOutcome (b : DropOutcomeBody)
  | routeClose (b : RouteCloseBody)
  | claimVerdict (b : ClaimVerdictBody)
  | storeFault (b : StoreFaultBody)
  deriving DecidableEq, Repr

/-- A slot of the Proof Store (R146). A CORRUPT slot keeps its header and carries the fetched mark. -/
inductive Slot
  | free
  | reserved
  | filled (h : RecordHeader) (b : RecordBody)
  | taken (h : RecordHeader) (b : RecordBody)
  | corrupt (h : RecordHeader) (fetched : Bool)
  deriving DecidableEq, Repr

/-- A recovery under way, with what its STORE_FAULT record will say (R159, R160). -/
structure Recovery where
  source : FaultSource
  time : Nat
  slot : Fin 256
  number : Nat
  kind : RecordKind
  deadline : Nat
  deriving DecidableEq, Repr

/-- The Proof Store's counts (R163). -/
structure StoreCounts where
  fills : Nat := 0
  verifyFailures : Nat := 0
  faults : Nat := 0
  fillFaults : Nat := 0
  fetchFaults : Nat := 0
  claimFaults : Nat := 0
  faultRecords : Nat := 0
  fetched : Nat := 0
  released : Nat := 0
  deriving DecidableEq, Repr

/-- The Proof Store (R146, R147, R150, R159 to R161). spareMap lists the slots a spare area has been mapped for, in order, one area each (R160). -/
structure Store where
  slots : Vector Slot 256 := Vector.replicate 256 .free
  fillList : List (Fin 256) := []
  nextNumber : Nat := 1
  chain : BitVec 32 := 0x6D2B79F5
  faultInProgress : Bool := false
  lockout : Bool := false
  recovery : Option Recovery := none
  spareMap : List (Fin 256) := []
  counts : StoreCounts := {}
  deriving DecidableEq, Repr

/-! ### Claims, alerts, agent, array -/

/-- The judgement of an EVALUATED claim: the verdict list, and the drop number the record holds (R171, R175). -/
structure Judgement where
  drop : Nat
  entries : List VerdictEntry
  deriving DecidableEq, Repr

/-- A claim of the Claim Queue (R165). judged none is WAITING. -/
structure Claim where
  tag : Nat
  port : Port
  station : Byte
  reference : ClaimRef
  resolved : Option Nat
  selector : Selector
  kind : ClaimKind
  lodged : Nat
  judged : Option Judgement := none
  reservation : Fin 256
  deriving DecidableEq, Repr

/-- The Claim Unit's counts (R180). -/
structure ClaimCounts where
  lodged : Nat := 0
  turnedAway : Nat := 0
  refused : Nat := 0
  malformed : Nat := 0
  released : Nat := 0
  aborted : Nat := 0
  supported : Nat := 0
  unknownRecord : Nat := 0
  deriving DecidableEq, Repr

/-- The Claim Unit, oldest claim first (R165). -/
structure ClaimUnit where
  queue : List Claim := []
  counts : ClaimCounts := {}
  deriving DecidableEq, Repr

/-- What the Alert Unit holds for one code (R182). -/
structure AlertEntry where
  level : Nat := 3
  raises : Nat := 0
  pending : Nat := 0
  lastFrame : Option Nat := none
  deriving DecidableEq, Repr

/-- The Alert Unit (R182); the holdoff stands in Settings. -/
structure AlertUnit where
  table : Vector AlertEntry 21 := Vector.replicate 21 {}
  mask : Nat := 0
  deriving DecidableEq, Repr

/-- The Management Agent's counts (R203). -/
structure AgentCounts where
  taken : Nat := 0
  done : Nat := 0
  busy : Nat := 0
  refused : Nat := 0
  malformed : Nat := 0
  lockout : Nat := 0
  deriving DecidableEq, Repr

/-- The MODEL's own: the results of the array's coming reads (true: uncorrectable data), and the number of reads made. When the script is used up, the result is Config.readFails of the number (log entry 5). -/
structure ArrayReads where
  script : List Bool := []
  count : Nat := 0
  deriving DecidableEq, Repr

/-- The device, and the queue of the commands that are waiting. -/
structure State where
  pending : List Instr := []
  power : Power := {}
  clock : Clock := {}
  config : Settings := {}
  ports : Ports := {}
  pass : PassPath := {}
  stations : StationTable := {}
  comps : Vector Comp 4 := Vector.replicate 4 {}
  classes : Vector (Option ProductClass) 16 := Vector.replicate 16 none
  route : Route := {}
  drops : List Drop := []
  contexts : List Context := []
  stopCounts : StopCounts := {}
  store : Store := {}
  claims : ClaimUnit := {}
  alerts : AlertUnit := {}
  agent : AgentCounts := {}
  array : ArrayReads := {}
  /-- The MODEL's own: the settlements completed outside LOCKOUT so far, which a forced settlement reports by difference (log entry 18). -/
  completions : Nat := 0
  deriving DecidableEq, Repr

/-- The device after a cold start, with an empty queue of commands (R208 and the cold-start columns of R20, R38, R61, R87, R103, R120, R144, R164, R181, R189, R203). -/
def State.reset : State := {}

end Sys2Proof.Machine
end

