-- ==== Sys2Proof/Machine/Layouts.lean ====
section
/-! DEFINITION. Byte layouts of record bodies, items, verdict entries and the annotation trailer (chapter 13). -/
namespace Sys2Proof.Machine

/-- An exposure in °C·min: whole part, then 1/256ths, both chopped (R84). -/
def euReport (x : Nat) : Nat × Nat := (x / 3840, x % 3840 / 15)

/-- An exposure as reported: 4 bytes whole, 1 byte fraction (13.3). -/
def euBytes (x : Nat) : List Byte := beBytes 4 (euReport x).1 ++ beBytes 1 (euReport x).2

/-- A compartment mask byte, bit c for compartment c (13.3). -/
def maskByte (m : BitVec 4) : Byte := m.setWidth 8

/-- A Compartment Table entry in 13 bytes (13.5). -/
def profileBytes (q : Profile) : List Byte :=
  yesNo q.enabled :: beInt 2 q.limit ++ beInt 2 q.severe ++ beBytes 1 q.hysteresis ++ beBytes 1 q.weight
    ++ beBytes 2 q.freshness ++ beBytes 2 q.openLimit ++ beBytes 2 q.budget

/-- The four fields of a defined Product Class Table entry, in 7 bytes (13.5). -/
def classFieldBytes (k : ProductClass) : List Byte :=
  beBytes 2 k.budget ++ beBytes 2 k.gapTolerance ++ beInt 2 k.receiptLimit ++ [yesNo k.shockSensitive]

/-- A Product Class Table entry in the 8 bytes of a ROUTE_OPEN record, zeros when UNDEFINED (13.6). -/
def classRecordBytes (k : Option ProductClass) : List Byte :=
  match k with
  | none => List.replicate 8 0
  | some k => 1 :: classFieldBytes k

/-- An item's 9-byte load entry (13.5). -/
def loadEntryBytes (i : Item) : List Byte :=
  beBytes 3 i.product ++ beBytes 4 i.lot ++ beBytes 2 (i.cls.val * 4096 + i.comp.val * 1024 + i.planned)

/-- The packed receipt code: temperature plus 880, 4095 when absent (13.5, R210). -/
def receiptCode (r : Option Int) : Nat :=
  match r with
  | none => 4095
  | some t => (t + 880).toNat

/-- An item's 5-byte outcome part (13.5). -/
def outcomePartBytes (i : Item) : List Byte :=
  let reason := (i.reason.map fun r => (refusalCode r).toNat).getD 0
  let auto := (i.auto.map fun v => (verdictCode v).toNat).getD 0
  beBytes 5 ((((i.accepted * 1024 + i.refused) * 8 + reason) * 8 + auto) * 4096 * 4 + receiptCode i.receipt * 4)

/-- An item in 14 bytes: load entry and outcome part (13.5). -/
def itemBytes (i : Item) : List Byte := loadEntryBytes i ++ outcomePartBytes i

/-- A list behind its one-byte count (R211). -/
def listBytes (entries : List (List Byte)) : List Byte := BitVec.ofNat 8 entries.length :: entries.flatten

/-- A verdict entry in 13 bytes (13.6). -/
def verdictEntryBytes (v : VerdictEntry) : List Byte :=
  [selectorCode v.index, verdictCode v.verdict] ++ euBytes v.eu ++ beBytes 2 v.budget ++ beBytes 4 v.gapSeconds

/-- The seed of one compartment in a ROUTE_OPEN record (13.6). -/
def seedBytes (s : SeedEntry) : List Byte :=
  (s.readings.toList.map readingBytes).flatten ++ tempBytes s.tg ++ [thermalCode s.thermal, doorStateCode s.door0, doorStateCode s.door1]

/-- A set of compartments as a mask byte. -/
def compsMask (cs : List (Fin 4)) : Byte := cs.foldl (fun m c => m ||| (1#8 <<< c.val)) 0

/-- The body of a ROUTE_OPEN record (13.6). -/
def routeOpenBytes (b : RouteOpenBody) : List Byte :=
  beBytes 4 b.openTime ++ beBytes 2 b.settings.settleDelay ++ beBytes 2 b.settings.arrivalLead
    ++ beBytes 2 b.settings.idleTimeout ++ beBytes 2 b.settings.departTimeout
    ++ (b.profiles.toList.map profileBytes).flatten
    ++ (b.classes.toList.map classRecordBytes).flatten
    ++ [compsMask (b.seeds.map (·.1))] ++ (b.seeds.map fun e => seedBytes e.2).flatten
    ++ listBytes (b.drops.map fun d => beBytes 1 d.1 ++ beBytes 4 d.2.1 ++ beBytes 1 d.2.2)

/-- One compartment of a DROP_OUTCOME record (13.6). -/
def outcomeCompBytes (o : OutcomeComp) : List Byte :=
  beBytes 1 o.comp.val ++ beBytes 4 o.start ++ beBytes 4 o.snap.e ++ beBytes 4 o.snap.h ++ beBytes 4 o.snap.moved
    ++ [yesNo o.snap.toBreach] ++ beBytes 1 o.snap.severeCount ++ beBytes 4 o.snap.gap ++ readingBytes o.snap.peak
    ++ beBytes 2 o.snap.lateWarm ++ beBytes 2 o.snap.unscheduled ++ beBytes 4 o.snap.openTicks
    ++ beBytes 2 o.snap.used ++ [yesNo o.snap.saturated]

/-- The body of a DROP_OUTCOME record (13.6). -/
def dropOutcomeBytes (b : DropOutcomeBody) : List Byte :=
  beBytes 1 b.number ++ beBytes 4 b.site ++ [maskByte b.mask] ++ beBytes 2 (b.allowance / 4)
    ++ [outcomeCode b.outcome, b.owner.getD 0] ++ beBytes 4 b.arrival ++ beBytes 4 b.endTime
    ++ timeBytes b.handoverClose ++ withPresence (b.digest.map fun d => beBytes 8 d.toNat) ++ beBytes 1 b.attempts
    ++ (b.comps.map outcomeCompBytes).flatten ++ listBytes (b.items.map itemBytes)

/-- One compartment of a ROUTE_CLOSE record (13.6). -/
def closeCompBytes (a : Account) (t : DoorTotals) : List Byte :=
  beBytes 4 a.e ++ beBytes 4 a.p ++ beBytes 4 a.h ++ beBytes 1 a.severeCount ++ beBytes 4 a.gap ++ readingBytes a.peak
    ++ beBytes 2 a.late ++ beBytes 2 a.lateWarm ++ beBytes 1 (a.satFlag.toNat + 2 * a.budgetFlag.toNat)
    ++ beBytes 2 t.openings ++ beBytes 2 t.unscheduled ++ beBytes 4 t.openTicks ++ beBytes 2 t.redundant

/-- The body of a ROUTE_CLOSE record (13.6). -/
def routeCloseBytes (b : RouteCloseBody) : List Byte :=
  beBytes 4 b.closeTime ++ [closeReasonCode b.reason, compsMask (b.comps.map (·.1))]
    ++ (b.comps.map fun c => closeCompBytes c.2.1 c.2.2).flatten
    ++ listBytes (b.drops.map fun d =>
        beBytes 1 d.1 ++ beBytes 4 d.2.1 ++ [dropStateCode d.2.2.1] ++ numberBytes 2 d.2.2.2)

/-- The body of a CLAIM_VERDICT record (13.6). -/
def claimVerdictBytes (b : ClaimVerdictBody) : List Byte :=
  beBytes 2 b.tag ++ [portCode b.port, b.station] ++ refBytes b.reference ++ numberBytes 2 b.resolved
    ++ [selectorCode b.selector, claimKindCode b.kind] ++ listBytes (b.entries.map verdictEntryBytes)

/-- The body of a STORE_FAULT record (13.6). -/
def storeFaultBytes (b : StoreFaultBody) : List Byte :=
  sourceCode b.source :: beBytes 4 b.time ++ beBytes 1 b.slot.val ++ beBytes 2 b.number ++ [recordKindCode b.kind]
    ++ beBytes 4 b.faults ++ beBytes 2 b.free

/-- A record's body in bytes (13.6). -/
def bodyBytes : RecordBody → List Byte
  | .routeOpen b => routeOpenBytes b
  | .dropOutcome b => dropOutcomeBytes b
  | .routeClose b => routeCloseBytes b
  | .claimVerdict b => claimVerdictBytes b
  | .storeFault b => storeFaultBytes b

/-- The kind of a body. -/
def bodyKind : RecordBody → RecordKind
  | .routeOpen _ => .routeOpen
  | .dropOutcome _ => .dropOutcome
  | .routeClose _ => .routeClose
  | .claimVerdict _ => .claimVerdict
  | .storeFault _ => .storeFault

/-- The header fields other than the chain value (R151, 13.6). -/
def headerBytes (number : Nat) (kind : RecordKind) (routeId fillTime : Nat) : List Byte :=
  beBytes 2 number ++ [recordKindCode kind] ++ beBytes 4 routeId ++ beBytes 4 fillTime

/-- The chain value of a record: CRC-32 of the chain value before it, its header fields and its body (R150). -/
def chainValue (before : BitVec 32) (number : Nat) (kind : RecordKind) (routeId fillTime : Nat) (body : RecordBody) : BitVec 32 :=
  crc32 (beBytes 4 before.toNat ++ headerBytes number kind routeId fillTime ++ bodyBytes body)

/-- How many 192-byte segments a body has: at least one (R151). -/
def segmentCount (body : RecordBody) : Nat := max 1 (((bodyBytes body).length + 191) / 192)

/-- Segment i of a body: bytes 192 × i onward (R211). -/
def segmentBytes (body : RecordBody) (i : Nat) : List Byte := ((bodyBytes body).drop (192 * i)).take 192

/-- The annotation trailer (R11, 13.1). -/
def trailerBytes (m : Marks) (activeDrop : Nat) (now : Nat) : List Byte :=
  enumByte (m.comp.map fun c => BitVec.ofNat 8 c.val) :: beBytes 2 (markFlags m) ++ tempBytes m.temperature
    ++ beBytes 1 activeDrop ++ beBytes 2 (now % 65536)

end Sys2Proof.Machine
end

