-- ==== Sys2Proof/Machine/Retention.lean ====
section
/-! DEFINITION. The retention domain: what a start loses, the check word over what is kept, and its upkeep (R204, R206). -/
namespace Sys2Proof.Machine

/-! ### What is kept -/

/-- The ports without what a start loses: the queues are empty, nothing is in transmission, no place is reserved, the link is DOWN (R20, R206, step 1). -/
def emptyQueues (p : Ports) : Ports :=
  { p with
    field := { p.field with replies := [], forward := [], sending := none }
    trunk := { p.trunk with replies := [], forward := [], sending := none }
    alertQueue := [], reserved := 0, linkUp := false }

/-- A door slot without its live opening (R101). -/
def resumeDoor (x : DoorSlot) : DoorSlot := { x with opening := none, deadline := none }

/-- s without what a warm resume loses (R206, steps 1 to 3). -/
def clearVolatile (s : State) : State :=
  { s with
    ports := emptyQueues s.ports
    route := { s.route with staged := none }
    stations := { s.stations with entries := s.stations.entries.map fun e => { e with doorLive := none } }
    comps := s.comps.map fun k => { k with doors := k.doors.map resumeDoor } }

/-- The retained state: what a warm resume keeps, with everything else at one value (R204). The domain's own items, the check word and the down time, are not part of it, nor is what is the model's own. -/
def State.retained (s : State) : State :=
  { clearVolatile s with pending := [], power := {}, array := {}, completions := 0 }

end Sys2Proof.Machine

namespace Sys2Proof.Config
open Sys2Proof.Machine

/-- FREE VALUE (log entry 6): the bytes of the retained state that the check word covers, in their order. R204 names the items and gives no layout. -/
opaque retainedBytes : State → List Byte
/-- FREE VALUE (log entry 6): what the check word holds after a loss of the backup supply, from the retained state. -/
opaque lostWord : State → BitVec 32

end Sys2Proof.Config

namespace Sys2Proof.Machine

/-! ### The check word -/

/-- The check word computed over the retained state: a CRC-32 started at 0xFFFFFFFF (R204). -/
def State.computedCheck (s : State) : BitVec 32 := crc32 (Config.retainedBytes s.retained)

/-- The check word the domain holds (R204). State holds it as its difference from the word computed (log entry 6). -/
def State.checkWord (s : State) : BitVec 32 := s.computedCheck ^^^ s.power.checkDiff

/-- The check word held agrees with the retained state (R204, R205). -/
def State.checkAgrees (s : State) : Bool := s.power.checkDiff == 0

/-- s with the check word held computed afresh (R204, R208). -/
def State.freshCheck (s : State) : State := { s with power := { s.power with checkDiff := 0 } }

/-- The difference that a loss of the backup supply leaves: any but 0, because the word no longer agrees (R204). -/
def State.lostDiff (s : State) : BitVec 32 := BitVec.ofNat 32 (1 + (Config.lostWord s.retained).toNat % (2 ^ 32 - 1))

/-- What an event of a device with power makes of the check word, old being the state before the event and new the state after it: an event that changes retained state brings the word up to date, and any other leaves it as it was (R204). -/
def keepCheckWord (old new : State) : State :=
  if new.checkAgrees || new.retained == old.retained then new else new.freshCheck

end Sys2Proof.Machine
end

