-- ==== Sys2Proof/Machine/Ops.lean ====
section
/-! DEFINITION. Named operations over the state: reading it, raising an alert, the queues of the ports, the slots of the Proof Store. -/
namespace Sys2Proof.Machine

/-! ### Reading the state -/

/-- Part time (R39). -/
def State.now (s : State) : Nat := s.clock.partTime

/-- Compartment c. -/
def State.comp (s : State) (c : Fin 4) : Comp := s.comps[c]

/-- s with compartment c replaced. -/
def State.setComp (s : State) (c : Fin 4) (v : Comp) : State := { s with comps := s.comps.set c.val v }

/-- s with compartment c changed by f. -/
def State.updComp (s : State) (c : Fin 4) (f : Comp → Comp) : State := s.setComp c (f (s.comp c))

/-- The four compartments in rising order. -/
def compartments : List (Fin 4) := [0, 1, 2, 3]

/-- The eight door slots in rising order (R88). -/
def doorSlots : List (Fin 4 × Fin 2) := [(0, 0), (0, 1), (1, 0), (1, 1), (2, 0), (2, 1), (3, 0), (3, 1)]

/-- The device is in LOCKOUT (R161). -/
def State.lockedOut (s : State) : Bool := s.store.lockout

/-- The route state is OPEN or CLOSING (R104). -/
def State.onRoute (s : State) : Bool := s.route.state != .noRoute

/-- The horizon has reached time t: t is at or before part time minus D (R42). -/
def State.horizonReached (s : State) (t : Nat) : Bool := t + s.config.settleDelay ≤ s.now

/-- Main power is present and the reset line released: the device is not stopped (R204, R205). -/
def State.powered (s : State) : Bool := s.power.mainPower && !s.power.resetAsserted

/-- The device is working, and its check word agrees, as R204 has it at every instant between events; a loss of the backup supply alone leaves a powered device otherwise, until its next event that changes retained state. -/
def State.working (s : State) : Bool := s.powered && s.checkAgrees

/-- An event the device takes only while it is not stopped: stopped, it takes no frame, transmits nothing, raises nothing and expires nothing (R205; log entry 3). The check word follows the event (R204). -/
def whileWorking (f : State → State) (s : State) : State := if s.powered then keepCheckWord s (f s) else s

/-- The drop of a number, when the manifest holds it (R109). -/
def State.findDrop (s : State) (n : Nat) : Option Drop := s.drops.find? fun d => d.number = n

/-- s with the drop of number n changed by f. -/
def State.updDrop (s : State) (n : Nat) (f : Drop → Drop) : State :=
  { s with drops := s.drops.map fun d => if d.number = n then f d else d }

/-- A drop in ACTIVE, HANDING_OVER or HANDED_OVER is a live stop (R92, R121). -/
def isLive : DropState → Bool
  | .active => true
  | .handingOver => true
  | .handedOver => true
  | _ => false

/-- The live stop's drop, if there is one (R121). -/
def State.liveDrop (s : State) : Option Drop := s.drops.find? fun d => isLive d.state

/-- The number of the live stop's drop, 0 when there is none (R11, R92). -/
def State.liveDropNumber (s : State) : Nat :=
  match s.liveDrop with
  | some d => d.number
  | none => 0

/-- The context of a drop (R122). -/
def State.findContext (s : State) (n : Nat) : Option Context := s.contexts.find? fun x => x.drop = n

/-- s with the context of drop n changed by f. -/
def State.updContext (s : State) (n : Nat) (f : Context → Context) : State :=
  { s with contexts := s.contexts.map fun x => if x.drop = n then f x else x }

/-- What a context holds for compartment c, when it includes c (R69). -/
def ctxComp (x : Context) (c : Fin 4) : Option CtxComp := x.comps.find? fun k => k.comp = c

/-- x with what it holds for compartment c changed by f. -/
def ctxUpdComp (x : Context) (c : Fin 4) (f : CtxComp → CtxComp) : Context :=
  { x with comps := x.comps.map fun k => if k.comp = c then f k else k }

/-- The compartments of a mask, in rising order (R211). -/
def maskComps (m : BitVec 4) : List (Fin 4) := compartments.filter fun c => m.getLsbD c.val

/-- The Station Table entry of an address (R21). -/
def State.findStation (s : State) (a : Byte) : Option Station := s.stations.entries.find? fun e => e.addr = a

/-- s with the entry of address a changed by f. -/
def State.updStation (s : State) (a : Byte) (f : Station → Station) : State :=
  { s with stations := { s.stations with entries := s.stations.entries.map fun e => if e.addr = a then f e else e } }

/-- The mode of compartment c's Settle Window (R46). -/
def State.windowMode (s : State) (c : Fin 4) : WindowMode :=
  if s.lockedOut then .frozen
  else if !(s.comp c).window.armed then .idle
  else match s.route.state with
    | .noRoute => .idle
    | .opened => .running
    | .closing => .closing

/-- A window in RUNNING or CLOSING takes hand-overs, the horizon and advance-to (R46). -/
def windowWorks (m : WindowMode) : Bool := m = .running || m = .closing

/-- A compartment is settled-open when either of its slots is OPEN or FAULT (R88). -/
def settledOpen (k : Comp) : Bool := k.doors[0].settled != .closed || k.doors[1].settled != .closed

/-- The items of all drops held (R110). -/
def State.itemsHeld (s : State) : Nat := (s.drops.map fun d => d.items.length).sum

/-- The item pool's free count (R110). -/
def State.poolFree (s : State) : Nat := Config.poolPlaces - s.itemsHeld

/-! ### Frames the device originates, and the alert unit -/

/-- A frame the device originates: source 0xFE, part-originated set, age 0, no trailer; its sequence is given when it is sent (R18). -/
def originate (dst typ : Byte) (payload : List Byte) : QFrame :=
  { frame := { dst := dst, src := deviceAddr, typ := typ, flags := flagOriginated, seq := 0, age := 0, payload := payload, trailer := [] } }

/-- A raise qualifies by level (R183). -/
def levelQualifies (mask level : Nat) : Bool := level != 0 && (mask < level || level == 7)

/-- The holdoff has passed (R184). -/
def holdoffPassed (now holdoff : Nat) (last : Option Nat) : Bool :=
  match last with
  | none => true
  | some t => t + holdoff ≤ now || now < t

/-- The payload of an ALERT frame (R185, 13.7). -/
def alertPayload (k : AlertCode) (level : Nat) (subj : Subject) (now : Nat) (value : Option Int) (raises : Nat) : List Byte :=
  [BitVec.ofNat 8 (alertNumber k), BitVec.ofNat 8 level] ++ subjectBytes subj ++ beBytes 4 now
    ++ withPresence (value.map (beInt 4)) ++ beBytes 2 raises

/-- The entry of a code in the Alert Unit (R182). -/
def State.alertEntry (s : State) (k : AlertCode) : AlertEntry := s.alerts.table[alertIndex k]

/-- A raise of code k leads to an ALERT frame: it qualifies by level and its holdoff has passed (R183, R184). -/
def State.alertForms (s : State) (k : AlertCode) : Bool :=
  levelQualifies s.alerts.mask (s.alertEntry k).level && holdoffPassed s.now s.config.alertHoldoff (s.alertEntry k).lastFrame

/-- The alert queue has a place (R16). -/
def State.alertRoom (s : State) : Bool := s.ports.alertQueue.length < Config.alertPlaces

/-- What a raise of code k makes of the code's entry: counted, and cleared of its pending count when its frame is queued (R182, R185). -/
def State.alertEntryAfter (s : State) (k : AlertCode) : AlertEntry :=
  let e := s.alertEntry k
  if s.alertForms k && s.alertRoom then
    { e with raises := satInc max16 e.raises, pending := 0, lastFrame := some s.now }
  else
    { e with raises := satInc max16 e.raises, pending := satInc max16 e.pending }

/-- The ALERT frame a raise of code k forms (R185). -/
def State.alertFrame (s : State) (k : AlertCode) (subj : Subject) (value : Option Int) : QFrame :=
  originate broadcastAddr typAlert
    (alertPayload k (s.alertEntry k).level subj s.now value (satInc max16 (s.alertEntry k).pending))

/-- A raise: counted, judged by level and holdoff, and offered to the alert queue when it forms a frame (R16, R182 to R185). -/
def raise (k : AlertCode) (subj : Subject) (value : Option Int) (s : State) : State :=
  { s with
    alerts := { s.alerts with table := s.alerts.table.set (alertIndex k).val (s.alertEntryAfter k) }
    ports := { s.ports with
      alertQueue :=
        if s.alertForms k && s.alertRoom then s.ports.alertQueue ++ [s.alertFrame k subj value] else s.ports.alertQueue
      alertDrops :=
        if s.alertForms k && !s.alertRoom then satInc max32 s.ports.alertDrops else s.ports.alertDrops } }

/-! ### Queues of the ports -/

/-- The unit of a port. -/
def State.port (s : State) (p : Port) : PortUnit :=
  match p with
  | .field => s.ports.field
  | .trunk => s.ports.trunk

/-- s with the unit of a port changed by f. -/
def State.updPort (s : State) (p : Port) (f : PortUnit → PortUnit) : State :=
  match p with
  | .field => { s with ports := { s.ports with field := f s.ports.field } }
  | .trunk => { s with ports := { s.ports with trunk := f s.ports.trunk } }

/-- s with the counts of a port changed by f. -/
def State.updPortCounts (s : State) (p : Port) (f : PortCounts → PortCounts) : State :=
  s.updPort p fun u => { u with counts := f u.counts }

/-- Places of a port's reply queue that are occupied, or reserved on the trunk (R14). -/
def State.replyPlacesUsed (s : State) (p : Port) : Nat :=
  match p with
  | .field => s.ports.field.replies.length
  | .trunk => s.ports.trunk.replies.length + s.ports.reserved

/-- A TERMINAL_REPLY or CLAIM_ANSWER joins its port's reply queue, or is dropped and counted when no place is free (R15). -/
def offerReply (p : Port) (f : QFrame) (s : State) : State :=
  s.updPort p fun u =>
    if s.replyPlacesUsed p < Config.replyPlaces then { u with replies := u.replies ++ [f] }
    else { u with counts := { u.counts with replyDrops := satInc max32 u.counts.replyDrops } }

/-- The port a direction leaves by: up by the trunk, down by the field (1.6). -/
def outPort : Direction → Port
  | .up => .trunk
  | .down => .field

/-- s with the counts of a direction changed by f. -/
def State.updDirCounts (s : State) (d : Direction) (f : DirCounts → DirCounts) : State :=
  match d with
  | .up => { s with pass := { s.pass with upCounts := f s.pass.upCounts } }
  | .down => { s with pass := { s.pass with downCounts := f s.pass.downCounts } }

/-- A frame for a direction's Forward FIFO: it joins the tail, or is dropped with FORWARD_OVERFLOW when the FIFO is full (R13, R182). -/
def joinFifo (d : Direction) (f : Frame) (s : State) : State :=
  if (s.port (outPort d)).forward.length < Config.fifoPlaces then
    (s.updPort (outPort d) fun u => { u with forward := u.forward ++ [{ frame := f }] }).updDirCounts d
      fun k => { k with forwarded := satInc max32 k.forwarded }
  else
    raise .forwardOverflow (.direction d) (some f.typ.toNat)
      (s.updDirCounts d fun k => { k with overflow := satInc max32 k.overflow })

/-! ### Slots of the Proof Store -/

/-- The slot of an index (R146). -/
def State.slot (s : State) (i : Fin 256) : Slot := s.store.slots[i]

/-- s with the slot of an index replaced. -/
def State.setSlot (s : State) (i : Fin 256) (v : Slot) : State :=
  { s with store := { s.store with slots := s.store.slots.set i.val v } }

/-- A slot is FREE. -/
def Slot.isFree : Slot → Bool
  | .free => true
  | _ => false

/-- The header a FILLED, TAKEN or CORRUPT slot holds (R146). -/
def Slot.header? : Slot → Option RecordHeader
  | .filled h _ => some h
  | .taken h _ => some h
  | .corrupt h _ => some h
  | _ => none

/-- The number of FREE slots (R148). -/
def State.freeCount (s : State) : Nat := s.store.slots.toList.countP Slot.isFree

/-- The FREE slot with the lowest index (R148, R149). -/
def State.lowestFree (s : State) : Option (Fin 256) := (List.finRange 256).find? fun i => (s.slot i).isFree

/-- STORE_LOW after a decrease of the FREE count that leaves it below 8 (R148). -/
def storeLowCheck (s : State) : State :=
  if s.freeCount < 8 then raise .storeLow .store (some s.freeCount) s else s

/-- The FREE slot i becomes RESERVED (R148). -/
def reserveSlot (i : Fin 256) (s : State) : State := storeLowCheck (s.setSlot i .reserved)

/-- A reservation is handed back: its slot becomes FREE (R148). -/
def handBack (i : Fin 256) (s : State) : State := s.setSlot i .free

/-- The slot in the fill list that carries a record number (R147). -/
def State.findRecord (s : State) (n : Nat) : Option (Fin 256) :=
  s.store.fillList.find? fun i => (s.slot i).header?.any fun h => h.number == n

/-! ### Reads of the array -/

/-- The array's next read of a body finds uncorrectable data: a free value (log entry 5). -/
def State.readFails (s : State) : Bool :=
  match s.array.script with
  | b :: _ => b
  | [] => Config.readFails s.array.count

/-- One read of a body has been made. -/
def State.afterRead (s : State) : State :=
  { s with array := { script := s.array.script.tail, count := s.array.count + 1 } }

end Sys2Proof.Machine
end

