-- ==== Sys2Proof/Machine/Store.lean ====
section
/-! DEFINITION. The Proof Store: filling, verifying, store faults, recovery and entry into LOCKOUT; and the aborting of claims that the entry makes (R146 to R164, R178). -/
namespace Sys2Proof.Machine

/-! ### Claim answers and aborts -/

/-- The payload of a CLAIM_ANSWER (R176, 13.7). -/
def claimAnswerPayload (k : Claim) (result : Byte) (verdictRecord : Nat) (part parts : Nat) (entries : List VerdictEntry) : List Byte :=
  beBytes 2 k.tag ++ [result] ++ refBytes k.reference ++ numberBytes 2 k.resolved ++ [claimKindCode k.kind]
    ++ beBytes 2 verdictRecord ++ beBytes 1 part ++ beBytes 1 parts ++ listBytes (entries.map verdictEntryBytes)

/-- One frame of a claim's answer, offered to the requester's port (R15, R176). -/
def sendClaimAnswer (k : Claim) (payload : List Byte) (s : State) : State :=
  offerReply k.port (originate k.station typClaimAnswer payload) s

/-- s with the Claim Unit's counts changed by f. -/
def State.updClaimCounts (s : State) (f : ClaimCounts → ClaimCounts) : State :=
  { s with claims := { s.claims with counts := f s.claims.counts } }

/-- One claim, the head of the queue, is aborted (R178). -/
def abortClaim (k : Claim) (s : State) : State :=
  let s1 := handBack k.reservation s
  let s2 := { s1 with claims := { s1.claims with queue := s1.claims.queue.tail } }
  let s3 := sendClaimAnswer k (claimAnswerPayload k 1 0 1 1 []) s2
  s3.updClaimCounts fun n => { n with aborted := satInc max32 n.aborted }

/-- Every claim in the queue is aborted, oldest first (R178). -/
def abortClaims (s : State) : State := s.claims.queue.foldl (fun s k => abortClaim k s) s

/-- The abort that entry into LOCKOUT makes. It is its own step, since a claim under release is answered first (R161, R177). -/
def sweepClaims (s : State) : State := if s.lockedOut then abortClaims s else s

/-! ### Detections -/

/-- s with the Proof Store's counts changed by f. -/
def State.updStoreCounts (s : State) (f : StoreCounts → StoreCounts) : State :=
  { s with store := { s.store with counts := f s.store.counts } }

/-- The counts after a detection (R159, R163). -/
def countFault (src : FaultSource) (n : StoreCounts) : StoreCounts :=
  let m := { n with faults := satInc max32 n.faults }
  match src with
  | .fill => { m with fillFaults := satInc max32 n.fillFaults }
  | .fetch => { m with fetchFaults := satInc max32 n.fetchFaults }
  | .claim => { m with claimFaults := satInc max32 n.claimFaults }

/-- Entry into LOCKOUT, but for the abort of the claims (R161): the recovery is abandoned, fault-in-progress stays set. -/
def enterLockout (src : FaultSource) (s : State) : State :=
  raise .lockout .store (some (sourceCode src).toNat)
    { s with store := { s.store with lockout := true, recovery := none } }

/-- A first detection sets fault-in-progress and begins a recovery; a spare area is mapped for the slot while one is left (R159, R160). -/
def beginRecovery (src : FaultSource) (i : Fin 256) (number : Nat) (kind : RecordKind) (s : State) : State :=
  { s with store := { s.store with
      faultInProgress := true
      recovery := some { source := src, time := s.now, slot := i, number := number, kind := kind,
                         deadline := s.now + Config.recoveryTicks }
      spareMap := if s.store.spareMap.length < Config.spareAreas then s.store.spareMap ++ [i] else s.store.spareMap } }

/-- A store-fault detection, taken after the slot has become CORRUPT (R159). The claims that entry into LOCKOUT aborts are left to sweepClaims. -/
def detectFault (src : FaultSource) (i : Fin 256) (number : Nat) (kind : RecordKind) (s : State) : State :=
  let s1 := (raise .storeFault (.slot i) (some (sourceCode src).toNat) s).updStoreCounts (countFault src)
  if s1.lockedOut then s1
  else if s1.store.faultInProgress then enterLockout src s1
  else beginRecovery src i number kind s1

/-! ### Filling -/

/-- Record number after n: 65535 wraps to 1 (R147). -/
def nextNumber (n : Nat) : Nat := if n < 65535 then n + 1 else 1

/-- The header of the record the next fill makes (R149, R150, R151). -/
def State.fillHeader (s : State) (body : RecordBody) : RecordHeader :=
  { number := s.store.nextNumber, kind := bodyKind body, routeId := s.route.id, fillTime := s.now,
    chain := chainValue s.store.chain s.store.nextNumber (bodyKind body) s.route.id s.now body }

/-- Steps 1 to 4 of a fill: the record is numbered, chained and written (R149). -/
def writeRecord (i : Fin 256) (body : RecordBody) (s : State) : State :=
  { s with store := { s.store with
      slots := s.store.slots.set i.val (.filled (s.fillHeader body) body)
      fillList := s.store.fillList ++ [i]
      nextNumber := nextNumber s.store.nextNumber
      chain := (s.fillHeader body).chain
      counts := { s.store.counts with fills := satInc max32 s.store.counts.fills } } }

/-- Step 5 of a fill: the body just written into slot i is read back and verified (R149, R155). -/
def verifyFill (i : Fin 256) (h : RecordHeader) (s : State) : State :=
  if s.readFails then
    detectFault .fill i h.number h.kind
      ((s.afterRead.setSlot i (.corrupt h false)).updStoreCounts fun n =>
        { n with verifyFailures := satInc max32 n.verifyFailures })
  else s.afterRead

/-- A fill into slot i, claims not yet swept (R149). The record number is the next-number register's value before it. -/
def fillCore (i : Fin 256) (body : RecordBody) (s : State) : State :=
  verifyFill i (s.fillHeader body) (writeRecord i body s)

/-- A fill into a reservation (R149). -/
def fillReserved (i : Fin 256) (body : RecordBody) (s : State) : State := sweepClaims (fillCore i body s)

/-- A fill into the FREE slot i, which may raise STORE_LOW (R148, R149). -/
def fillFree (i : Fin 256) (body : RecordBody) (s : State) : State :=
  sweepClaims (verifyFill i (s.fillHeader body) (storeLowCheck (writeRecord i body s)))

/-- The slot holds a record whose verify did not fail. -/
def State.slotSound (s : State) (i : Fin 256) : Bool :=
  match s.slot i with
  | .filled _ _ => true
  | .taken _ _ => true
  | _ => false

/-! ### The end of a recovery -/

/-- The STORE_FAULT record of a recovery; free is the FREE count after the record has taken its slot (R154). -/
def storeFaultBody (r : Recovery) (faults free : Nat) : RecordBody :=
  .storeFault { source := r.source, time := r.time, slot := r.slot, number := r.number, kind := r.kind, faults := faults, free := free }

/-- A recovery r ends: its record is filled when a slot is FREE, and fault-in-progress clears unless the record's verify failed, which has entered LOCKOUT (R160). -/
def endRecovery (r : Recovery) (s : State) : State :=
  match s.lowestFree with
  | none => { s with store := { s.store with faultInProgress := false, recovery := none } }
  | some i =>
    let s1 := fillFree i (storeFaultBody r s.store.counts.faults (s.freeCount - 1)) s
    if s1.lockedOut then s1
    else { s1 with store := { s1.store with
            faultInProgress := false
            recovery := none
            counts := { s1.store.counts with faultRecords := satInc max32 s1.store.counts.faultRecords } } }

/-- A recovery that part time has brought to its deadline ends (R160). -/
def recoveryDue (s : State) : State :=
  match s.store.recovery with
  | some r => if r.deadline ≤ s.now then endRecovery r s else s
  | none => s

/-! ### Claim reads -/

/-- The Proof Store's answer to a claim read: the record's body when it is sound, and none for missing (R159, R171). -/
def State.claimRead (s : State) (n : Nat) : Option RecordBody :=
  match s.findRecord n with
  | none => none
  | some i =>
    match s.slot i with
    | .filled _ b => if s.readFails then none else some b
    | .taken _ b => if s.readFails then none else some b
    | _ => none

/-- What a claim read does: it reads the array when the slot holds a body, and a failed read is a detection with source CLAIM (R159, R171). Claims are swept when it enters LOCKOUT. -/
def afterClaimRead (n : Nat) (s : State) : State :=
  match s.findRecord n with
  | none => s
  | some i =>
    match s.slot i with
    | .filled h _ =>
      if s.readFails then
        sweepClaims (detectFault .claim i h.number h.kind (s.afterRead.setSlot i (.corrupt h false)))
      else s.afterRead
    | .taken h _ =>
      if s.readFails then
        sweepClaims (detectFault .claim i h.number h.kind (s.afterRead.setSlot i (.corrupt h true)))
      else s.afterRead
    | _ => s

end Sys2Proof.Machine
end

