-- ==== Sys2Proof/Machine/Claims.lean ====
section
/-! DEFINITION. The Claim Unit: verdicts, evaluation, release, and what an accepted lodging does (R139, R165 to R181). -/
namespace Sys2Proof.Machine

/-! ### Verdicts -/

/-- The verdict test of one item against a snapshot and a product class (R139). -/
def verdictTest (snap : Snapshot) (k : ProductClass) (receipt : Option Int) : Verdict :=
  if k.budget * 3840 ≤ snap.e || (k.shockSensitive && 1 ≤ snap.severeCount) then .supported
  else match receipt with
    | some t => if k.receiptLimit < t then .supported else .refuted
    | none => if k.gapTolerance * 4 ≤ snap.gap || 1 ≤ snap.lateWarm then .indeterminate else .refuted

/-- A judged item's verdict: the lines of R173 before the verdict test. -/
def itemVerdict (i : Item) (k : Option ProductClass) (snap : Snapshot) : Verdict :=
  if i.accepted = 0 then .notApplicable
  else match k with
    | none => .indeterminate
    | some k => verdictTest snap k i.receipt

/-- The verdict entry of item n of a DROP_OUTCOME record (R172). -/
def itemEntry (classes : Vector (Option ProductClass) 16) (b : DropOutcomeBody) (n : Nat) (i : Item) : VerdictEntry :=
  match b.comps.find? fun o => o.comp = i.comp with
  | some o =>
    { index := some n, verdict := itemVerdict i classes[i.cls] o.snap, eu := o.snap.e,
      budget := (classes[i.cls].map (·.budget)).getD 0, gapSeconds := o.snap.gap / 4 }
  | none => { index := some n, verdict := .indeterminate }

/-- The verdict list of a claim whose record is a sound DROP_OUTCOME record (R172). -/
def judgeItems (classes : Vector (Option ProductClass) 16) (sel : Selector) (b : DropOutcomeBody) : List VerdictEntry :=
  match sel with
  | none => b.items.mapIdx (itemEntry classes b)
  | some n =>
    match b.items[n]? with
    | some i => [itemEntry classes b n i]
    | none => [{ index := some n, verdict := .noSuchItem }]

/-- The judgement of a claim from the answer to its claim read (R171, R172). -/
def judgeClaim (classes : Vector (Option ProductClass) 16) (sel : Selector) (answer : Option RecordBody) : Judgement :=
  match answer with
  | some (.dropOutcome b) => { drop := b.number, entries := judgeItems classes sel b }
  | _ => { drop := 0, entries := [{ index := sel, verdict := .unknownRecord }] }

/-- The answer of a claim read makes the claim UNKNOWN_RECORD (R171). -/
def answerUnknown (answer : Option RecordBody) : Bool :=
  match answer with
  | some (.dropOutcome _) => false
  | _ => true

/-! ### Evaluation -/

/-- The claim at place i of the queue is evaluated, when its resolved record number is present and it is WAITING (R170, R171). When its read enters LOCKOUT the queue is empty afterwards and nothing is judged. -/
def evaluateAt (i : Nat) (s : State) : State :=
  match s.claims.queue[i]? with
  | none => s
  | some k =>
    match k.resolved, k.judged with
    | some n, none =>
      let answer := s.claimRead n
      let s1 := afterClaimRead n s
      if s1.lockedOut then s1
      else
        { s1 with claims :=
            { queue := s1.claims.queue.set i { k with judged := some (judgeClaim s1.classes k.selector answer) }
              counts := { s1.claims.counts with
                unknownRecord :=
                  if answerUnknown answer then satInc max32 s1.claims.counts.unknownRecord
                  else s1.claims.counts.unknownRecord } } }
    | _, _ => s

/-! ### Release -/

/-- The CLAIM_VERDICT body of a judged claim (R154, R175). -/
def claimVerdictBody (k : Claim) (j : Judgement) : RecordBody :=
  .claimVerdict { tag := k.tag, port := k.port, station := k.station, reference := k.reference, resolved := k.resolved,
                  selector := k.selector, kind := k.kind, entries := j.entries }

/-- The answer of a released claim: one frame for up to 16 entries, else two (R176). -/
def answerJudged (k : Claim) (j : Judgement) (verdictRecord : Nat) (s : State) : State :=
  if j.entries.length ≤ 16 then
    sendClaimAnswer k (claimAnswerPayload k 0 verdictRecord 1 1 j.entries) s
  else
    sendClaimAnswer k (claimAnswerPayload k 0 verdictRecord 2 2 (j.entries.drop 16))
      (sendClaimAnswer k (claimAnswerPayload k 0 verdictRecord 1 2 (j.entries.take 16)) s)

/-- CLAIM_SUPPORTED for one SUPPORTED entry (R175). -/
def raiseSupported (drop : Nat) (v : VerdictEntry) (s : State) : State :=
  if v.verdict = .supported then
    (raise .claimSupported (.drop drop) (v.index.map Int.ofNat) s).updClaimCounts fun n =>
      { n with supported := satInc max32 n.supported }
  else s

/-- The head claim k, judged j, is released (R175, R177). -/
def releaseClaim (k : Claim) (j : Judgement) (s : State) : State :=
  let number := s.store.nextNumber
  let s1 := fillCore k.reservation (claimVerdictBody k j) s
  let s2 := { s1 with claims := { s1.claims with queue := s1.claims.queue.tail } }
  let s3 := answerJudged k j number s2
  let s4 := j.entries.foldl (fun s v => raiseSupported j.drop v s) s3
  sweepClaims (s4.updClaimCounts fun n => { n with released := satInc max32 n.released })

/-- Releasing: the head is released while it is EVALUATED, at most fuel times (R174). -/
def releaseLoop : Nat → State → State
  | 0, s => s
  | fuel + 1, s =>
    match s.claims.queue with
    | [] => s
    | k :: _ =>
      match k.judged with
      | none => s
      | some j => releaseLoop fuel (releaseClaim k j s)

/-- Releasing from the head of the queue (R174). -/
def releaseClaims (s : State) : State := releaseLoop s.claims.queue.length s

/-! ### Completion of settlement, and lodging -/

/-- The claim waits on drop d (R170). -/
def waitsOn (d : Nat) (k : Claim) : Bool := k.judged.isNone && k.reference == .drop d && k.resolved.isNone

/-- The Claim Unit is told that drop d has completed with record number n: the claims waiting on it are resolved and evaluated in lodging order, and releasing begins (R170). -/
def tellClaims (d n : Nat) (s : State) : State :=
  let s1 := { s with claims := { s.claims with
      queue := s.claims.queue.map fun k => if waitsOn d k then { k with resolved := some n } else k } }
  releaseClaims ((List.range s1.claims.queue.length).foldl (fun s i => evaluateAt i s) s1)

/-- The operands of a lodging (R166, 13.4). -/
structure LodgeOps where
  tag : Nat
  reference : ClaimRef
  selector : Selector
  kind : ClaimKind
  deriving DecidableEq, Repr

/-- The resolved record number of a claim at lodging (R168). -/
def State.resolveRef (s : State) (r : ClaimRef) : Option Nat :=
  match r with
  | .record n => some n
  | .drop d =>
    match s.findDrop d with
    | some x => match x.state with
      | .final _ => x.record
      | _ => none
    | none => none

/-- The queue and the store have room for one more claim (R166, R167). -/
def State.claimRoom (s : State) : Option (Fin 256) :=
  if s.claims.queue.length < Config.claimPlaces then s.lowestFree else none

/-- Steps 1 and 2 of an accepted lodging: the slot is reserved and the claim joins the tail (R168). -/
def joinClaim (i : Fin 256) (p : Port) (station : Byte) (o : LodgeOps) (s : State) : State :=
  let s1 := reserveSlot i s
  { s1 with claims :=
      { queue := s1.claims.queue ++
          [{ tag := o.tag, port := p, station := station, reference := o.reference, resolved := s.resolveRef o.reference,
             selector := o.selector, kind := o.kind, lodged := s.now, reservation := i }]
        counts := { s1.claims.counts with lodged := satInc max32 s1.claims.counts.lodged } } }

/-- Steps 4 and 5 of an accepted lodging: the new claim, last in the queue, is evaluated when it can be, and releasing begins (R168). -/
def settleLodging (s : State) : State := releaseClaims (evaluateAt (s.claims.queue.length - 1) s)

end Sys2Proof.Machine
end

