-- ==== Sys2Proof/Machine/Operands.lean ====
section
/-! DEFINITION. The operands of terminal requests and management commands, read from the bytes chapter 13 lays out. None stands for a payload whose length or codes do not fit (R210, R211). -/
namespace Sys2Proof.Machine

/-! ### Terminal requests (13.4) -/

/-- The drop number of a one-byte request. -/
def parseDropOnly (ops : List Byte) : Option Nat :=
  match ops with
  | [d] => some d.toNat
  | _ => none

/-- What an ITEM_CONFIRM carries (R131). -/
structure ConfirmOps where
  drop : Nat
  index : Nat
  accepted : Nat
  refused : Nat
  reason : RefusalReason
  receipt : Option Int
  deriving DecidableEq, Repr

/-- A receipt temperature as received: 0x8000 is none, any other value is clamped into -880..+1200 (R131, R210). -/
def parseReceipt (hi lo : Byte) : Option Int :=
  if hi = 0x80 ∧ lo = 0x00 then none else some (clampInt (-880) 1200 (int16 hi lo))

/-- The operands of ITEM_CONFIRM. -/
def parseConfirm (ops : List Byte) : Option ConfirmOps :=
  match ops with
  | [d, i, a1, a0, r1, r0, why, t1, t0] =>
    some { drop := d.toNat, index := i.toNat, accepted := beNat [a1, a0], refused := beNat [r1, r0],
           reason := refusalOf why, receipt := parseReceipt t1 t0 }
  | _ => none

/-- The operands of HANDOVER_CLOSE: the drop and the digest. -/
def parseHandoverClose (ops : List Byte) : Option (Nat × BitVec 64) :=
  match ops with
  | [d, b7, b6, b5, b4, b3, b2, b1, b0] => some (d.toNat, BitVec.ofNat 64 (beNat [b7, b6, b5, b4, b3, b2, b1, b0]))
  | _ => none

/-- A reference's type code and number (13.2). -/
def parseRef (ty : Byte) (n : Nat) : Option ClaimRef :=
  if ty = 1 then some (.record n) else if ty = 2 then some (.drop n) else none

/-- A claim kind code (13.2). -/
def parseClaimKind (b : Byte) : Option ClaimKind :=
  if b = 1 then some .atReceipt else if b = 2 then some .afterReceipt else none

/-- A selector byte: 0xFF is ALL, any other value an index, whose range is a check of its own (13.2, R166). -/
def parseSelector (b : Byte) : Selector := if b = 0xFF then none else some b.toNat

/-- The 7 bytes of a lodging (13.4). -/
def parseLodge (ops : List Byte) : Option LodgeOps :=
  match ops with
  | [t1, t0, ty, r1, r0, sel, kind] =>
    match parseRef ty (beNat [r1, r0]), parseClaimKind kind with
    | some r, some k => some { tag := beNat [t1, t0], reference := r, selector := parseSelector sel, kind := k }
    | _, _ => none
  | _ => none

/-! ### Management commands (13.5) -/

/-- A class byte override with its presence byte (R210). -/
def parseOverride (ops : List Byte) : Option (Option Byte) :=
  match ops with
  | [0] => some none
  | [1, b] => some (some b)
  | _ => none

/-- What a STATION_WRITE carries, before its ranges are checked (R23). -/
inductive StationKindOps
  | probe (comp pos : Nat) (offset : Int)
  | door (comp pos : Nat)
  | terminal
  | other
  deriving DecidableEq, Repr

/-- The operands of STATION_WRITE (R23, check 1). -/
def parseStationWrite (ops : List Byte) : Option (Byte × StationKindOps × Option Byte) :=
  match ops with
  | a :: k :: rest =>
    if k = kindProbe then
      match rest with
      | c :: p :: o :: ov => (parseOverride ov).map fun x => (a, .probe c.toNat p.toNat o.toInt, x)
      | _ => none
    else if k = kindDoor then
      match rest with
      | c :: p :: ov => (parseOverride ov).map fun x => (a, .door c.toNat p.toNat, x)
      | _ => none
    else if k = kindTerminal then (parseOverride rest).map fun x => (a, .terminal, x)
    else if k = kindOther then (parseOverride rest).map fun x => (a, .other, x)
    else none
  | _ => none

/-- The binding a STATION_WRITE asks for, when compartment and position are in range (R23, check 2). -/
def bindingOf (k : StationKindOps) : Option Binding :=
  match k with
  | .probe c p o => if h : c < 4 ∧ p < 4 then some (.probe ⟨c, h.1⟩ ⟨p, h.2⟩ o) else none
  | .door c p => if h : c < 4 ∧ p < 2 then some (.door ⟨c, h.1⟩ ⟨p, h.2⟩) else none
  | .terminal => some .terminal
  | .other => some .other

/-- An address of a station, 0x01..0xFD (R21). -/
def stationAddr (a : Byte) : Bool := a != 0 && a.toNat ≤ 0xFD

/-- The compartment, the enabled byte and the other fields of a COMPARTMENT_WRITE. -/
def parseProfile (ops : List Byte) : Option (Nat × Byte × Profile) :=
  match ops with
  | [c, en, l1, l0, s1, s0, hy, k, f1, f0, o1, o0, b1, b0] =>
    some (c.toNat, en,
      { enabled := en = 1, limit := int16 l1 l0, severe := int16 s1 s0, hysteresis := hy.toNat, weight := k.toNat,
        freshness := beNat [f1, f0], openLimit := beNat [o1, o0], budget := beNat [b1, b0] })
  | _ => none

/-- A temperature in the range of a corrected reading. -/
def tempInRange (t : Int) : Bool := -880 ≤ t && t ≤ 1200

/-- The ranges and constraints of a Compartment Table entry (R63, R105). -/
def profileValid (q : Profile) : Bool :=
  tempInRange q.limit && tempInRange q.severe && 1 ≤ q.hysteresis && q.hysteresis ≤ 64 && 1 ≤ q.weight && q.weight ≤ 8
    && 40 ≤ q.freshness && q.freshness ≤ 2400 && 20 ≤ q.openLimit && q.openLimit ≤ 2400 && q.budget ≤ 65535
    && decide (q.limit < q.severe) && decide (16 ≤ q.severe - q.limit) && decide ((q.hysteresis : Int) < q.severe - q.limit)

/-- The class, and the entry with its shock-sensitive byte or UNDEFINED, of a CLASS_WRITE. -/
def parseClass (ops : List Byte) : Option (Nat × Option (ProductClass × Byte)) :=
  match ops with
  | [c, 0] => some (c.toNat, none)
  | [c, 1, b1, b0, g1, g0, r1, r0, sh] =>
    some (c.toNat, some ({ budget := beNat [b1, b0], gapTolerance := beNat [g1, g0], receiptLimit := int16 r1 r0,
                           shockSensitive := sh = 1 }, sh))
  | _ => none

/-- The ranges of a defined Product Class Table entry (R107). -/
def classValid (k : ProductClass) (shock : Byte) : Bool :=
  1 ≤ k.budget && k.budget ≤ 65535 && k.gapTolerance ≤ 3600 && tempInRange k.receiptLimit && decide (shock = 0 ∨ shock = 1)

/-- The first type code and the class bytes of a FRAME_CLASS_WRITE (R193, check 1). -/
def parseFrameClass (ops : List Byte) : Option (Nat × List Byte) :=
  match ops with
  | first :: count :: bytes =>
    if 1 ≤ count.toNat ∧ count.toNat ≤ 128 ∧ bytes.length = count.toNat then some (first.toNat, bytes) else none
  | _ => none

/-- The mask name codes of 13.5. -/
def parseMaskName (b : Byte) : Option MaskName :=
  if b = 0 then some .upRoute else if b = 1 then some .upIdle else if b = 2 then some .downRoute
  else if b = 3 then some .downIdle else none

/-- The operands of PASS_MASK_SET (R194). -/
def parsePassMask (ops : List Byte) : Option (MaskName × Byte) :=
  match ops with
  | [n, v] => (parseMaskName n).map fun m => (m, v)
  | _ => none

/-- The values a CONFIG_WRITE gives (R196). -/
structure ConfigOps where
  settleDelay : Option Nat := none
  arrivalLead : Option Nat := none
  idleTimeout : Option Nat := none
  departTimeout : Option Nat := none
  alertHoldoff : Option Nat := none
  deriving DecidableEq, Repr

/-- A 16-bit value taken from the front of the operands when its bit of the given mask is set. -/
def takeGiven (given : Bool) (ops : List Byte) : Option (Option Nat × List Byte) :=
  if given then
    match ops with
    | hi :: lo :: rest => some (some (beNat [hi, lo]), rest)
    | _ => none
  else some (none, ops)

/-- The operands of CONFIG_WRITE (R196, step 1). -/
def parseConfig (ops : List Byte) : Option ConfigOps :=
  match ops with
  | [] => none
  | g :: rest =>
    if g.toNat < 32 then do
      let (d, r1) ← takeGiven (g.getLsbD 0) rest
      let (l, r2) ← takeGiven (g.getLsbD 1) r1
      let (i, r3) ← takeGiven (g.getLsbD 2) r2
      let (p, r4) ← takeGiven (g.getLsbD 3) r3
      let (h, r5) ← takeGiven (g.getLsbD 4) r4
      if r5.isEmpty then
        some { settleDelay := d, arrivalLead := l, idleTimeout := i, departTimeout := p, alertHoldoff := h }
      else none
    else none

/-- A 32-bit operand that is the whole payload (TIME_SET, ROUTE_OPEN). -/
def parseWord (ops : List Byte) : Option Nat :=
  match ops with
  | [a, b, c, d] => some (beNat [a, b, c, d])
  | _ => none

/-- A record number that is the whole payload (PROOF_RELEASE). -/
def parseNumber (ops : List Byte) : Option Nat :=
  match ops with
  | [a, b] => some (beNat [a, b])
  | _ => none

/-- A product class of 4 bits and a compartment of 2 bits from the packed bytes of a load entry (13.5). -/
def packedClass (n : Nat) : Fin 16 := ⟨n / 4096 % 16, Nat.mod_lt _ (by decide)⟩
def packedComp (n : Nat) : Fin 4 := ⟨n / 1024 % 4, Nat.mod_lt _ (by decide)⟩

/-- One 9-byte load entry (13.5). -/
def parseEntry (p2 p1 p0 l3 l2 l1 l0 k1 k0 : Byte) : Item :=
  let n := beNat [k1, k0]
  { product := beNat [p2, p1, p0], lot := beNat [l3, l2, l1, l0], cls := packedClass n, comp := packedComp n,
    planned := n % 1024 }

/-- Load entries that fill the bytes exactly (13.5). -/
def parseEntries (ops : List Byte) : Option (List Item) :=
  match ops with
  | [] => some []
  | p2 :: p1 :: p0 :: l3 :: l2 :: l1 :: l0 :: k1 :: k0 :: rest =>
    (parseEntries rest).map fun is => parseEntry p2 p1 p0 l3 l2 l1 l0 k1 k0 :: is
  | _ => none

/-- The fields of a single-part load or a part one: drop, site, mask, allowance, item count and the entries given (13.5). -/
def parseLoad (ops : List Byte) : Option StagedPart :=
  match ops with
  | d :: s3 :: s2 :: s1 :: s0 :: m :: a1 :: a0 :: n :: rest =>
    (parseEntries rest).map fun is =>
      { number := d.toNat, site := beNat [s3, s2, s1, s0], mask := m, allowance := beNat [a1, a0], total := n.toNat, items := is }
  | _ => none

/-- The operands of a single-part load: as many entries as its count, at most 24 (R111, check 1). -/
def parseLoadSingle (ops : List Byte) : Option StagedPart :=
  match parseLoad ops with
  | some l => if l.items.length = l.total ∧ l.total ≤ 24 then some l else none
  | none => none

/-- The operands of a part one: a total of 25 or more, and entries for items 0..23 (R111). -/
def parseLoadOne (ops : List Byte) : Option StagedPart :=
  match parseLoad ops with
  | some l => if 25 ≤ l.total ∧ l.items.length = 24 then some l else none
  | none => none

/-- The operands of a part two: the drop number and the remaining items (R111). -/
def parseLoadTwo (ops : List Byte) : Option (Nat × List Item) :=
  match ops with
  | d :: rest => (parseEntries rest).map fun is => (d.toNat, is)
  | [] => none

/-- The load that a part two makes with the staged part, when they belong together (R111). -/
def joinParts (staged : Option StagedPart) (two : Option (Nat × List Item)) : Option StagedPart :=
  match staged, two with
  | some l, some (d, is) =>
    if l.number = d ∧ l.items.length + is.length = l.total then some { l with items := l.items ++ is } else none
  | _, _ => none

/-- The record number and segment index of a PROOF_FETCH by number (R157). -/
def parseFetchNumber (ops : List Byte) : Option (Nat × Nat) :=
  match ops with
  | [a, b, g] => some (beNat [a, b], g.toNat)
  | _ => none

/-- The COUNTERS group codes of 13.5. -/
def parseGroup (b : Byte) : Option CounterGroup :=
  match b.toNat with
  | 0 => some .ports
  | 1 => some .stations
  | 2 => some .stops
  | 3 => some .store
  | 4 => some .claims
  | 5 => some .alerts
  | 6 => some .agent
  | _ => none

end Sys2Proof.Machine
end

