-- ==== Sys2Proof/Machine/Account.lean ====
section
/-! DEFINITION. The Exposure Engine, the settled view of the doors, and the settlement of stops (R62 to R87, R94 to R96, R137 to R141). -/
namespace Sys2Proof.Machine

/-! ### Governing temperature and thermal state -/

/-- A reading stamped r is fresh at x: r ≤ x < r + F (R66). -/
def fresh (F : Nat) (r x : Nat) : Bool := r ≤ x && x < r + F

/-- The warmer of two temperatures, none being no temperature. -/
def warmer (a b : Option Int) : Option Int :=
  match a, b with
  | none, b => b
  | a, none => a
  | some x, some y => some (max x y)

/-- A reading's temperature when it is fresh at x. -/
def freshValue (F x : Nat) (r : Option (Int × Nat)) : Option Int :=
  match r with
  | some (v, t) => if fresh F t x then some v else none
  | none => none

/-- Tg at x: the highest value among the readings fresh at x (R67). -/
def governing (F : Nat) (readings : Vector (Option (Int × Nat)) 4) (x : Nat) : Option Int :=
  warmer (warmer (freshValue F x readings[0]) (freshValue F x readings[1]))
    (warmer (freshValue F x readings[2]) (freshValue F x readings[3]))

/-- A compartment classified afresh (R76). -/
def classify (q : Profile) (t : Int) : Grade :=
  if t ≤ q.limit then .inLimit else if t ≤ q.severe then .excursion else .severe

/-- The state after a Tg change from one value to another, with hysteresis (R77). -/
def moveGrade (q : Profile) (g : Grade) (t : Int) : Grade :=
  match g with
  | .inLimit => classify q t
  | .excursion =>
    if t ≤ q.limit - q.hysteresis then .inLimit else if t ≤ q.severe then .excursion else .severe
  | .severe =>
    if t ≤ q.limit - q.hysteresis then .inLimit else if t ≤ q.severe - q.hysteresis then .excursion else .severe

/-- The alert of an entry into a grade (R79). -/
def gradeAlert : Grade → AlertCode
  | .inLimit => .returnInLimit
  | .excursion => .excursionEnter
  | .severe => .severeEnter

/-- The peak after Tg takes value t at x (R80). -/
def peakAfter (peak : Option (Int × Nat)) (t : Int) (x : Nat) : Option (Int × Nat) :=
  match peak with
  | some (v, _) => if v < t then some (t, x) else peak
  | none => some (t, x)

/-- The grade a Tg change to value t gives: afresh when Tg was none, else by hysteresis (R76, R77, R78). -/
def nextGrade (q : Profile) (a : Account) (t : Int) : Grade :=
  match a.tg, a.thermal with
  | some _, some g => moveGrade q g t
  | _, _ => classify q t

/-- The grade an entry is judged against: the one held, or the last-classified one on a return from NO_DATA (R78, R79). -/
def heldGrade (a : Account) : Grade :=
  match a.tg, a.thermal with
  | some _, some g => g
  | _, _ => a.lastClass

/-- The account after a Tg change to value t at x (R76 to R80). -/
def accountTgValue (q : Profile) (a : Account) (t : Int) (x : Nat) : Account :=
  let g := nextGrade q a t
  { a with
    tg := some t
    thermal := some g
    severeCount := if g != heldGrade a && g == .severe then satInc max8 a.severeCount else a.severeCount
    peak := peakAfter a.peak t x }

/-- The account after a Tg change to none (R78). -/
def accountTgNone (a : Account) : Account :=
  { a with tg := none, thermal := none, lastClass := a.thermal.getD a.lastClass }

/-- s with compartment c's account changed by f. -/
def State.updAccount (s : State) (c : Fin 4) (f : Account → Account) : State :=
  s.updComp c fun k => { k with account := f k.account }

/-- Tg of compartment c takes a value differing from the one held (R67, R76 to R80). -/
def setTg (c : Fin 4) (x : Nat) (new : Option Int) (s : State) : State :=
  let k := s.comp c
  match new with
  | some t =>
    let s1 := s.updAccount c fun a => accountTgValue k.profile a t x
    let g := nextGrade k.profile k.account t
    if g = heldGrade k.account then s1 else raise (gradeAlert g) (.compartment c) (some t) s1
  | none => raise .noData (.compartment c) k.account.tg (s.updAccount c accountTgNone)

/-- Tg of compartment c is evaluated at x; a value equal to the one held changes nothing (R67). -/
def evalTg (c : Fin 4) (x : Nat) (s : State) : State :=
  let k := s.comp c
  let new := governing k.profile.freshness k.account.readings x
  if new = k.account.tg then s else setTg c x new s

/-! ### Charging -/

/-- The increment of a piece of n ticks at temperature t (R71). -/
def increment (q : Profile) (t : Int) (n : Nat) : Nat :=
  if t ≤ q.limit then 0
  else if t ≤ q.severe then (t - q.limit).toNat * n
  else ((q.severe - q.limit) + q.weight * (t - q.severe)).toNat * n

/-- x is added into E with saturation (R74). -/
def addToE (a : Account) (x : Nat) : Account :=
  { a with e := satAdd max32 a.e x, satFlag := a.satFlag || decide (max32 < a.e + x) }

/-- x is added into P with saturation (R74). -/
def addToP (a : Account) (x : Nat) : Account :=
  { a with p := satAdd max32 a.p x, satFlag := a.satFlag || decide (max32 < a.p + x) }

/-- x is added into H with saturation (R74). -/
def addToH (a : Account) (x : Nat) : Account :=
  { a with h := satAdd max32 a.h x, satFlag := a.satFlag || decide (max32 < a.h + x) }

/-- The alarm budget is reached for the first time in the route (R81). -/
def budgetReached (q : Profile) (a : Account) : Bool :=
  q.budget != 0 && !a.budgetFlag && q.budget * 3840 ≤ a.e

/-- x EU are added into E of compartment c, and the alarm budget is checked (R72, R74, R81). -/
def addBreach (c : Fin 4) (x : Nat) (s : State) : State :=
  let s1 := s.updAccount c fun a => addToE a x
  if budgetReached (s1.comp c).profile (s1.comp c).account then
    raise .budgetExceeded (.compartment c) (some (euReport (s1.comp c).account.e).1)
      (s1.updAccount c fun a => { a with budgetFlag := true })
  else s1

/-- m allowance ticks and then n other ticks of a piece are charged at the Tg held: to P and to E, or to gap ticks when Tg is none (R71 to R73). -/
def chargeTicks (c : Fin 4) (m n : Nat) (s : State) : State :=
  let k := s.comp c
  match k.account.tg with
  | none => s.updAccount c fun a => { a with gap := satAdd max32 a.gap (m + n) }
  | some t => addBreach c (increment k.profile t n) (s.updAccount c fun a => addToP a (increment k.profile t m))

/-- Context x covers time t of compartment c (R69, R95). -/
def covers (x : Context) (c : Fin 4) (t : Nat) : Bool :=
  (ctxComp x c).any (fun k => k.start ≤ t) && (match x.endTime with | none => true | some e => t < e)

/-- The context that covers time t of compartment c (R69). -/
def State.coveringContext (s : State) (c : Fin 4) (t : Nat) : Option Context := s.contexts.find? fun x => covers x c t

/-- The allowance a context has left for compartment c (R70). -/
def allowanceLeft (x : Context) (c : Fin 4) : Nat :=
  match ctxComp x c with
  | some k => k.allowance - k.used
  | none => 0

/-- The allowance ticks of a piece of n ticks that starts at t: the piece is cut where the allowance runs out (R70). -/
def State.allowanceTicks (s : State) (c : Fin 4) (t n : Nat) : Nat :=
  match s.coveringContext c t with
  | some x => if settledOpen (s.comp c) then min n (allowanceLeft x c) else 0
  | none => 0

/-- A settled-open piece of n ticks, m of them allowance ticks, grows the totals of the compartment and of the context (R70, R96). -/
def growTotals (c : Fin 4) (t m n : Nat) (s : State) : State :=
  if settledOpen (s.comp c) then
    let s1 := s.updComp c fun k => { k with totals := { k.totals with openTicks := satAdd max32 k.totals.openTicks n } }
    match s.coveringContext c t with
    | none => s1
    | some x => s1.updContext x.drop fun x => ctxUpdComp x c fun k =>
        { k with used := k.used + m, openTicks := satAdd max32 k.openTicks n }
  else s

/-- s with compartment c's committed time set. -/
def State.setCommitted (s : State) (c : Fin 4) (t : Nat) : State :=
  s.updComp c fun k => { k with window := { k.window with committed := t } }

/-- The piece from compartment c's committed time to p is charged, and the committed time becomes p (R68 to R73, R96). -/
def chargePiece (c : Fin 4) (p : Nat) (s : State) : State :=
  let a := (s.comp c).window.committed
  let n := p - a
  let m := s.allowanceTicks c a n
  (growTotals c a m n (chargeTicks c m (n - m) s)).setCommitted c p

/-! ### Settlement -/

/-- The outcome moves P into E and not into H (R75). -/
def movesToBreach (o : Option StopOutcome) : Bool :=
  match o with
  | some .delivered => false
  | some .partlyDelivered => false
  | _ => true

/-- P of compartment c is moved by the outcome of the stop, and becomes 0 (R75). -/
def moveProvisional (c : Fin 4) (o : Option StopOutcome) (s : State) : State :=
  let p := (s.comp c).account.p
  let s1 := if movesToBreach o then addBreach c p s else s.updAccount c fun a => addToH a p
  s1.updAccount c fun a => { a with p := 0 }

/-- The snapshot of a compartment at its resolution, after p EU were moved (R138). -/
def takeSnapshot (k : Comp) (x : CtxComp) (p : Nat) (toBreach : Bool) : Snapshot :=
  { e := k.account.e, h := k.account.h, moved := p, toBreach := toBreach, severeCount := k.account.severeCount,
    gap := k.account.gap, peak := k.account.peak, lateWarm := k.account.lateWarm, unscheduled := k.totals.unscheduled,
    openTicks := x.openTicks, used := x.used, saturated := k.account.satFlag }

/-- The snapshot a context holds for compartment c. -/
def ctxSnapshot (x : Context) (c : Fin 4) : Option Snapshot := (ctxComp x c).bind (·.snapshot)

/-- An item with its auto-verdict: judged when it was refused for temperature, absent otherwise (R139). -/
def autoVerdict (classes : Vector (Option ProductClass) 16) (x : Context) (i : Item) : Item :=
  if 0 < i.refused ∧ i.reason = some .temperature then
    match ctxSnapshot x i.comp, classes[i.cls] with
    | some snap, some k => { i with auto := some (verdictTest snap k i.receipt) }
    | _, _ => { i with auto := none }
  else { i with auto := none }

/-- The content of a drop's DROP_OUTCOME record (R141). -/
def dropOutcomeBody (d : Drop) (x : Context) : DropOutcomeBody :=
  { number := d.number, site := d.site, mask := d.mask, allowance := d.allowance,
    outcome := x.outcome.getD .abandoned, owner := d.owner, arrival := x.arrival, endTime := x.endTime.getD 0,
    handoverClose := x.handoverClose, digest := x.digest, attempts := x.attempts,
    comps := x.comps.filterMap fun k => k.snapshot.map fun sn => { comp := k.comp, start := k.start, snap := sn },
    items := d.items }

/-- The drop's DROP_OUTCOME record is filled into its reservation (R140, step 2). -/
def fillOutcome (d : Drop) (x : Context) (s : State) : State :=
  match d.reservation with
  | some i => fillReserved i (.dropOutcome (dropOutcomeBody d x)) s
  | none => s

/-- The MODEL's own count of settlements takes one that leaves the device outside LOCKOUT (log entry 18). -/
def countCompletion (s : State) : State := if s.lockedOut then s else { s with completions := s.completions + 1 }

/-- Settlement of the drop of context x completes (R140). -/
def completeSettlement (x : Context) (s : State) : State :=
  let s1 := s.updDrop x.drop fun d => { d with items := d.items.map (autoVerdict s.classes x) }
  match s1.findDrop x.drop with
  | none => s1
  | some d =>
    let number := s1.store.nextNumber
    let s2 := countCompletion (fillOutcome d x s1)
    let s3 := s2.updDrop x.drop fun d =>
      { d with state := .final (x.outcome.getD .abandoned), record := some number, reservation := none }
    let s4 := { s3 with contexts := s3.contexts.filter fun y => y.drop != x.drop }
    tellClaims x.drop number s4

/-- Compartment c is resolved for the context of drop d: P moves, the snapshot is taken, and settlement completes with the last compartment (R75, R137, R140). -/
def resolveComp (c : Fin 4) (d : Nat) (s : State) : State :=
  match s.findContext d with
  | none => s
  | some x =>
    match ctxComp x c with
    | none => s
    | some k =>
      let p := (s.comp c).account.p
      let s1 := moveProvisional c x.outcome s
      let snap := takeSnapshot (s1.comp c) k p (movesToBreach x.outcome)
      let s2 := s1.updContext d fun x => ctxUpdComp x c fun k => { k with resolved := true, snapshot := some snap }
      match s2.findContext d with
      | none => s2
      | some y => if y.comps.all (·.resolved) then completeSettlement y s2 else s2

/-- Context x includes compartment c, unresolved, and ends at t (R75). -/
def endsAt (c : Fin 4) (t : Nat) (x : Context) : Bool :=
  x.endTime == some t && (ctxComp x c).any fun k => !k.resolved

/-- Compartment c is resolved for every context that ends where its account stands, in list order; none is once the windows are frozen (R75, R137). -/
def resolveAt (c : Fin 4) (t : Nat) (s : State) : State :=
  ((s.contexts.filter (endsAt c t)).map (·.drop)).foldl (fun s d => if s.lockedOut then s else resolveComp c d s) s

/-- The points of (a, b) at which the interval is cut, but for the exhaustion of an allowance (R68). -/
def State.splitPoints (s : State) (c : Fin 4) : List Nat :=
  ((s.comp c).account.readings.toList.filterMap fun r => r.map fun r => r.2 + (s.comp c).profile.freshness)
    ++ s.contexts.flatMap fun x =>
        match ctxComp x c with
        | none => []
        | some k => k.start :: x.endTime.toList

/-- p put into its place in a rising list without repeats. -/
def insertPoint (p : Nat) : List Nat → List Nat
  | [] => [p]
  | q :: qs => if p < q then p :: q :: qs else if p = q then q :: qs else q :: insertPoint p qs

/-- The ends of the pieces of [a, b) in rising order, b the last (R68). -/
def pieceEnds (points : List Nat) (a b : Nat) : List Nat :=
  if a < b then (points.filter fun p => a < p && p < b).foldr insertPoint [b] else []

/-- The pieces that end at the points given are charged in order; at the end of each the compartment is resolved and Tg evaluated; entry into LOCKOUT stops the charging there (R59, R68). -/
def chargeThrough (c : Fin 4) : List Nat → State → State
  | [], s => s
  | p :: ps, s =>
    if s.lockedOut then s
    else chargeThrough c ps (evalTg c p (resolveAt c p (chargePiece c p s)))

/-- Compartment c's account is brought from its committed time to b (R68). -/
def chargeTo (c : Fin 4) (b : Nat) (s : State) : State :=
  chargeThrough c (pieceEnds (s.splitPoints c) (s.comp c).window.committed b) s

/-! ### The settled view of the doors -/

/-- s with door slot (c, p) changed by f. -/
def State.updDoor (s : State) (c : Fin 4) (p : Fin 2) (f : DoorSlot → DoorSlot) : State :=
  s.updComp c fun k => { k with doors := k.doors.set p.val (f k.doors[p]) }

/-- A settled opening of compartment c at t is counted and judged against the Stop Context List (R95). -/
def countOpening (c : Fin 4) (t : Nat) (s : State) : State :=
  s.updComp c fun k => { k with totals := { k.totals with
    openings := satInc max16 k.totals.openings
    unscheduled := if (s.coveringContext c t).isSome then k.totals.unscheduled else satInc max16 k.totals.unscheduled } }

/-- A retiring door event is applied to slot (c, p) (R94). -/
def applyDoor (c : Fin 4) (p : Fin 2) (d : DoorState) (t : Nat) (s : State) : State :=
  if (s.comp c).doors[p].settled = d then
    s.updComp c fun k => { k with totals := { k.totals with redundant := satInc max16 k.totals.redundant } }
  else
    let s1 := s.updDoor c p fun x => { x with settled := d, since := t }
    if !settledOpen (s.comp c) && settledOpen (s1.comp c) then countOpening c t s1 else s1

/-- A retiring sample becomes the account reading of its position, and Tg is evaluated (R65, R67). -/
def applySample (c : Fin 4) (pos : Fin 4) (v : Int) (t : Nat) (s : State) : State :=
  evalTg c t (s.updAccount c fun a => { a with readings := a.readings.set pos.val (some (v, t)) })

/-- Step 2 of a retirement (R53). -/
def applyEvent (c : Fin 4) (ev : PendingEvent) (s : State) : State :=
  match ev.content with
  | .probe pos v => applySample c pos v ev.time s
  | .door p d => applyDoor c p d ev.time s

end Sys2Proof.Machine
end

