-- ==== Sys2Proof/Machine/Windows.lean ====
section
/-! DEFINITION. The Settle Windows: hand-over, insertion, forced and horizon retirement, advance-to; the end of a route and forced settlement (R43 to R60, R117, R118). -/
namespace Sys2Proof.Machine

/-- s with compartment c's window changed by f. -/
def State.updWindow (s : State) (c : Fin 4) (f : Window → Window) : State :=
  s.updComp c fun k => { k with window := f k.window }

/-! ### Retiring -/

/-- Event ev, already charged up to, is taken out of the window and applied, unless the charging entered LOCKOUT: then it stays pending and is not applied (R53, R59). -/
def finishRetirement (c : Fin 4) (ev : PendingEvent) (s : State) : State :=
  if s.lockedOut then s
  else applyEvent c ev (s.updWindow c fun w => { w with events := w.events.tail })

/-- The head event ev of window c retires (R53). -/
def retireHead (c : Fin 4) (ev : PendingEvent) (s : State) : State := finishRetirement c ev (chargeTo c ev.time s)

/-- Head events for which due holds retire in order, at most fuel of them, while the window works (R52, R54, R58). -/
def retireWhile (c : Fin 4) (due : Nat → Bool) : Nat → State → State
  | 0, s => s
  | fuel + 1, s =>
    if windowWorks (s.windowMode c) then
      match (s.comp c).window.events with
      | [] => s
      | ev :: _ => if due ev.time then retireWhile c due fuel (retireHead c ev s) else s
    else s

/-- Every head event of window c for which due holds retires in order. -/
def retireAll (c : Fin 4) (due : Nat → Bool) (s : State) : State :=
  retireWhile c due (s.comp c).window.events.length s

/-- t is earlier than the close time, where there is one. -/
def beforeClose (s : State) (t : Nat) : Bool :=
  match s.route.closeTime with
  | some z => t < z
  | none => true

/-- The horizon rule lets an event of sample time t retire: reached, and in CLOSING earlier than Z (R52). -/
def horizonDue (s : State) (t : Nat) : Bool :=
  s.horizonReached t && (s.route.state != .closing || beforeClose s t)

/-- The horizon's passing is taken by window c (R52). -/
def retireByHorizon (c : Fin 4) (s : State) : State := retireAll c (horizonDue s) s

/-- Advance-to(T) is taken by window c (R54). -/
def advanceTo (c : Fin 4) (T : Nat) (s : State) : State :=
  if windowWorks (s.windowMode c) && (s.comp c).window.committed < T then
    let s1 := retireAll c (fun t => t < T) s
    if s1.lockedOut then s1 else chargeTo c T s1
  else s

/-! ### Hand-over -/

/-- ev put into its place: after every event of equal or earlier sample time (R43, R50). -/
def insertEvent (ev : PendingEvent) : List PendingEvent → List PendingEvent
  | [] => [ev]
  | x :: xs => if x.time ≤ ev.time then x :: insertEvent ev xs else ev :: x :: xs

/-- The event is a sample above compartment limit L (R49). -/
def isWarm (limit : Int) (k : EventContent) : Bool :=
  match k with
  | .probe _ v => limit < v
  | .door _ _ => false

/-- A LATE event is counted and reported (R49). -/
def refuseLate (c : Fin 4) (ev : PendingEvent) (s : State) : State :=
  let k := s.comp c
  raise .lateSample (.compartment c) (some (k.window.committed - ev.time : Nat))
    (s.updAccount c fun a =>
      { a with
        late := satInc max16 a.late
        lateWarm := if isWarm k.profile.limit ev.content then satInc max16 a.lateWarm else a.lateWarm })

/-- The event joins the window, and is counted (R50). -/
def joinWindow (c : Fin 4) (ev : PendingEvent) (s : State) : State :=
  s.updWindow c fun w => { w with events := insertEvent ev w.events, inserted := satInc max16 w.inserted }

/-- A forced retirement of sample time t is counted and reported (R51). -/
def reportForced (c : Fin 4) (t : Nat) (s : State) : State :=
  raise .windowForced (.compartment c) (some ((t : Int) + s.config.settleDelay - s.now))
    (s.updWindow c fun w => { w with forced := satInc max16 w.forced })

/-- The event retires at once, without joining the full window: it is the earliest of the seventeen (R51). When its charging enters LOCKOUT it is neither applied nor kept (log entry 12). -/
def retireArriving (c : Fin 4) (ev : PendingEvent) (s : State) : State :=
  let s1 := chargeTo c ev.time s
  if s1.lockedOut then s1 else reportForced c ev.time (applyEvent c ev s1)

/-- The event joins the window, and retires at once under the horizon rule when the horizon has reached it (R50, R52). -/
def insertAndSettle (c : Fin 4) (ev : PendingEvent) (s : State) : State :=
  let s1 := joinWindow c ev s
  if s1.horizonReached ev.time then retireByHorizon c s1 else s1

/-- The earliest pending event x retires, and the event takes its place in the order (R51). When the retirement enters LOCKOUT the frozen window takes nothing (log entry 12). -/
def replaceEarliest (c : Fin 4) (x ev : PendingEvent) (s : State) : State :=
  let s1 := retireHead c x s
  if s1.lockedOut then s1 else insertAndSettle c ev (reportForced c x.time s1)

/-- An event that is neither LATE nor refused after close is inserted, with forced retirement first when the window is full (R50, R51). -/
def insertIntoWindow (c : Fin 4) (ev : PendingEvent) (s : State) : State :=
  match (s.comp c).window.events with
  | x :: xs =>
    if (x :: xs).length < Config.windowPlaces then insertAndSettle c ev s
    else if ev.time < x.time then retireArriving c ev s
    else replaceEarliest c x ev s
  | [] => insertAndSettle c ev s

/-- The event of sample time t is LATE for window c as it stands (R47). -/
def State.isLate (s : State) (c : Fin 4) (t : Nat) : Bool := t < (s.comp c).window.committed

/-- The hand-over number is given, and the arrival counter increases (R43). -/
def numberArrival (c : Fin 4) (s : State) : State :=
  s.updWindow c fun w => { w with arrivals := satInc max32 w.arrivals }

/-- An event of sample time t is handed to window c, which works (R47 to R52, R56). -/
def takeEvent (c : Fin 4) (t : Nat) (content : EventContent) (s : State) : State :=
  let ev : PendingEvent := { time := t, arrival := (s.comp c).window.arrivals, content := content }
  let s1 := numberArrival c s
  if s1.isLate c t then refuseLate c ev s1
  else if s1.route.state = .closing ∧ beforeClose s1 t = false then
    s1.updWindow c fun w => { w with afterClose := satInc max16 w.afterClose }
  else insertIntoWindow c ev s1

/-- The conditions of a hand-over to compartment c (R35, R46). -/
def State.handsOver (s : State) (c : Fin 4) : Bool :=
  s.onRoute && (s.comp c).profile.enabled && !s.lockedOut && windowWorks (s.windowMode c)

/-- A reading or door event of compartment c is handed over when the conditions hold (R35). -/
def handOver (c : Fin 4) (t : Nat) (content : EventContent) (s : State) : State :=
  if s.handsOver c then takeEvent c t content s else s

/-- The LATE mark the window returns for the hand-over of s (R47). -/
def State.lateMark (s : State) (c : Fin 4) (t : Nat) : Bool := s.handsOver c && s.isLate c t

/-! ### The end of a route -/

/-- What a ROUTE_CLOSE record holds (R153). -/
def routeCloseBody (reason : CloseReason) (s : State) : RecordBody :=
  .routeClose
    { closeTime := s.route.closeTime.getD 0
      reason := reason
      comps := (compartments.filter fun c => (s.comp c).window.armed).map fun c => (c, (s.comp c).account, (s.comp c).totals)
      drops := s.drops.map fun d => (d.number, d.site, d.state, d.record) }

/-- Every drop still PLANNED becomes NOT_VISITED (R117, step 1). -/
def dropsNotVisited (s : State) : State :=
  { s with drops := s.drops.map fun d => if d.state = .planned then { d with state := .notVisited } else d }

/-- The ROUTE_CLOSE record is filled into the route's reservation (R117, step 2). -/
def fillRouteClose (reason : CloseReason) (s : State) : State :=
  match s.route.reservation with
  | some i =>
    fillReserved i (routeCloseBody reason s) { s with route := { s.route with reservation := none } }
  | none => s

/-- The reservations of NOT_VISITED drops are handed back (R117, step 3). -/
def freeNotVisited (s : State) : State :=
  s.drops.foldl (fun s d =>
    match d.state, d.reservation with
    | .notVisited, some i => handBack i s
    | _, _ => s) s

/-- A window discards what it still holds, counts it and becomes IDLE (R57, R117, step 5). -/
def discardWindow (w : Window) : Window :=
  { w with armed := false, closeDiscards := satAdd max16 w.closeDiscards w.events.length, events := [] }

/-- Steps 3 to 6 of the end of a route (R117). -/
def finishRoute (reason : CloseReason) (s : State) : State :=
  let s1 := freeNotVisited s
  let s2 := { s1 with drops := [] }
  let s3 := compartments.foldl (fun s c => s.updWindow c discardWindow) s2
  { s3 with route := { s3.route with state := .noRoute, closeReason := some reason } }

/-- The end of a route; when the ROUTE_CLOSE record's verify enters LOCKOUT, steps 3 to 6 are not taken (R117). -/
def endRoute (reason : CloseReason) (s : State) : State :=
  let s1 := fillRouteClose reason (dropsNotVisited s)
  if s1.lockedOut then s1 else finishRoute reason s1

/-- The route's work is complete (R117). -/
def State.routeComplete (s : State) : Bool :=
  s.route.state = .closing && !s.lockedOut && s.contexts.isEmpty &&
    (match s.route.closeTime with
     | none => false
     | some z => s.horizonReached z &&
        compartments.all fun c => !(s.comp c).window.armed || (s.comp c).window.committed = z)

/-- The route ends, with close reason CLOSE, at the event that completes its work (R117). -/
def endRouteIfComplete (s : State) : State := if s.routeComplete then endRoute .closed s else s

/-! ### Forced settlement of the windows -/

/-- A CLOSING window discards its events at or after Z and counts them (R58). -/
def discardPending (w : Window) : Window :=
  { w with closeDiscards := satAdd max16 w.closeDiscards w.events.length, events := [] }

/-- Window c takes its part of a forced settlement at part time T, or Z in CLOSING (R58). -/
def forceWindow (c : Fin 4) (s : State) : State :=
  match s.windowMode c with
  | .running =>
    let s1 := retireAll c (fun _ => true) s
    if s1.lockedOut then s1 else advanceTo c s.now s1
  | .closing =>
    let z := s.route.closeTime.getD s.now
    let s1 := advanceTo c z (retireAll c (fun t => t < z) s)
    if s1.lockedOut then s1 else s1.updWindow c discardPending
  | _ => s

/-- The windows take their part in compartment order, each completing before the next begins (R201, step 4). -/
def forceWindows (s : State) : State := compartments.foldl (fun s c => forceWindow c s) s

end Sys2Proof.Machine
end

