-- ==== Sys2Proof/Machine/Stations.lean ====
section
/-! DEFINITION. The Pass Path, the Station Table's taking of an arrival, and the live view of the doors (R8 to R13, R19, R27 to R37, R89 to R92). -/
namespace Sys2Proof.Machine

/-! ### The Pass Path -/

/-- The class byte of a frame offered in a direction (R8). -/
def State.classByte (s : State) (d : Direction) (f : Frame) : Byte :=
  match d with
  | .up =>
    match s.findStation f.src with
    | some e => e.override.getD (s.pass.classTable[f.typ.toFin])
    | none => s.pass.classTable[f.typ.toFin]
  | .down => s.pass.classTable[f.typ.toFin]

/-- The pass mask in force (R9). -/
def State.maskInForce (s : State) (d : Direction) : Byte :=
  match d with
  | .up => if s.onRoute then s.pass.upRoute else s.pass.upIdle
  | .down => if s.onRoute then s.pass.downRoute else s.pass.downIdle

/-- The frame passes the test of its direction (R9). -/
def State.passes (s : State) (d : Direction) (f : Frame) : Bool := s.classByte d f &&& s.maskInForce d != 0

/-- A field frame with its annotation trailer (R11). -/
def annotate (m : Marks) (s : State) (f : Frame) : Frame :=
  { f with flags := f.flags ||| flagAnnotated, trailer := trailerBytes m s.liveDropNumber s.now }

/-- A frame is held back and counted (R9). -/
def holdBack (d : Direction) (s : State) : State :=
  s.updDirCounts d fun k => { k with heldBack := satInc max32 k.heldBack }

/-- A field frame offered to the up direction (R9, R11, R19). -/
def offerUp (m : Marks) (f : Frame) (s : State) : State :=
  if s.lockedOut then joinFifo .up f s
  else if s.passes .up f then joinFifo .up (annotate m s f) s
  else holdBack .up s

/-- A trunk frame offered to the down direction (R9, R12, R19). -/
def offerDown (f : Frame) (s : State) : State :=
  if s.lockedOut then joinFifo .down f s
  else if s.passes .down f then joinFifo .down f s
  else holdBack .down s

/-! ### The live view of the doors -/

/-- The opening deadline of slot (c, p) has been reached: DOOR_OPEN_LONG is raised while the opening is present, and the deadline is cleared (R91). -/
def expireOpening (c : Fin 4) (p : Fin 2) (s : State) : State :=
  match (s.comp c).doors[p].deadline, (s.comp c).doors[p].opening with
  | some d, some o =>
    if d ≤ s.now then
      raise .doorOpenLong (.door c p) (some (s.now - o : Nat))
        (s.updDoor c p fun x => { x with deadline := none, longOpenings := satInc max16 x.longOpenings })
    else s
  | _, _ => s

/-- The opening deadline of an opening that began at t: none beyond the largest part time (R91). -/
def openingDeadline (limit t : Nat) : Option Nat := if t + limit ≤ max32 then some (t + limit) else none

/-- A live stop exists and compartment c is in its drop's mask (R92). -/
def State.openingScheduled (s : State) (c : Fin 4) : Bool :=
  match s.liveDrop with
  | some d => d.mask.getLsbD c.val
  | none => false

/-- A live opening is judged at its beginning (R92). -/
def judgeOpening (c : Fin 4) (p : Fin 2) (s : State) : State :=
  if s.onRoute && !s.openingScheduled c then raise .unscheduledOpen (.door c p) (some s.liveDropNumber) s else s

/-- A live opening begins at slot (c, p) with sample time t (R90, R91, R92). A deadline already reached expires at once (log entry 17). -/
def beginOpening (c : Fin 4) (p : Fin 2) (t : Nat) (s : State) : State :=
  judgeOpening c p (expireOpening c p (s.updDoor c p fun x =>
    { x with opening := some t, liveOpenings := satInc max16 x.liveOpenings,
             deadline := openingDeadline (s.comp c).profile.openLimit t }))

/-- The live opening of slot (c, p) ends, or its binding is undone (R90, R93). -/
def endOpening (c : Fin 4) (p : Fin 2) (s : State) : State :=
  s.updDoor c p fun x => { x with opening := none, deadline := none }

/-- The Door Monitor takes a change of live door state from old to new (R90). -/
def liveDoorChange (c : Fin 4) (p : Fin 2) (old : Option DoorState) (new : DoorState) (t : Nat) (s : State) : State :=
  if old = some new then s
  else if new = .opened then beginOpening c p t s
  else if old = some .opened then endOpening c p s
  else s

/-! ### Taking an arrival -/

/-- The sample time of an arrival (R31). -/
def State.sampleTime (s : State) (age : BitVec 16) : Nat := s.now - age.toNat

/-- s with the Station Table's counts changed by f. -/
def State.updStations (s : State) (f : StationTable → StationTable) : State := { s with stations := f s.stations }

/-- The sentinel of a raw reading (R32). -/
def sentinel (raw : Int) : Option SensorFault :=
  if raw = -2048 then some .sensorOpen else if raw = -2047 then some .sensorShort else none

/-- A time t is not earlier than one recorded, where there is one. -/
def notEarlier (t : Nat) (r : Option Nat) : Bool :=
  match r with
  | some x => x ≤ t
  | none => true

/-- A sentinel sets the entry's fault mark, or is held (R32). -/
def markFault (k : SensorFault) (t : Nat) (e : Station) : Station :=
  if notEarlier t (e.latest.map (·.2)) && notEarlier t (e.faultMark.map (·.2)) then { e with faultMark := some (k, t) }
  else { e with held := satInc max16 e.held }

/-- A valid corrected reading updates the entry's live value, or is held (R34). -/
def liveReading (v : Int) (t : Nat) (e : Station) : Station :=
  if notEarlier t (e.latest.map (·.2)) then { e with latest := some (v, t), faultMark := none }
  else { e with held := satInc max16 e.held }

/-- A door event updates the entry's live door state, or is held (R34). -/
def liveDoor (d : DoorState) (t : Nat) (e : Station) : Station :=
  if notEarlier t e.doorTime then { e with doorLive := some d, doorTime := some t }
  else { e with held := satInc max16 e.held }

/-- The corrected reading of a raw one (R33). -/
def corrected (raw offset : Int) : Int := clampInt (-880) 1200 (raw + offset)

/-- A frame from a known source that is no repeat is taken: its number becomes the last sequence (R28). -/
def takeSequence (seq : Byte) (e : Station) : Station :=
  { e with lastSeq := seq, seqSeen := true, taken := satInc max16 e.taken }

/-- A repeat is counted (R28). -/
def countRepeat (a : Byte) (s : State) : State :=
  (s.updStation a fun e => { e with repeats := satInc max16 e.repeats }).updStations fun n =>
    { n with repeats := satInc max32 n.repeats }

/-- A frame from an unknown source is reported and counted (R29). -/
def reportUnknown (a typ : Byte) (s : State) : State :=
  (raise .unknownStation (.station a) (some typ.toNat) s).updStations fun n =>
    { n with unknownSource := satInc max32 n.unknownSource }

/-- The compartment an entry gives the annotation (R11, R30). -/
def bindingComp (b : Binding) : Option (Fin 4) :=
  match b with
  | .probe c _ _ => some c
  | .door c _ => some c
  | _ => none

/-- A SAMPLE from a PROBE entry bound to (c, pos): steps 4 to 7 of R27. The result is the state and the marks for the annotation. -/
def readSample (a : Byte) (c : Fin 4) (pos : Fin 4) (offset : Int) (age : BitVec 16) (payload : List Byte) (s : State) : State × Marks :=
  match payload with
  | hi :: lo :: _ =>
    let t := s.sampleTime age
    let raw := int16 hi lo
    match sentinel raw with
    | some k =>
      let s1 := (raise .probeFault (.station a) (some raw) s).updStations fun n => { n with probeFaults := satInc max32 n.probeFaults }
      (s1.updStation a (markFault k t), { comp := some c, probeFault := true })
    | none =>
      let v := corrected raw offset
      let clamped : Bool := v != raw + offset
      let s1 := if clamped then
          (raise .readingClamped (.station a) (some (raw + offset)) s).updStations fun n => { n with clamped := satInc max32 n.clamped }
        else s
      let s2 := s1.updStation a (liveReading v t)
      (handOver c t (.probe pos v) s2, { comp := some c, temperature := some v, late := s2.lateMark c t, clamped := clamped })
  | _ => (s.updStations fun n => { n with shortReadings := satInc max32 n.shortReadings }, { comp := some c })

/-- A DOOR_STATE from a DOOR entry bound to slot (c, p): steps 4, 6 and 7 of R27. -/
def readDoor (a : Byte) (c : Fin 4) (p : Fin 2) (e : Station) (age : BitVec 16) (payload : List Byte) (s : State) : State × Marks :=
  match payload with
  | b :: _ =>
    let t := s.sampleTime age
    let d := doorStateOf b
    let s1 := if d = .fault then raise .doorContactFault (.door c p) (some b.toNat) s else s
    let s2 := s1.updStation a (liveDoor d t)
    let s3 := if notEarlier t e.doorTime then liveDoorChange c p e.doorLive d t s2 else s2
    (handOver c t (.door p d) s3, { comp := some c, late := s3.lateMark c t })
  | [] => (s.updStations fun n => { n with shortReadings := satInc max32 n.shortReadings }, { comp := some c })

/-- A SAMPLE or DOOR_STATE from an entry of another kind (R30). -/
def countMismatch (s : State) : State :=
  s.updStations fun n => { n with kindMismatches := satInc max32 n.kindMismatches }

/-- A SAMPLE to broadcast or to the device from the known source e is read (R30). -/
def readSampleFrame (e : Station) (f : Frame) (s : State) : State × Marks :=
  match e.binding with
  | .probe c pos offset => readSample f.src c pos offset f.age f.payload s
  | b => (countMismatch s, { comp := bindingComp b })

/-- A DOOR_STATE to broadcast or to the device from the known source e is read (R30). -/
def readDoorFrame (e : Station) (f : Frame) (s : State) : State × Marks :=
  match e.binding with
  | .door c p => readDoor f.src c p e f.age f.payload s
  | b => (countMismatch s, { comp := bindingComp b })

/-- The frame's source has an entry that took a frame with this sequence number last (R28). -/
def isRepeat (e : Station) (f : Frame) : Bool := e.seqSeen && e.lastSeq == f.seq

/-- A repeat goes no further, except that in LOCKOUT a frame not addressed to the device is forwarded all the same (R19, R28, R37). -/
def dropRepeat (f : Frame) (s : State) : State :=
  let s1 := countRepeat f.src s
  if s1.lockedOut && f.dst != deviceAddr then joinFifo .up f s1 else s1

/-- The Station Table first (R5, R27): an unknown source goes on by unknown, a repeat is dropped, and a frame taken from the known source e goes on by known. -/
def stationFirst (f : Frame) (unknown : State → State) (known : Station → State → State) (s : State) : State :=
  match s.findStation f.src with
  | none => unknown (reportUnknown f.src f.typ s)
  | some e => if isRepeat e f then dropRepeat f s else known e (s.updStation f.src (takeSequence f.seq))

/-- A field frame whose reading has been taken goes on: forwarded when it was sent to broadcast, and not when it was sent to the device (R5). -/
def passRead (f : Frame) (r : State × Marks) : State :=
  if f.dst = deviceAddr then r.1 else offerUp r.2 f r.1

/-- A SAMPLE to broadcast or to the device (R5, R27). -/
def takeSample (f : Frame) (s : State) : State :=
  stationFirst f (fun s => passRead f (s, { unknown := true })) (fun e s => passRead f (readSampleFrame e f s)) s

/-- A DOOR_STATE to broadcast or to the device (R5, R27). -/
def takeDoorState (f : Frame) (s : State) : State :=
  stationFirst f (fun s => passRead f (s, { unknown := true })) (fun e s => passRead f (readDoorFrame e f s)) s

/-- Any other field frame to broadcast or to a station (R5, R30). -/
def takePassUp (f : Frame) (s : State) : State :=
  stationFirst f (fun s => offerUp { unknown := true } f s)
    (fun e s => offerUp { comp := bindingComp e.binding } f s) s

/-- A frame of an unhandled type to the device is counted (R5). -/
def countUnhandled (p : Port) (s : State) : State :=
  s.updPortCounts p fun n => { n with unhandled := satInc max32 n.unhandled }

/-- A field frame of an unhandled type to the device (R5, R30). -/
def takeUnhandledField (f : Frame) (s : State) : State :=
  stationFirst f (countUnhandled .field) (fun _ s => countUnhandled .field s) s

end Sys2Proof.Machine
end

