-- ==== Sys2Proof/Machine/Stops.lean ====
section
/-! DEFINITION. The Stop Controller: terminal requests, the handover, the closing of a stop, its deadlines; and claims lodged from a terminal (R36, R121 to R145, R167). -/
namespace Sys2Proof.Machine

/-! ### Terminal replies -/

/-- A TERMINAL_REPLY's payload (R125, 13.4). -/
def termReplyPayload (typ : Byte) (drop index : Byte) (r : TermResult) (state : Option DropState) : List Byte :=
  let result : Byte := match r with
    | .accepted => 0
    | .retry => 1
    | .refused _ => 2
  let reason : Byte := match r with
    | .refused w => termReasonCode w
    | _ => 0xFF
  [typ, drop, index, result, reason, enumByte (state.map dropStateCode)]

/-- The state of drop n, none when the manifest does not hold it (R125). -/
def State.dropState (s : State) (n : Nat) : Option DropState := (s.findDrop n).map (·.state)

/-- A TERMINAL_REPLY to a station about drop n, with the drop's state as it now stands (R15, R125). -/
def sendTermReply (src typ : Byte) (n : Nat) (index : Byte) (r : TermResult) (s : State) : State :=
  offerReply .field (originate src typTerminalReply (termReplyPayload typ (BitVec.ofNat 8 n) index r (s.dropState n))) s

/-- s with the Stop Controller's counts changed by f. -/
def State.updStopCounts (s : State) (f : StopCounts → StopCounts) : State := { s with stopCounts := f s.stopCounts }

/-- The count of a reply's result (R145). -/
def countResult (r : TermResult) (n : StopCounts) : StopCounts :=
  match r with
  | .accepted => { n with accepted := satInc max32 n.accepted }
  | .retry => { n with retries := satInc max32 n.retries }
  | .refused _ => { n with refused := satInc max32 n.refused }

/-- What a terminal request names for its reply: its type, its drop number and its item index (R125). -/
structure Asked where
  src : Byte
  typ : Byte
  drop : Nat
  index : Byte := 0
  deriving DecidableEq, Repr

/-- The Stop Controller's reply, made after the request's change of state, and counted (R125, R145). -/
def stopReply (q : Asked) (r : TermResult) (s : State) : State :=
  sendTermReply q.src q.typ q.drop q.index r (s.updStopCounts (countResult r))

/-! ### Handovers and the closing of stops -/

/-- An item with its confirmation fields cleared (R130, R133). -/
def clearItem (i : Item) : Item := { i with accepted := 0, refused := 0, reason := none, receipt := none }

/-- A drop with the confirmation fields of its items cleared. -/
def clearItems (d : Drop) : Drop := { d with items := d.items.map clearItem }

/-- The outcome a closed handover fixes from its items (R132). -/
def handoverOutcome (items : List Item) : StopOutcome :=
  if items.all fun i => i.accepted = i.planned then .delivered
  else if items.all fun i => i.accepted = 0 then .refused
  else .partlyDelivered

/-- The handover of drop n ends without a close: items cleared, no idle deadline, drop ACTIVE (R133). -/
def endHandover (n : Nat) (s : State) : State :=
  (s.updContext n fun x => { x with idleDeadline := none }).updDrop n fun d => { clearItems d with state := .active }

/-- The context after its stop closes at T (R136, steps 1 to 3). -/
def closeContext (T : Nat) (x : Context) : Context :=
  { x with endTime := some T, outcome := some (x.outcome.getD .abandoned), idleDeadline := none, departDeadline := none }

/-- The drop after its stop closes (R136, steps 2 and 4): a HANDING_OVER drop has its confirmation fields cleared. -/
def closeDrop (d : Drop) : Drop :=
  if d.state = .handingOver then { clearItems d with state := .settling } else { d with state := .settling }

/-- STOP_ABANDONED, and its count, for a stop whose outcome ABANDONED the closing at T fixed (R136, step 5). -/
def reportAbandoned (x : Context) (T : Nat) (s : State) : State :=
  if x.outcome.isNone then
    (raise .stopAbandoned (.drop x.drop) (some (T - x.arrival : Nat)) s).updStopCounts fun n =>
      { n with abandoned := satInc max32 n.abandoned }
  else s

/-- Each compartment of the mask whose committed time is T already is resolved (R75, R136). -/
def resolveAtClosing (x : Context) (T : Nat) (s : State) : State :=
  (x.comps.map (·.comp)).foldl
    (fun s c => if (s.comp c).window.committed = T then resolveAt c T s else s) s

/-- The stop of drop n closes at T (R136). -/
def closeStop (n T : Nat) (s : State) : State :=
  match s.findContext n with
  | none => s
  | some x => resolveAtClosing x T (reportAbandoned x T ((s.updContext n (closeContext T)).updDrop n closeDrop))

/-! ### Arrival -/

/-- The start of a new context for compartment c at t; prev is the end time of the context before it (R128). -/
def startFor (s : State) (t : Nat) (prev : Option Nat) (c : Fin 4) : Nat :=
  max (max (t - s.config.arrivalLead) (s.comp c).window.committed) (prev.getD 0)

/-- The context of drop d that opens at t (R123). -/
def newContext (s : State) (d : Drop) (t : Nat) (prev : Option Nat) : Context :=
  { drop := d.number, arrival := t,
    comps := (maskComps d.mask).map fun c => { comp := c, start := startFor s t prev c, allowance := d.allowance } }

/-- The end time of the context last in the list (R128). -/
def State.lastEnd (s : State) : Option Nat := s.contexts.getLast?.bind (·.endTime)

/-- A live stop is closed at t, when there is one (R127, step 1). -/
def closeLive (t : Nat) (s : State) : State :=
  match s.liveDrop with
  | some d => closeStop d.number t s
  | none => s

/-- An accepted STOP_ARRIVE for PLANNED drop d from src (R127). The closing of a live stop at t makes t the end before the new starts, even when that context has left the list within the closing (R128; log entry 15). -/
def openStop (d : Drop) (src : Byte) (s : State) : State :=
  let t := s.now
  let s1 := closeLive t s
  let prev := if s.liveDrop.isSome then some t else s1.lastEnd
  let s2 := { s1 with contexts := s1.contexts ++ [newContext s1 d t prev] }
  s2.updDrop d.number fun d => { d with state := .active, owner := some src }

/-- The judgement of a STOP_ARRIVE (R127, R129). -/
def judgeArrive (s : State) (d : Drop) (src : Byte) : TermResult :=
  match d.state with
  | .planned =>
    if s.route.state = .closing then .refused .state
    else if s.drops.any fun e => e.state == .handingOver then .refused .state
    else if Config.contextPlaces ≤ s.contexts.length then .retry
    else .accepted
  | .active => .accepted
  | .handingOver => if d.owner = some src then .accepted else .refused .notOwner
  | .handedOver => if d.owner = some src then .accepted else .refused .notOwner
  | _ => .refused .state

/-- What an accepted STOP_ARRIVE does: it opens a stop, or takes an ACTIVE drop over (R127, R129). -/
def actArrive (d : Drop) (src : Byte) (s : State) : State :=
  match d.state with
  | .planned => openStop d src s
  | .active => s.updDrop d.number fun d => { d with owner := some src }
  | _ => s

/-! ### The other requests -/

/-- The judgement of a HANDOVER_OPEN (R130). -/
def judgeOpen (d : Drop) (src : Byte) : TermResult :=
  match d.state with
  | .active => if d.owner = some src then .accepted else .refused .notOwner
  | .handingOver => if d.owner = some src then .accepted else .refused .notOwner
  | _ => .refused .state

/-- What an accepted HANDOVER_OPEN does (R130). -/
def actOpen (d : Drop) (s : State) : State :=
  match d.state with
  | .active =>
    (s.updContext d.number fun x =>
        { x with attempts := satInc max8 x.attempts, idleDeadline := some (s.now + s.config.idleTimeout) }).updDrop d.number
      fun d => { clearItems d with state := .handingOver }
  | _ => s

/-- The judgement of an ITEM_CONFIRM (R131). -/
def judgeConfirm (d : Drop) (src : Byte) (o : ConfirmOps) : TermResult :=
  if d.state ≠ .handingOver then .refused .state
  else if d.owner ≠ some src then .refused .notOwner
  else match d.items[o.index]? with
    | none => .refused .badItem
    | some i => if o.accepted + o.refused ≤ i.planned then .accepted else .refused .overCount

/-- The item as a confirm sets it (R131). -/
def confirmItem (o : ConfirmOps) (i : Item) : Item :=
  { i with accepted := o.accepted, refused := o.refused,
           reason := if 0 < o.refused then some o.reason else none, receipt := o.receipt }

/-- What an accepted ITEM_CONFIRM does (R131). -/
def actConfirm (d : Drop) (o : ConfirmOps) (s : State) : State :=
  (s.updDrop d.number fun d => { d with items := d.items.modify o.index (confirmItem o) }).updContext d.number
    fun x => { x with idleDeadline := some (s.now + s.config.idleTimeout) }

/-- The judgement of a HANDOVER_CLOSE (R132). -/
def judgeClose (d : Drop) (src : Byte) : TermResult :=
  match d.state with
  | .handingOver => if d.owner = some src then .accepted else .refused .notOwner
  | .handedOver => if d.owner = some src then .accepted else .refused .notOwner
  | _ => .refused .state

/-- What an accepted HANDOVER_CLOSE does (R132). -/
def actClose (d : Drop) (digest : BitVec 64) (s : State) : State :=
  match d.state with
  | .handingOver =>
    (s.updContext d.number fun x =>
        { x with digest := some digest, handoverClose := some s.now, outcome := some (handoverOutcome d.items),
                 idleDeadline := none, departDeadline := some (s.now + s.config.departTimeout) }).updDrop d.number
      fun d => { d with state := .handedOver }
  | _ => s

/-- What an accepted HANDOVER_ABORT does (R133); its judgement is HANDOVER_OPEN's. -/
def actAbort (d : Drop) (s : State) : State :=
  match d.state with
  | .handingOver => endHandover d.number s
  | _ => s

/-- The judgement of a STOP_DEPART (R134). -/
def judgeDepart (d : Drop) (src : Byte) : TermResult :=
  match d.state with
  | .active => if d.owner = some src then .accepted else .refused .notOwner
  | .handedOver => if d.owner = some src then .accepted else .refused .notOwner
  | .handingOver => if d.owner = some src then .refused .state else .refused .notOwner
  | .settling => if d.owner = some src then .accepted else .refused .state
  | .final _ => if d.owner = some src then .accepted else .refused .state
  | _ => .refused .state

/-- What an accepted STOP_DEPART does (R134). -/
def actDepart (d : Drop) (s : State) : State :=
  match d.state with
  | .active => closeStop d.number s.now s
  | .handedOver => closeStop d.number s.now s
  | _ => s

/-! ### Requests as they are delivered -/

/-- The checks every request passes before its own rule (R126); length says whether the payload is of the length its type requires. -/
def State.requestCheck (s : State) (length : Bool) (n : Nat) : Option TermReason :=
  if s.lockedOut then some .lockout
  else if !length then some .state
  else if !s.onRoute then some .noRoute
  else if n = 0 ∨ 64 < n ∨ (s.findDrop n).isNone then some .noDrop
  else none

/-- A request about the drop q names, delivered to the Stop Controller: counted, checked, judged, acted on and answered (R125 to R134, R145). -/
def deliverRequest (q : Asked) (length : Bool) (judge : State → Drop → TermResult) (act : Drop → State → State) (s : State) : State :=
  let s1 := s.updStopCounts fun n => { n with requests := satInc max32 n.requests }
  match s1.requestCheck length q.drop, s1.findDrop q.drop with
  | none, some d =>
    match judge s1 d with
    | .accepted => stopReply q .accepted (act d s1)
    | r => stopReply q r s1
  | some w, _ =>
    let s2 := if !s1.lockedOut && !length then
        s1.updStopCounts fun n => { n with malformed := satInc max32 n.malformed }
      else s1
    stopReply q (.refused w) s2
  | none, none => s1

/-- The station is a TERMINAL entry (R36). -/
def isTerminal (e : Station) : Bool := e.binding == .terminal

/-- The Station Table's own refusal of a request from no TERMINAL entry (R36). -/
def refuseNotTerminal (q : Asked) (s : State) : State :=
  sendTermReply q.src q.typ q.drop q.index (.refused .notTerminal) s

/-- A terminal request: the Station Table first, then delivered, or refused with NOT_TERMINAL (R5, R36). -/
def takeRequest (f : Frame) (q : Asked) (deliver : State → State) (s : State) : State :=
  stationFirst f (refuseNotTerminal q) (fun e s => if isTerminal e then deliver s else refuseNotTerminal q s) s

/-- What a one-byte request names; a payload of the wrong length names no drop (log entry 20). -/
def askedDrop (f : Frame) : Asked := { src := f.src, typ := f.typ, drop := (parseDropOnly f.payload).getD 0 }

/-- The payload is of the one byte that names a drop. -/
def oneDrop (f : Frame) : Bool := (parseDropOnly f.payload).isSome

/-- A STOP_ARRIVE to the device. -/
def takeStopArrive (f : Frame) (s : State) : State :=
  takeRequest f (askedDrop f)
    (deliverRequest (askedDrop f) (oneDrop f) (fun s d => judgeArrive s d f.src) (fun d s => actArrive d f.src s)) s

/-- A STOP_DEPART to the device. -/
def takeStopDepart (f : Frame) (s : State) : State :=
  takeRequest f (askedDrop f) (deliverRequest (askedDrop f) (oneDrop f) (fun _ d => judgeDepart d f.src) actDepart) s

/-- A HANDOVER_OPEN to the device. -/
def takeHandoverOpen (f : Frame) (s : State) : State :=
  takeRequest f (askedDrop f) (deliverRequest (askedDrop f) (oneDrop f) (fun _ d => judgeOpen d f.src) actOpen) s

/-- A HANDOVER_ABORT to the device. -/
def takeHandoverAbort (f : Frame) (s : State) : State :=
  takeRequest f (askedDrop f) (deliverRequest (askedDrop f) (oneDrop f) (fun _ d => judgeOpen d f.src) actAbort) s

/-- What an ITEM_CONFIRM names. -/
def askedConfirm (f : Frame) : Asked :=
  match parseConfirm f.payload with
  | some o => { src := f.src, typ := f.typ, drop := o.drop, index := BitVec.ofNat 8 o.index }
  | none => { src := f.src, typ := f.typ, drop := 0 }

/-- An ITEM_CONFIRM to the device. -/
def takeItemConfirm (f : Frame) (s : State) : State :=
  takeRequest f (askedConfirm f)
    (match parseConfirm f.payload with
     | some o => deliverRequest (askedConfirm f) true (fun _ d => judgeConfirm d f.src o) (fun d s => actConfirm d o s)
     | none => deliverRequest (askedConfirm f) false (fun _ _ => .refused .state) (fun _ s => s)) s

/-- What a HANDOVER_CLOSE names. -/
def askedClose (f : Frame) : Asked :=
  { src := f.src, typ := f.typ, drop := ((parseHandoverClose f.payload).map (·.1)).getD 0 }

/-- A HANDOVER_CLOSE to the device. -/
def takeHandoverClose (f : Frame) (s : State) : State :=
  takeRequest f (askedClose f)
    (match parseHandoverClose f.payload with
     | some o => deliverRequest (askedClose f) true (fun _ d => judgeClose d f.src) (fun d s => actClose d o.2 s)
     | none => deliverRequest (askedClose f) false (fun _ _ => .refused .state) (fun _ s => s)) s

/-! ### Claims lodged from a terminal -/

/-- The reference a lodging's payload names, whatever its selector and its kind are; none when the length or the reference type is wrong (R167; log entry 20). -/
def lodgeRef (payload : List Byte) : Option ClaimRef :=
  match payload with
  | [_, _, ty, r1, r0, _, _] => parseRef ty (beNat [r1, r0])
  | _ => none

/-- The drop number byte a claim's TERMINAL_REPLY carries (R167; log entries 20, 21). -/
def claimDropByte (r : Option ClaimRef) : Byte :=
  match r with
  | some (.drop n) => if n < 256 then BitVec.ofNat 8 n else Config.wideDropByte n
  | _ => 0

/-- The state of the drop a claim refers to, none for a RECORD reference (R167). -/
def State.claimDropState (s : State) (r : Option ClaimRef) : Option DropState :=
  match r with
  | some (.drop n) => s.dropState n
  | _ => none

/-- The TERMINAL_REPLY to a lodging from a terminal, about the reference it names (R167). -/
def sendClaimReply (src typ : Byte) (ref : Option ClaimRef) (r : TermResult) (s : State) : State :=
  offerReply .field (originate src typTerminalReply (termReplyPayload typ (claimDropByte ref) 0 r (s.claimDropState ref))) s

/-- The drop is SETTLING or in a final state (R166, R167). -/
def claimable (d : Drop) : Bool :=
  match d.state with
  | .settling => true
  | .final _ => true
  | _ => false

/-- Check 4 of R167: the reference names something. -/
def State.refNamed (s : State) (r : ClaimRef) : Bool :=
  match r with
  | .record n => 1 ≤ n
  | .drop n => 1 ≤ n && n ≤ 64 && (s.findDrop n).isSome

/-- An index is 0..31 (R166, R167). -/
def selectorInRange (x : Selector) : Bool :=
  match x with
  | some n => n ≤ 31
  | none => true

/-- The drop of a DROP reference can be claimed about (R166, R167). -/
def State.refClaimable (s : State) (r : ClaimRef) : Bool :=
  match r with
  | .record _ => true
  | .drop n => (s.findDrop n).any claimable

/-- Checks 1 to 6 of a lodging from a terminal (R167). -/
def State.lodgeCheck (s : State) (o : Option LodgeOps) : Option TermReason :=
  if s.lockedOut then some .lockout
  else match o with
    | none => some .state
    | some o =>
      if !s.onRoute then some .noRoute
      else if !s.refNamed o.reference then some .noDrop
      else if !selectorInRange o.selector then some .badItem
      else if !s.refClaimable o.reference then some .state
      else none

/-- A CLAIM_LODGE delivered to the Claim Unit from terminal src (R167 to R169). -/
def deliverLodge (src typ : Byte) (payload : List Byte) (s : State) : State :=
  let ref := lodgeRef payload
  let o := parseLodge payload
  match s.lodgeCheck o, o with
  | some w, _ =>
    sendClaimReply src typ ref (.refused w) (s.updClaimCounts fun n =>
      { n with refused := satInc max32 n.refused,
               malformed := if !s.lockedOut && o.isNone then satInc max32 n.malformed else n.malformed })
  | none, some l =>
    match s.claimRoom with
    | none => sendClaimReply src typ ref .retry (s.updClaimCounts fun n => { n with turnedAway := satInc max32 n.turnedAway })
    | some i => settleLodging (sendClaimReply src typ ref .accepted (joinClaim i .field src l s))
  | none, none => s

/-- A CLAIM_LODGE to the device on the field port (R5, R36). -/
def takeClaimLodge (f : Frame) (s : State) : State :=
  stationFirst f (sendClaimReply f.src f.typ (lodgeRef f.payload) (.refused .notTerminal))
    (fun e s =>
      if isTerminal e then deliverLodge f.src f.typ f.payload s
      else sendClaimReply f.src f.typ (lodgeRef f.payload) (.refused .notTerminal) s) s

/-! ### Deadlines -/

/-- A deadline has been reached. -/
def deadlineReached (now : Nat) (d : Option Nat) : Bool :=
  match d with
  | some t => t ≤ now
  | none => false

/-- The idle deadline of the HANDING_OVER drop expires when part time has reached it; it is held in LOCKOUT (R133, R143). -/
def expireIdle (s : State) : State :=
  if s.lockedOut then s
  else match s.liveDrop with
    | some d =>
      if d.state = .handingOver ∧ (s.findContext d.number).any (fun x => deadlineReached s.now x.idleDeadline) then
        (raise .handoverTimeout (.drop d.number) (d.owner.map fun a => Int.ofNat a.toNat) (endHandover d.number s)).updStopCounts
          fun n => { n with handoverTimeouts := satInc max32 n.handoverTimeouts }
      else s
    | none => s

/-- The departure deadline of the HANDED_OVER drop expires when part time has reached it: the stop closes now; it is held in LOCKOUT (R135, R143). -/
def expireDeparture (s : State) : State :=
  if s.lockedOut then s
  else match s.liveDrop with
    | some d =>
      if d.state = .handedOver ∧ (s.findContext d.number).any (fun x => deadlineReached s.now x.departDeadline) then
        closeStop d.number s.now s
      else s
    | none => s

/-- The horizon has reached the end time of drop n's context: advance-to of that time is requested of each compartment of its mask not yet resolved, in rising order (R137). -/
def advanceStopEnd (n : Nat) (s : State) : State :=
  match s.findContext n with
  | some x =>
    match x.endTime with
    | some T =>
      if s.horizonReached T then
        endRouteIfComplete (((x.comps.filter fun k => !k.resolved).map (·.comp)).foldl (fun s c => advanceTo c T s) s)
      else s
    | none => s
  | none => s

/-- The horizon has reached Z: advance-to(Z) is requested of each CLOSING window, and the route ends when its work is complete (R57, R117). -/
def advanceClose (s : State) : State :=
  match s.route.closeTime with
  | some z =>
    if s.route.state = .closing ∧ s.horizonReached z = true then
      endRouteIfComplete (compartments.foldl (fun s c => advanceTo c z s) s)
    else s
  | none => s

/-- The horizon's passing of window c's events (R52), which may complete the route's work (R117). -/
def passHorizon (c : Fin 4) (s : State) : State := endRouteIfComplete (retireByHorizon c s)

end Sys2Proof.Machine
end

