-- ==== Sys2Proof/Machine/Agent.lean ====
section
/-! DEFINITION. The Management Agent's taking and answering of a command, and the commands that write the Station Table, the tables of the route, the Pass Path, the alert settings, the configuration and part time (R14, R23 to R26, R41, R106, R108, R190 to R196). -/
namespace Sys2Proof.Machine

/-! ### Answers -/

/-- How a command is answered: DONE with its marks and data, BUSY, REFUSED with a reason (R191), or the payload of a PROOF_RECORD (R190). -/
inductive Answer
  | done (marks : Byte) (data : List Byte)
  | busy
  | refused (r : MgmtReason)
  | proof (payload : List Byte)
  deriving DecidableEq, Repr

/-- The payload of an answer to the command of a code and a sequence number (13.5). The fourth byte of BUSY is free (log entry 29). -/
def answerPayload (code seq : Byte) (a : Answer) : List Byte :=
  match a with
  | .done marks data => [code, seq, 0, marks] ++ data
  | .busy => [code, seq, 1, Config.busyFourthByte]
  | .refused r => [code, seq, 2, mgmtReasonCode r]
  | .proof payload => payload

/-- The frame type of an answer (R190). -/
def answerType (a : Answer) : Byte :=
  match a with
  | .proof _ => typProofRecord
  | _ => typMgmtReply

/-- The answer's frame, addressed to the source of the command (R18, R190). -/
def answerFrame (code : Byte) (m : CmdHdr) (a : Answer) : QFrame :=
  originate m.src (answerType a) (answerPayload code m.seq a)

/-- The Agent's counts after an answer (R203). -/
def countAnswer (a : Answer) (n : AgentCounts) : AgentCounts :=
  match a with
  | .done _ _ => { n with done := satInc max32 n.done }
  | .proof _ => { n with done := satInc max32 n.done }
  | .busy => { n with busy := satInc max32 n.busy }
  | .refused r =>
    { n with
      refused := satInc max32 n.refused
      malformed := if r = .malformed then satInc max32 n.malformed else n.malformed
      lockout := if r = .lockout then satInc max32 n.lockout else n.lockout }

/-- The answer fills the place reserved for it, and is counted (R14, R190, R203). -/
def answer (code : Byte) (m : CmdHdr) (a : Answer) (s : State) : State :=
  { s with
    ports := { s.ports with
      reserved := s.ports.reserved - 1
      trunk := { s.ports.trunk with replies := s.ports.trunk.replies ++ [answerFrame code m a] } }
    agent := countAnswer a s.agent }

/-- A command judged: refused, or its marks, its reply data and the state after its effect (R190, steps 3 and 4). -/
abbrev Judged := Except MgmtReason (Byte × List Byte × State)

/-- A judged command is answered (R190, step 5). A refused one has changed nothing. -/
def settle (code : Byte) (m : CmdHdr) (j : Judged) (s : State) : State :=
  match j with
  | .error r => answer code m (.refused r) s
  | .ok (marks, data, t) => answer code m (.done marks data) t

/-- The gate of LOCKOUT, before the command's own checks (R192). -/
def gated (code : Byte) (m : CmdHdr) (run : State → State) (s : State) : State :=
  if s.lockedOut then answer code m (.refused .lockout) s else run s

/-- A command whose own checks and effect are judge, behind the gate (R190, R192). -/
def runGated (code : Byte) (m : CmdHdr) (judge : State → Judged) (s : State) : State :=
  gated code m (fun s => settle code m (judge s) s) s

/-- A command is taken when the trunk reply queue admits it, with a place reserved for its answer, and is discarded otherwise (R14, R190). -/
def admitCommand (run : State → State) (s : State) : State :=
  if s.replyPlacesUsed .trunk < Config.replyPlaces then
    run { s with
      ports := { s.ports with reserved := s.ports.reserved + 1 }
      agent := { s.agent with taken := satInc max32 s.agent.taken } }
  else { s with ports := { s.ports with mgmtDiscards := satInc max32 s.ports.mgmtDiscards } }

/-! ### The Station Table -/

/-- Two bindings agree in kind, compartment and position (R24, R25). -/
def sameBinding (a b : Binding) : Bool :=
  match a, b with
  | .probe c p _, .probe c' p' _ => c = c' ∧ p = p'
  | .door c p, .door c' p' => c = c' ∧ p = p'
  | .terminal, .terminal => true
  | .other, .other => true
  | _, _ => false

/-- A binding to a compartment: a PROBE's or a DOOR's (R21, R25). -/
def bindsPlace (b : Binding) : Bool :=
  match b with
  | .probe _ _ _ => true
  | .door _ _ => true
  | _ => false

/-- The lock of R25 on undoing or moving the binding held: by a clear (new none) or by a rewrite. -/
def State.bindingLocked (s : State) (old : Option Station) (new : Option Binding) : Bool :=
  match old with
  | none => false
  | some e => s.onRoute && bindsPlace e.binding && !(new.any fun b => sameBinding e.binding b)

/-- A new entry (R22). -/
def newStation (a : Byte) (b : Binding) (ov : Option Byte) : Station := { addr := a, binding := b, override := ov }

/-- An existing entry rewritten (R24). -/
def rewriteStation (e : Station) (b : Binding) (ov : Option Byte) : Station :=
  if sameBinding e.binding b then { e with binding := b, override := ov }
  else { newStation e.addr b ov with seqSeen := e.seqSeen, lastSeq := e.lastSeq }

/-- An entry put into its place in rising address order. -/
def insertStation (e : Station) : List Station → List Station
  | [] => [e]
  | x :: xs => if e.addr.toNat < x.addr.toNat then e :: x :: xs else x :: insertStation e xs

/-- When a DOOR binding is undone, its slot's opening and deadline become none (R93). -/
def undoDoor (old : Option Station) (new : Option Binding) (s : State) : State :=
  match old with
  | some { binding := .door c p, .. } => if new.any fun b => sameBinding (.door c p) b then s else endOpening c p s
  | _ => s

/-- The entry of an address is written (R24). -/
def writeStation (a : Byte) (b : Binding) (ov : Option Byte) (s : State) : State :=
  undoDoor (s.findStation a) (some b)
    (match s.findStation a with
     | some _ => s.updStation a fun e => rewriteStation e b ov
     | none => s.updStations fun n => { n with entries := insertStation (newStation a b ov) n.entries })

/-- Another entry of the same kind is bound to the same compartment and position (R23, check 4). -/
def State.bindingTaken (s : State) (a : Byte) (b : Binding) : Bool :=
  s.stations.entries.any fun e => e.addr != a && bindsPlace b && sameBinding e.binding b

/-- The table has room for the entry of an address (R23, check 5). -/
def State.stationRoom (s : State) (a : Byte) : Bool :=
  (s.findStation a).isSome || s.stations.entries.length < Config.stationPlaces

/-- STATION_WRITE (R23, R24). -/
def judgeStationWrite (ops : List Byte) (s : State) : Judged :=
  match parseStationWrite ops with
  | none => .error .malformed
  | some (a, k, ov) =>
    match bindingOf k with
    | none => .error .outOfRange
    | some b =>
      if !stationAddr a then .error .outOfRange
      else if s.bindingLocked (s.findStation a) (some b) then .error .lockedOnRoute
      else if s.bindingTaken a b then .error .conflict
      else if !s.stationRoom a then .error .noRoom
      else .ok (markNone, [], writeStation a b ov s)

/-- The entry of an address is removed (R26, R93). -/
def clearStation (a : Byte) (s : State) : State :=
  undoDoor (s.findStation a) none
    (s.updStations fun n => { n with entries := n.entries.filter fun e => e.addr != a })

/-- STATION_CLEAR (R26, R211). -/
def judgeStationClear (ops : List Byte) (s : State) : Judged :=
  match ops with
  | [a] =>
    if !stationAddr a then .error .outOfRange
    else if (s.findStation a).isNone then .error .noEntry
    else if s.bindingLocked (s.findStation a) none then .error .lockedOnRoute
    else .ok (markNone, [], clearStation a s)
  | _ => .error .malformed

/-! ### Compartment Table and Product Class Table -/

/-- COMPARTMENT_WRITE (R106). -/
def judgeCompartmentWrite (ops : List Byte) (s : State) : Judged :=
  match parseProfile ops with
  | none => .error .malformed
  | some (n, en, q) =>
    if h : n < 4 then
      if !(en = 0 ∨ en = 1) || !profileValid q then .error .outOfRange
      else if s.onRoute then .error .lockedOnRoute
      else if !q.enabled && s.drops.any fun d => d.mask.getLsbD n then .error .conflict
      else .ok (markNone, [], s.updComp ⟨n, h⟩ fun k => { k with profile := q })
    else .error .outOfRange

/-- An item of the manifest names class k (R108). -/
def State.classNamed (s : State) (k : Fin 16) : Bool := s.drops.any fun d => d.items.any fun i => i.cls == k

/-- CLASS_WRITE (R108). -/
def judgeClassWrite (ops : List Byte) (s : State) : Judged :=
  match parseClass ops with
  | none => .error .malformed
  | some (n, entry) =>
    if h : n < 16 then
      if !(entry.all fun e => classValid e.1 e.2) then .error .outOfRange
      else if s.onRoute then .error .lockedOnRoute
      else if entry.isNone && s.classNamed ⟨n, h⟩ then .error .conflict
      else .ok (markNone, [], { s with classes := s.classes.set n (entry.map (·.1)) })
    else .error .outOfRange

/-! ### Pass Path and alert settings -/

/-- The Class Table with a run of entries from first on replaced by bytes (R193). -/
def writeClassRun (table : Vector Byte 256) (first : Nat) (bytes : List Byte) : Vector Byte 256 :=
  Vector.ofFn fun i =>
    if first ≤ i.val then (bytes[i.val - first]?).getD table[i] else table[i]

/-- FRAME_CLASS_WRITE (R193). -/
def judgeFrameClassWrite (ops : List Byte) (s : State) : Judged :=
  match parseFrameClass ops with
  | none => .error .malformed
  | some (first, bytes) =>
    if 256 < first + bytes.length then .error .outOfRange
    else .ok (markNone, [], { s with pass := { s.pass with classTable := writeClassRun s.pass.classTable first bytes } })

/-- The Pass Path with one mask replaced (R10). -/
def setMask (n : MaskName) (v : Byte) (p : PassPath) : PassPath :=
  match n with
  | .upRoute => { p with upRoute := v }
  | .upIdle => { p with upIdle := v }
  | .downRoute => { p with downRoute := v }
  | .downIdle => { p with downIdle := v }

/-- PASS_MASK_SET (R194). -/
def judgePassMaskSet (ops : List Byte) (s : State) : Judged :=
  match parsePassMask ops with
  | none => .error .malformed
  | some (n, v) => .ok (markNone, [], { s with pass := setMask n v s.pass })

/-- ALERT_LEVEL_WRITE (R195). -/
def judgeAlertLevelWrite (ops : List Byte) (s : State) : Judged :=
  match ops with
  | [code, level] =>
    if h : code.toNat - 1 < 21 ∧ code ≠ 0 ∧ level.toNat ≤ 7 then
      .ok (markNone, [],
        { s with alerts := { s.alerts with
            table := s.alerts.table.set (code.toNat - 1)
              { s.alerts.table[code.toNat - 1]'h.1 with level := level.toNat } h.1 } })
    else .error .outOfRange
  | _ => .error .malformed

/-- ALERT_MASK_SET (R195). -/
def judgeAlertMaskSet (ops : List Byte) (s : State) : Judged :=
  match ops with
  | [level] =>
    if level.toNat ≤ 7 then .ok (markNone, [], { s with alerts := { s.alerts with mask := level.toNat } })
    else .error .outOfRange
  | _ => .error .malformed

/-! ### Configuration and part time -/

/-- The configuration that a CONFIG_WRITE comes to after its clamping (R196, step 2). -/
def clampConfig (o : ConfigOps) (held : Settings) : Settings :=
  let d := (o.settleDelay.map (clampNat 16 480)).getD held.settleDelay
  { settleDelay := d
    arrivalLead :=
      match o.arrivalLead with
      | some v => clampNat 0 d v
      | none => if o.settleDelay.isSome then min held.arrivalLead d else held.arrivalLead
    idleTimeout := (o.idleTimeout.map (clampNat 120 2400)).getD held.idleTimeout
    departTimeout := (o.departTimeout.map (clampNat 120 2400)).getD held.departTimeout
    alertHoldoff := (o.alertHoldoff.map (clampNat 0 1200)).getD held.alertHoldoff }

/-- The clamping changed a given value or lowered the arrival lead held (R196, step 4). -/
def configClamped (o : ConfigOps) (held new : Settings) : Bool :=
  o.settleDelay.any (· != new.settleDelay) || o.arrivalLead.any (· != new.arrivalLead)
    || o.idleTimeout.any (· != new.idleTimeout) || o.departTimeout.any (· != new.departTimeout)
    || o.alertHoldoff.any (· != new.alertHoldoff)
    || (o.arrivalLead.isNone && new.arrivalLead < held.arrivalLead)

/-- The five configuration values, 2 bytes each (R196, 13.3). -/
def settingsBytes (c : Settings) : List Byte :=
  beBytes 2 c.settleDelay ++ beBytes 2 c.arrivalLead ++ beBytes 2 c.idleTimeout ++ beBytes 2 c.departTimeout
    ++ beBytes 2 c.alertHoldoff

/-- CONFIG_WRITE (R196). -/
def judgeConfigWrite (ops : List Byte) (s : State) : Judged :=
  match parseConfig ops with
  | none => .error .malformed
  | some o =>
    let new := clampConfig o s.config
    if s.onRoute ∧ (new.settleDelay ≠ s.config.settleDelay ∨ new.arrivalLead ≠ s.config.arrivalLead) then
      .error .lockedOnRoute
    else .ok (if configClamped o s.config new then markClamped else markNone, settingsBytes new, { s with config := new })

/-- Part time is written; the deadlines that it has reached expire at once, the door slots' in rising order and then the recovery's (R41; log entry 16). -/
def setTime (v : Nat) (s : State) : State :=
  recoveryDue (doorSlots.foldl (fun s d => expireOpening d.1 d.2 s) { s with clock := { partTime := v, timeSet := true } })

/-- TIME_SET, judged for MALFORMED before LOCKOUT (R41, R192). -/
def judgeTimeSet (ops : List Byte) (s : State) : Judged :=
  match parseWord ops with
  | none => .error .malformed
  | some v =>
    if s.lockedOut then .error .lockout
    else if s.onRoute then .error .lockedOnRoute
    else .ok (markNone, [], setTime v s)

end Sys2Proof.Machine
end

