-- ==== Sys2Proof/Machine/Manifest.lean ====
section
/-! DEFINITION. The manifest and the route: MANIFEST_LOAD, MANIFEST_DELETE, ROUTE_OPEN with its seeding, ROUTE_CLOSE (R82, R83, R98, R109 to R116). -/
namespace Sys2Proof.Machine

/-! ### Loading a drop -/

/-- The drop of a number is absent or PLANNED (R111, check 2). -/
def State.loadable (s : State) (n : Nat) : Bool :=
  match s.findDrop n with
  | some d => d.state = .planned
  | none => true

/-- The ranges of a load (R111, check 4); a mask bit without a compartment is out of range (log entry 22). -/
def loadInRange (l : StagedPart) : Bool :=
  1 ≤ l.number && l.number ≤ 64 && l.allowance ≤ 900 && l.mask != 0 && l.mask.toNat < 16 && l.items.length ≤ 32
    && l.items.all fun i => 1 ≤ i.planned && i.planned ≤ 999

/-- A load agrees with the tables (R111, check 5). -/
def State.loadAgrees (s : State) (l : StagedPart) : Bool :=
  (maskComps (l.mask.setWidth 4)).all (fun c => (s.comp c).profile.enabled)
    && l.items.all fun i => l.mask.getLsbD i.comp.val && s.classes[i.cls].isSome

/-- The items of the drop a load replaces (R111, check 6). -/
def State.replacedItems (s : State) (n : Nat) : Nat :=
  match s.findDrop n with
  | some d => d.items.length
  | none => 0

/-- The entry of a new drop; its allowance is held in ticks (R109, R112). -/
def newDrop (l : StagedPart) (i : Fin 256) : Drop :=
  { number := l.number, site := l.site, mask := l.mask.setWidth 4, allowance := l.allowance * 4, items := l.items,
    reservation := some i }

/-- A PLANNED drop's loaded fields and items replaced (R112). -/
def replaceDrop (l : StagedPart) (d : Drop) : Drop :=
  { d with site := l.site, mask := l.mask.setWidth 4, allowance := l.allowance * 4, items := l.items }

/-- A drop put into its place in rising number order. -/
def insertDrop (d : Drop) : List Drop → List Drop
  | [] => [d]
  | x :: xs => if d.number < x.number then d :: x :: xs else x :: insertDrop d xs

/-- The effect of a load that passes its checks; none when a new drop finds no FREE slot (R111, check 7; R112). -/
def loadDrop (l : StagedPart) (s : State) : Option State :=
  match s.findDrop l.number with
  | some _ => some (s.updDrop l.number (replaceDrop l))
  | none =>
    match s.lowestFree with
    | none => none
    | some i =>
      let s1 := reserveSlot i s
      some { s1 with drops := insertDrop (newDrop l i) s1.drops }

/-- Checks 2 to 7 of R111 and the effect. -/
def judgeLoad (l : StagedPart) (s : State) : Judged :=
  if s.route.state = .closing ∨ s.loadable l.number = false then .error .state
  else if l.items.isEmpty then .error .emptyDrop
  else if !loadInRange l then .error .outOfRange
  else if !s.loadAgrees l then .error .conflict
  else if s.poolFree + s.replacedItems l.number < l.items.length then .error .noRoom
  else match loadDrop l s with
    | none => .error .noSlot
    | some t => .ok (markNone, [], t)

/-- A single-part MANIFEST_LOAD (R111, R112). -/
def judgeLoadSingle (ops : List Byte) (s : State) : Judged :=
  match parseLoadSingle ops with
  | none => .error .malformed
  | some l => judgeLoad l s

/-- Part one of a MANIFEST_LOAD (R111). -/
def judgeLoadPartOne (ops : List Byte) (s : State) : Judged :=
  match parseLoadOne ops with
  | none => .error .malformed
  | some l => .ok (markStaged, [], { s with route := { s.route with staged := some l } })

/-- The staged part is discarded (R111). -/
def dropStaged (s : State) : State := { s with route := { s.route with staged := none } }

/-- Part two of a MANIFEST_LOAD, judged with the part that was staged; the staged part is discarded in either case (R111, R112). -/
def judgeLoadPartTwo (staged : Option StagedPart) (ops : List Byte) (s : State) : Judged :=
  match joinParts staged (parseLoadTwo ops) with
  | none => .error .malformed
  | some l => judgeLoad l s

/-- Part two as the Agent takes it: behind the gate the staged part is discarded first (R111, R192). -/
def runLoadPartTwo (m : CmdHdr) (ops : List Byte) (s : State) : State :=
  gated cmdManifestLoad m
    (fun s => settle cmdManifestLoad m (judgeLoadPartTwo s.route.staged ops (dropStaged s)) (dropStaged s)) s

/-! ### Deleting a drop -/

/-- The drop's reservation is handed back and its entry removed (R113). -/
def deleteDrop (d : Drop) (s : State) : State :=
  let s1 := match d.reservation with
    | some i => handBack i s
    | none => s
  { s1 with drops := s1.drops.filter fun e => e.number != d.number }

/-- MANIFEST_DELETE (R113). -/
def judgeManifestDelete (ops : List Byte) (s : State) : Judged :=
  match parseDropOnly ops with
  | none => .error .malformed
  | some n =>
    if n = 0 ∨ 64 < n then .error .outOfRange
    else match s.findDrop n with
      | none => .error .noEntry
      | some d => if d.state = .planned then .ok (markNone, [], deleteDrop d s) else .error .state

/-! ### Opening a route -/

/-- The PROBE entry bound to (c, pos). -/
def State.probeAt (s : State) (c pos : Fin 4) : Option Station :=
  s.stations.entries.find? fun e => match e.binding with
    | .probe c' p' _ => c' = c ∧ p' = pos
    | _ => false

/-- The DOOR entry bound to slot (c, p): the slot's contact (R88). -/
def State.contactOf (s : State) (c : Fin 4) (p : Fin 2) : Option Station :=
  s.stations.entries.find? fun e => match e.binding with
    | .door c' p' => c' = c ∧ p' = p
    | _ => false

/-- The account reading a position is seeded with at t: its probe's live latest reading, when fresh (R82, step 2). -/
def State.seedReading (s : State) (c : Fin 4) (t : Nat) (pos : Fin 4) : Option (Int × Nat) :=
  match (s.probeAt c pos).bind (·.latest) with
  | some r => if fresh (s.comp c).profile.freshness r.2 t then some r else none
  | none => none

/-- The settled state a slot is seeded with (R98). -/
def State.seedDoor (s : State) (c : Fin 4) (p : Fin 2) : DoorState :=
  if (s.comp c).profile.enabled then ((s.contactOf c p).bind (·.doorLive)).getD .closed else .closed

/-- The window of compartment c emptied at the open time (R55). -/
def seedWindow (enabled : Bool) (t : Nat) : Window := { armed := enabled, committed := t }

/-- The account of step 1 and step 2 of R82, or of R83. -/
def State.seedAccount (s : State) (c : Fin 4) (t : Nat) : Account :=
  if (s.comp c).profile.enabled then { readings := Vector.ofFn fun p => s.seedReading c t p } else {}

/-- The door slots of compartment c seeded (R98); the live items are kept. -/
def State.seedDoors (s : State) (c : Fin 4) (t : Nat) : Vector DoorSlot 2 :=
  Vector.ofFn fun p => { (s.comp c).doors[p] with settled := s.seedDoor c p, since := t }

/-- The Tg and the thermal state of compartment c at its seeding (R82, steps 3 to 6). -/
def seedThermal (c : Fin 4) (t : Nat) (s : State) : State :=
  match governing (s.comp c).profile.freshness (s.comp c).account.readings t with
  | some v => setTg c t (some v) s
  | none => raise .noData (.compartment c) none s

/-- Compartment c is seeded at the open time t (R55, R82, R83, R98). -/
def seedComp (t : Nat) (s : State) (c : Fin 4) : State :=
  let s1 := s.setComp c
    { profile := (s.comp c).profile
      window := seedWindow (s.comp c).profile.enabled t
      account := s.seedAccount c t
      doors := s.seedDoors c t
      totals := {} }
  if (s.comp c).profile.enabled then seedThermal c t s1 else s1

/-- The seed of compartment c as its ROUTE_OPEN record holds it (R152). -/
def seedEntry (k : Comp) : SeedEntry :=
  { readings := k.account.readings, tg := k.account.tg, thermal := k.account.thermal,
    door0 := k.doors[0].settled, door1 := k.doors[1].settled }

/-- The body of the ROUTE_OPEN record (R152). -/
def routeOpenBody (s : State) : RecordBody :=
  .routeOpen
    { openTime := s.route.openTime
      settings := s.config
      profiles := s.comps.map (·.profile)
      classes := s.classes
      seeds := (compartments.filter fun c => (s.comp c).profile.enabled).map fun c => (c, seedEntry (s.comp c))
      drops := s.drops.map fun d => (d.number, d.site, d.items.length) }

/-- The lowest FREE slot is filled with the ROUTE_OPEN record (R115, step 4). -/
def fillRouteOpen (s : State) : State :=
  match s.lowestFree with
  | some i => fillFree i (routeOpenBody s) s
  | none => s

/-- The route's identity recorded, and its reservation taken from slot i (R115, steps 1 and 2). -/
def beginRoute (id : Nat) (i : Fin 256) (s : State) : State :=
  reserveSlot i { s with route := { s.route with
    id := id, openTime := s.now, closeTime := none, closeReason := none, reservation := some i } }

/-- The effects of a ROUTE_OPEN, with slot i for the route's reservation (R115). -/
def openRoute (id : Nat) (i : Fin 256) (s : State) : State :=
  let s1 := compartments.foldl (seedComp s.now) (beginRoute id i s)
  let s2 := fillRouteOpen s1
  { s2 with route := { s2.route with state := .opened } }

/-- ROUTE_OPEN (R115). -/
def judgeRouteOpen (ops : List Byte) (s : State) : Judged :=
  match parseWord ops with
  | none => .error .malformed
  | some id =>
    if s.onRoute then .error .state
    else if !s.clock.timeSet then .error .state
    else if !(compartments.any fun c => (s.comp c).profile.enabled) then .error .conflict
    else if s.freeCount < 2 then .error .noSlot
    else match s.lowestFree with
      | none => .error .noSlot
      | some i => .ok (markNone, [], openRoute id i s)

/-! ### Closing a route -/

/-- The effects of a ROUTE_CLOSE at Z = now (R116). -/
def closeRoute (s : State) : State :=
  let s1 := closeLive s.now { s with route := { s.route with closeTime := some s.now } }
  { s1 with route := { s1.route with state := .closing } }

/-- ROUTE_CLOSE; the reply carries Z (R116). -/
def judgeRouteClose (ops : List Byte) (s : State) : Judged :=
  if !ops.isEmpty then .error .malformed
  else if s.route.state ≠ .opened then .error .state
  else if s.drops.any fun d => d.state == .handingOver then .error .state
  else .ok (markNone, beBytes 4 s.now, closeRoute s)

end Sys2Proof.Machine
end

