-- ==== Sys2Proof/Machine/Query.lean ====
section
/-! DEFINITION. The answers of QUERY (R84, R85, R102, R119, R163, R180, R197 to R199). The orders, widths and forms that chapter 13 leaves open are log entries 9 to 11 and 34 to 40. -/
namespace Sys2Proof.Machine

/-- A query judged: refused, or its data. It changes nothing (R197). -/
abbrev QueryResult := Except MgmtReason (List Byte)

/-- A query is answered (R197); QUERY is taken in LOCKOUT as at other times (R192). -/
def runQuery (m : CmdHdr) (r : State → QueryResult) (s : State) : State :=
  match r s with
  | .error w => answer cmdQuery m (.refused w) s
  | .ok data => answer cmdQuery m (.done markNone data) s

/-! ### PART -/

/-- Page 0 of PART (R198). DESIGN CHOICE, unsafe: the numbers of drops and of contexts take one byte each, and the item pool's free count two (log entry 11). -/
def partStatus (s : State) : List Byte :=
  beBytes 4 s.now ++ [yesNo s.clock.timeSet] ++ [Config.routeStateCode s.route.state] ++ beBytes 4 s.route.id
    ++ beBytes 4 s.route.openTime ++ timeBytes s.route.closeTime ++ [enumByte (s.route.closeReason.map closeReasonCode)]
    ++ [Config.linkStateCode s.ports.linkUp, yesNo s.lockedOut, yesNo s.store.faultInProgress]
    ++ beBytes 1 s.drops.length ++ beBytes 2 s.poolFree ++ beBytes 1 s.contexts.length ++ beBytes 1 s.liveDropNumber
    ++ settingsBytes s.config ++ [s.pass.upRoute, s.pass.upIdle, s.pass.downRoute, s.pass.downIdle]

/-- A Product Class Table entry as page 1 reports it: UNDEFINED, or with its four fields (R198). DESIGN CHOICE, unsafe: UNDEFINED is the single byte 0, as in CLASS_WRITE, where the page has no table of its own (log entry 40). -/
def classPageBytes (k : Option ProductClass) : List Byte :=
  match k with
  | none => [0]
  | some k => 1 :: classFieldBytes k

/-- QUERY PART (R198). -/
def queryPart (ops : List Byte) (s : State) : QueryResult :=
  match ops with
  | [page] =>
    match page.toNat with
    | 0 => .ok (partStatus s)
    | 1 => .ok (s.classes.toList.map classPageBytes).flatten
    | 2 => .ok (s.pass.classTable.toList.take 128)
    | 3 => .ok (s.pass.classTable.toList.drop 128)
    | _ => .error .outOfRange
  | _ => .error .malformed

/-! ### COMPARTMENT and DOOR -/

/-- The window state of compartment c (R45). -/
def windowBytes (s : State) (c : Fin 4) : List Byte :=
  let w := (s.comp c).window
  beBytes 2 w.inserted ++ beBytes 2 w.forced ++ beBytes 2 w.afterClose ++ beBytes 2 w.closeDiscards
    ++ [Config.windowModeCode (s.windowMode c)] ++ beBytes 4 w.committed ++ beBytes 1 w.events.length
    ++ timeBytes (w.events.head?.map (·.time)) ++ timeBytes (w.events.getLast?.map (·.time))

/-- The accounting state of a compartment (R85). -/
def accountBytes (a : Account) : List Byte :=
  euBytes a.e ++ euBytes a.p ++ euBytes a.h ++ tempBytes a.tg ++ [thermalCode a.thermal, thermalCode (some a.lastClass)]
    ++ beBytes 1 a.severeCount ++ readingBytes a.peak ++ beBytes 4 (a.gap / 4) ++ beBytes 2 a.late ++ beBytes 2 a.lateWarm
    ++ [yesNo a.satFlag, yesNo a.budgetFlag] ++ (a.readings.toList.map readingBytes).flatten

/-- QUERY COMPARTMENT (R197). -/
def queryCompartment (ops : List Byte) (s : State) : QueryResult :=
  match ops with
  | [n] =>
    if h : n.toNat < 4 then
      .ok (profileBytes (s.comp ⟨n.toNat, h⟩).profile ++ windowBytes s ⟨n.toNat, h⟩
        ++ accountBytes (s.comp ⟨n.toNat, h⟩).account)
    else .error .outOfRange
  | _ => .error .malformed

/-- The state of door slot (c, p) (R102). DESIGN CHOICE, unsafe: a slot without a contact has the live door state 0xFF, absent (log entry 37), and the settled condition is a yes or no byte, yes for settled-open (log entry 38). -/
def doorBytes (s : State) (c : Fin 4) (p : Fin 2) : List Byte :=
  let k := s.comp c
  let e := s.contactOf c p
  [(e.map (·.addr)).getD 0, enumByte (e.map fun x => liveDoorCode x.doorLive)] ++ timeBytes (e.bind (·.doorTime))
    ++ timeBytes k.doors[p].opening ++ timeBytes k.doors[p].deadline
    ++ beBytes 2 k.doors[p].liveOpenings ++ beBytes 2 k.doors[p].longOpenings
    ++ [doorStateCode k.doors[p].settled] ++ beBytes 4 k.doors[p].since ++ [yesNo (settledOpen k)]
    ++ beBytes 2 k.totals.openings ++ beBytes 2 k.totals.unscheduled ++ beBytes 4 k.totals.openTicks
    ++ beBytes 2 k.totals.redundant ++ beBytes 4 (k.totals.openTicks / 4)

/-- QUERY DOOR (R102, R197). -/
def queryDoor (ops : List Byte) (s : State) : QueryResult :=
  match ops with
  | [n, q] =>
    if h : n.toNat < 4 ∧ q.toNat < 2 then .ok (doorBytes s ⟨n.toNat, h.1⟩ ⟨q.toNat, h.2⟩) else .error .outOfRange
  | _ => .error .malformed

/-! ### STATION -/

/-- An entry's kind, and its compartment, position and offset where its kind has them (R21, 13.5). DESIGN CHOICE, unsafe: a field that the kind does not have is left out (log entry 36). -/
def bindingBytes (b : Binding) : List Byte :=
  match b with
  | .probe c p o => kindProbe :: beBytes 1 c.val ++ beBytes 1 p.val ++ beInt 1 o
  | .door c p => kindDoor :: beBytes 1 c.val ++ beBytes 1 p.val
  | .terminal => [kindTerminal]
  | .other => [kindOther]

/-- The live fields of an entry that its kind has; one that the kind does not have is left out (R22; log entry 36). The fault mark and its time are each in their own form of R210: 0xFF for no mark, and a presence byte before the time (R32; log entry 34). -/
def liveBytes (e : Station) : List Byte :=
  match e.binding with
  | .probe _ _ _ =>
    readingBytes e.latest ++ enumByte (e.faultMark.map fun f => Config.sensorFaultCode f.1) :: timeBytes (e.faultMark.map (·.2))
  | .door _ _ => liveDoorCode e.doorLive :: timeBytes e.doorTime
  | _ => []

/-- The entry's latest reading is fresh now, judged against its compartment's F (R22, R66). DESIGN CHOICE, unsafe: an entry without a latest reading, and one that is no PROBE, is answered as not fresh (log entry 35). -/
def State.latestFresh (s : State) (e : Station) : Bool :=
  match e.binding, e.latest with
  | .probe c _ _, some r => fresh (s.comp c).profile.freshness r.2 s.now
  | _, _ => false

/-- A Station Table entry as QUERY reports it (R199). DESIGN CHOICE, unsafe: the freshness byte is there for every entry, whatever its kind (log entry 35). -/
def stationBytes (s : State) (e : Station) : List Byte :=
  e.addr :: bindingBytes e.binding ++ withPresence (e.override.map fun b => [b]) ++ [yesNo e.seqSeen, e.lastSeq]
    ++ liveBytes e ++ beBytes 2 e.taken ++ beBytes 2 e.repeats ++ beBytes 2 e.held ++ [yesNo (s.latestFresh e)]

/-- QUERY STATION (R197, R199). -/
def queryStation (ops : List Byte) (s : State) : QueryResult :=
  match ops with
  | [a] =>
    if a = 0 then .ok (listBytes (s.stations.entries.map fun e => [e.addr]))
    else if !stationAddr a then .error .outOfRange
    else match s.findStation a with
      | some e => .ok (stationBytes s e)
      | none => .error .noEntry
  | _ => .error .malformed

/-! ### DROP -/

/-- The items a QUERY DROP reply carries: at most 16, from the first index on (R119, 13.5). -/
def carriedItems (d : Drop) (first : Nat) : List Item := (d.items.drop first).take 16

/-- The 12-byte drop part and the items of a QUERY DROP reply (R119, 13.5). -/
def dropBytes (d : Drop) (first : Nat) : List Byte :=
  beBytes 1 d.number ++ beBytes 4 d.site ++ beBytes 1 ((dropStateCode d.state).toNat * 16 + d.mask.toNat)
    ++ beBytes 2 (d.allowance / 4 * 64 + d.items.length) ++ numberBytes 2 d.record ++ [d.owner.getD 0]
    ++ beBytes 1 (d.reservation.isSome.toNat * 128 + (carriedItems d first).length * 4)
    ++ ((carriedItems d first).map itemBytes).flatten

/-- QUERY DROP (R119, R197). -/
def queryDrop (ops : List Byte) (s : State) : QueryResult :=
  match ops with
  | [n, first] =>
    if n = 0 ∨ 64 < n.toNat ∨ 31 < first.toNat then .error .outOfRange
    else match s.findDrop n.toNat with
      | some d => .ok (dropBytes d first.toNat)
      | none => .error .noEntry
  | _ => .error .malformed

/-! ### STORE and CLAIMS -/

/-- The five states of a slot, and CORRUPT with fetched mark yes (R163). -/
def isReserved : Slot → Bool
  | .reserved => true
  | _ => false
def isFilled : Slot → Bool
  | .filled _ _ => true
  | _ => false
def isTaken : Slot → Bool
  | .taken _ _ => true
  | _ => false
def isCorrupt : Slot → Bool
  | .corrupt _ _ => true
  | _ => false
def isCorruptFetched : Slot → Bool
  | .corrupt _ f => f
  | _ => false

/-- The number of slots for which p holds. -/
def State.countSlots (s : State) (p : Slot → Bool) : Nat := s.store.slots.toList.countP p

/-- The record number of a slot. -/
def State.slotNumber (s : State) (i : Fin 256) : Option Nat := (s.slot i).header?.map (·.number)

/-- The state of the Proof Store (R163). -/
def storeBytes (s : State) : List Byte :=
  beBytes 2 (s.countSlots Slot.isFree) ++ beBytes 2 (s.countSlots isReserved) ++ beBytes 2 (s.countSlots isFilled)
    ++ beBytes 2 (s.countSlots isTaken) ++ beBytes 2 (s.countSlots isCorrupt) ++ beBytes 2 (s.countSlots isCorruptFetched)
    ++ beBytes 2 s.store.nextNumber ++ beBytes 4 s.store.chain.toNat
    ++ numberBytes 2 (s.store.fillList.head?.bind s.slotNumber)
    ++ numberBytes 2 ((s.store.fillList.find? fun i => isFilled (s.slot i)).bind s.slotNumber)
    ++ numberBytes 2 ((s.store.fillList.reverse.find? fun i => isTaken (s.slot i)).bind s.slotNumber)
    ++ [yesNo s.store.faultInProgress, yesNo s.lockedOut]

/-- QUERY STORE (R163, R197). -/
def queryStore (ops : List Byte) (s : State) : QueryResult :=
  if ops.isEmpty then .ok (storeBytes s) else .error .malformed

/-- One claim as QUERY CLAIMS reports it (R180). The number of verdict entries is a field that a WAITING claim does not have, behind a presence byte (R210; log entry 39). -/
def claimBytes (k : Claim) : List Byte :=
  beBytes 2 k.tag ++ [portCode k.port, k.station] ++ refBytes k.reference ++ numberBytes 2 k.resolved
    ++ [selectorCode k.selector, claimKindCode k.kind] ++ beBytes 4 k.lodged ++ [Config.claimStateCode k.judged.isSome]
    ++ withPresence (k.judged.map fun j => beBytes 1 j.entries.length)

/-- QUERY CLAIMS (R180, R197). -/
def queryClaims (ops : List Byte) (s : State) : QueryResult :=
  if ops.isEmpty then .ok (listBytes (s.claims.queue.map claimBytes)) else .error .malformed

/-! ### COUNTERS -/

/-- 32-bit counts one after another (13.3). -/
def countsBytes (ns : List Nat) : List Byte := (ns.map (beBytes 4)).flatten

/-- The group PORTS (R20, R199). -/
def portsGroup (s : State) : List Byte :=
  let f := s.ports.field.counts
  let t := s.ports.trunk.counts
  countsBytes [f.received, t.received, f.lengthErrors, t.lengthErrors, f.formatErrors, f.crcErrors, t.crcErrors,
      f.addressErrors, t.addressErrors, f.unhandled, t.unhandled, f.sent, t.sent,
      s.pass.upCounts.heldBack, s.pass.downCounts.heldBack, s.pass.upCounts.forwarded, s.pass.downCounts.forwarded,
      s.pass.upCounts.overflow, s.pass.downCounts.overflow, s.ports.mgmtDiscards, f.replyDrops, t.replyDrops,
      s.ports.alertDrops]
    ++ [s.ports.field.seqCounter, s.ports.trunk.seqCounter]

/-- One code of the group ALERTS (R188). -/
def alertBytes (e : AlertEntry) : List Byte :=
  beBytes 2 e.raises ++ beBytes 2 e.pending ++ timeBytes e.lastFrame ++ beBytes 1 e.level

/-- The counts of a group (R199). -/
def groupBytes (s : State) (g : CounterGroup) : List Byte :=
  match g with
  | .ports => portsGroup s
  | .stations =>
    countsBytes [s.stations.repeats, s.stations.unknownSource, s.stations.kindMismatches, s.stations.shortReadings,
      s.stations.probeFaults, s.stations.clamped]
  | .stops =>
    countsBytes [s.stopCounts.requests, s.stopCounts.accepted, s.stopCounts.retries, s.stopCounts.refused,
      s.stopCounts.malformed, s.stopCounts.handoverTimeouts, s.stopCounts.abandoned]
  | .store =>
    countsBytes [s.store.counts.fills, s.store.counts.verifyFailures, s.store.counts.faults, s.store.counts.fillFaults,
      s.store.counts.fetchFaults, s.store.counts.claimFaults, s.store.counts.faultRecords, s.store.counts.fetched,
      s.store.counts.released]
  | .claims =>
    countsBytes [s.claims.counts.lodged, s.claims.counts.turnedAway, s.claims.counts.refused, s.claims.counts.malformed,
      s.claims.counts.released, s.claims.counts.aborted, s.claims.counts.supported, s.claims.counts.unknownRecord]
  | .alerts =>
    (s.alerts.table.toList.map alertBytes).flatten ++ beBytes 1 s.alerts.mask ++ beBytes 2 s.config.alertHoldoff
  | .agent =>
    countsBytes [s.agent.taken, s.agent.done, s.agent.busy, s.agent.refused, s.agent.malformed, s.agent.lockout]

/-- The Agent's counts as a QUERY COUNTERS reports them, the query itself counted among the commands answered DONE (R199). -/
def countQuery (s : State) : State := { s with agent := { s.agent with done := satInc max32 s.agent.done } }

/-- QUERY COUNTERS (R197, R199). -/
def queryCounters (ops : List Byte) (s : State) : QueryResult :=
  match ops with
  | [g] =>
    match parseGroup g with
    | some k => .ok (groupBytes (countQuery s) k)
    | none => .error .outOfRange
  | _ => .error .malformed

end Sys2Proof.Machine
end

