-- ==== Sys2Proof/Machine/Fetch.lean ====
section
/-! DEFINITION. PROOF_FETCH, PROOF_RELEASE and the CLAIM_LODGE command (R156 to R159, R166, R168, R169). -/
namespace Sys2Proof.Machine

/-! ### PROOF_RECORD -/

/-- The payload of a PROOF_RECORD that returns segment i of a sound record (13.6). -/
def soundPayload (seq : Byte) (h : RecordHeader) (b : RecordBody) (i : Nat) : List Byte :=
  [seq, 0] ++ beBytes 1 i ++ beBytes 1 (segmentCount b) ++ headerBytes h.number h.kind h.routeId h.fillTime
    ++ beBytes 4 h.chain.toNat ++ segmentBytes b i

/-- The payload of a PROOF_RECORD of the header alone, marked CORRUPT; its segment index byte is free (13.6; log entry 25). -/
def corruptPayload (seq : Byte) (h : RecordHeader) (asked : Byte) : List Byte :=
  [seq, 1, Config.corruptSegmentByte asked, 0] ++ headerBytes h.number h.kind h.routeId h.fillTime
    ++ beBytes 4 h.chain.toNat

/-- A fetch is answered by a PROOF_RECORD, which the records-fetched count counts (R156, R163). -/
def answerRecord (m : CmdHdr) (payload : List Byte) (s : State) : State :=
  answer cmdProofFetch m (.proof payload) (s.updStoreCounts fun n => { n with fetched := satInc max32 n.fetched })

/-- A fetch read of slot i, with header h, finds uncorrectable data: the slot becomes CORRUPT and the detection is taken (R156, R157, R159). -/
def fetchFault (i : Fin 256) (h : RecordHeader) (fetched : Bool) (s : State) : State :=
  sweepClaims (detectFault .fetch i h.number h.kind (s.afterRead.setSlot i (.corrupt h fetched)))

/-! ### PROOF_FETCH -/

/-- A slot that fetch NEXT has not passed: FILLED, or CORRUPT with fetched mark no (R156). -/
def unfetched : Slot → Bool
  | .filled _ _ => true
  | .corrupt _ f => !f
  | _ => false

/-- Fetch NEXT of slot i (R156). -/
def fetchNextSlot (m : CmdHdr) (i : Fin 256) (s : State) : State :=
  match s.slot i with
  | .filled h b =>
    if s.readFails then answerRecord m (corruptPayload m.seq h 0) (fetchFault i h true s)
    else answerRecord m (soundPayload m.seq h b 0) (s.afterRead.setSlot i (.taken h b))
  | .corrupt h _ => answerRecord m (corruptPayload m.seq h 0) (s.setSlot i (.corrupt h true))
  | _ => answer cmdProofFetch m (.done markEmpty []) s

/-- PROOF_FETCH with selector NEXT (R156). -/
def runFetchNext (m : CmdHdr) (ops : List Byte) (s : State) : State :=
  match ops with
  | [g] =>
    if g ≠ 0 then answer cmdProofFetch m (.refused .outOfRange) s
    else match s.store.fillList.find? fun i => unfetched (s.slot i) with
      | none => answer cmdProofFetch m (.done markEmpty []) s
      | some i => fetchNextSlot m i s
  | _ => answer cmdProofFetch m (.refused .malformed) s

/-- A fetch by number of segment g of slot i (R157, check 4 and the answer). -/
def fetchSlot (m : CmdHdr) (i : Fin 256) (g : Nat) (s : State) : State :=
  match s.slot i with
  | .filled h b =>
    if segmentCount b ≤ g then answer cmdProofFetch m (.refused .outOfRange) s
    else if s.readFails then answerRecord m (corruptPayload m.seq h (BitVec.ofNat 8 g)) (fetchFault i h false s)
    else answerRecord m (soundPayload m.seq h b g) s.afterRead
  | .taken h b =>
    if segmentCount b ≤ g then answer cmdProofFetch m (.refused .outOfRange) s
    else if s.readFails then answerRecord m (corruptPayload m.seq h (BitVec.ofNat 8 g)) (fetchFault i h true s)
    else answerRecord m (soundPayload m.seq h b g) s.afterRead
  | .corrupt h _ => answerRecord m (corruptPayload m.seq h (BitVec.ofNat 8 g)) s
  | _ => answer cmdProofFetch m (.refused .noEntry) s

/-- PROOF_FETCH with a record number (R157). -/
def runFetchNumber (m : CmdHdr) (ops : List Byte) (s : State) : State :=
  match parseFetchNumber ops with
  | none => answer cmdProofFetch m (.refused .malformed) s
  | some (n, g) =>
    if n = 0 then answer cmdProofFetch m (.refused .outOfRange) s
    else match s.findRecord n with
      | none => answer cmdProofFetch m (.refused .noEntry) s
      | some i => fetchSlot m i g s

/-! ### PROOF_RELEASE -/

/-- A slot that a release frees: TAKEN, or CORRUPT with fetched mark yes (R158). -/
def releasable : Slot → Bool
  | .taken _ _ => true
  | .corrupt _ f => f
  | _ => false

/-- The fill list up to and with slot i. -/
def upTo (i : Fin 256) : List (Fin 256) → List (Fin 256)
  | [] => []
  | j :: js => if j = i then [j] else j :: upTo i js

/-- The slots a release up to slot i frees (R158). -/
def State.freedBy (s : State) (i : Fin 256) : List (Fin 256) :=
  (upTo i s.store.fillList).filter fun j => releasable (s.slot j)

/-- The slots given leave the fill list and become FREE; the records-released count grows by their number (R158). -/
def freeSlots (js : List (Fin 256)) (s : State) : State :=
  { s with store := { s.store with
      slots := js.foldl (fun v j => v.set j.val .free) s.store.slots
      fillList := s.store.fillList.filter fun j => !js.contains j
      counts := { s.store.counts with released := satAdd max32 s.store.counts.released js.length } } }

/-- PROOF_RELEASE; the reply carries the number of slots freed (R158). -/
def judgeRelease (ops : List Byte) (s : State) : Judged :=
  match parseNumber ops with
  | none => .error .malformed
  | some n =>
    if n = 0 then .error .outOfRange
    else match s.findRecord n with
      | none => .error .noEntry
      | some i => .ok (markNone, beBytes 2 (s.freedBy i).length, freeSlots (s.freedBy i) s)

/-! ### CLAIM_LODGE from the trunk -/

/-- Check 3 of R166. -/
def lodgeInRange (o : LodgeOps) : Bool :=
  (match o.reference with
    | .record n => 1 ≤ n
    | .drop n => 1 ≤ n && n ≤ 64) && selectorInRange o.selector

/-- The drop of a DROP reference is held (R166, check 4). -/
def State.refHeld (s : State) (r : ClaimRef) : Bool :=
  match r with
  | .record _ => true
  | .drop n => (s.findDrop n).isSome

/-- Checks 1 to 5 of R166. -/
def State.trunkLodgeCheck (s : State) (o : Option LodgeOps) : Option MgmtReason :=
  if s.lockedOut then some .lockout
  else match o with
    | none => some .malformed
    | some o =>
      if !lodgeInRange o then some .outOfRange
      else if !s.refHeld o.reference then some .noEntry
      else if !s.refClaimable o.reference then some .state
      else none

/-- An accepted lodging from the trunk: the reply carries the tag and the number of claims ahead (R168). -/
def acceptTrunkClaim (m : CmdHdr) (i : Fin 256) (o : LodgeOps) (s : State) : State :=
  settleLodging
    (answer cmdClaimLodge m (.done markNone (beBytes 2 o.tag ++ beBytes 1 s.claims.queue.length))
      (joinClaim i .trunk m.src o s))

/-- The command CLAIM_LODGE (R166, R168, R169). -/
def runClaimLodge (m : CmdHdr) (ops : List Byte) (s : State) : State :=
  match s.trunkLodgeCheck (parseLodge ops), parseLodge ops with
  | some w, _ =>
    answer cmdClaimLodge m (.refused w) (s.updClaimCounts fun n => { n with refused := satInc max32 n.refused })
  | none, some o =>
    match s.claimRoom with
    | none =>
      answer cmdClaimLodge m .busy (s.updClaimCounts fun n => { n with turnedAway := satInc max32 n.turnedAway })
    | some i => acceptTrunkClaim m i o s
  | none, none => s

end Sys2Proof.Machine
end

