-- ==== Sys2Proof/Machine/Resets.lean ====
section
/-! DEFINITION. MONITOR_RESET, FULL_CLEAR, the cold start, the warm resume, and the device's stopping and starting (R189, R200 to R208). -/
namespace Sys2Proof.Machine

/-! ### MONITOR_RESET -/

/-- The raise counter and the pending count of every alert code become 0 (R189). -/
def zeroAlerts (s : State) : State :=
  { s with alerts := { s.alerts with table := s.alerts.table.map fun e => { e with raises := 0, pending := 0 } } }

/-- MONITOR_RESET outside a route; the reply carries the number of claims aborted (R200). -/
def resetIdle (m : CmdHdr) (s : State) : State :=
  answer cmdMonitorReset m (.done markNone (beBytes 1 s.claims.queue.length)) (abortClaims (zeroAlerts s))

/-- Steps 2 and 3 of a forced settlement: the close time, and the closing of the live stop (R201). -/
def beginForced (s : State) : State :=
  closeLive s.now
    (if s.route.state = .opened then { s with route := { s.route with closeTime := some s.now } } else s)

/-- The close time a forced settlement reports. -/
def State.forcedClose (s : State) : Nat := s.route.closeTime.getD 0

/-- The reply of a forced settlement that LOCKOUT has cut off: the close time and the number of drops completed (R201). -/
def answerIncomplete (m : CmdHdr) (completed : Nat) (s : State) : State :=
  answer cmdMonitorReset m (.done markIncomplete (beBytes 4 s.forcedClose ++ beBytes 1 completed)) s

/-- The settlements completed outside LOCKOUT from old to s (log entry 18). -/
def State.completedSince (s old : State) : Nat := s.completions - old.completions

/-- Forced settlement from step 5 on; start is the state before step 3, and settling the state before step 4 (R201). -/
def endForced (m : CmdHdr) (start settling : State) (s : State) : State :=
  let number := s.store.nextNumber
  let s1 := endRoute .reset s
  if s1.lockedOut then answerIncomplete m (s1.completedSince start) s1
  else
    let s2 := abortClaims s1
    answer cmdMonitorReset m
      (.done markNone (beBytes 4 s2.forcedClose ++ [closeReasonCode .reset] ++ beBytes 1 (s.completedSince settling) ++ beBytes 2 number)) s2

/-- Forced settlement (R201). DONE reports the drops completed in step 4, and INCOMPLETE those of the whole sequence before the entry into LOCKOUT (log entry 18). DESIGN CHOICE, unsafe: an entry into LOCKOUT made by the closing of step 3 cuts the sequence off as one in steps 4 and 5 does, with DONE and INCOMPLETE (log entry 42). -/
def forcedSettlement (m : CmdHdr) (s : State) : State :=
  let s1 := beginForced (zeroAlerts s)
  if s1.lockedOut then answerIncomplete m (s1.completedSince s) s1
  else
    let s2 := forceWindows s1
    if s2.lockedOut then answerIncomplete m (s2.completedSince s) s2
    else endForced m s s1 s2

/-- MONITOR_RESET (R192, R200, R201). -/
def runMonitorReset (m : CmdHdr) (ops : List Byte) (s : State) : State :=
  gated cmdMonitorReset m
    (fun s =>
      if !ops.isEmpty then answer cmdMonitorReset m (.refused .malformed) s
      else if s.onRoute then forcedSettlement m s
      else resetIdle m s) s

/-! ### Cold start, FULL_CLEAR and warm resume -/

/-- A cold start: every item takes its cold-start value, the check word is computed afresh and the down time is not valid (R208). What is kept: the power inputs, the array's spare mapping (R164), and the model's own queue of commands and its reads of the array. -/
def coldStart (s : State) : State :=
  { State.reset with
    pending := s.pending
    power := { s.power with checkDiff := 0, downValid := false }
    store := { State.reset.store with spareMap := s.store.spareMap }
    array := s.array }

/-- The DONE of a FULL_CLEAR, placed in the emptied trunk reply queue; the counts of the cold start stand (R202; log entry 19). -/
def placeClearReply (m : CmdHdr) (s : State) : State :=
  s.updPort .trunk fun u => { u with replies := u.replies ++ [answerFrame cmdFullClear m (.done markNone [])] }

/-- FULL_CLEAR (R202). -/
def runFullClear (m : CmdHdr) (ops : List Byte) (s : State) : State :=
  if !ops.isEmpty then answer cmdFullClear m (.refused .malformed) s
  else if s.onRoute && !s.lockedOut then answer cmdFullClear m (.refused .lockedOnRoute) s
  else placeClearReply m (coldStart s)

/-- The outage, when it is known (R206, step 4). -/
def State.outage (s : State) : Option Int := if s.power.downValid then some (s.now - s.power.downTime : Nat) else none

/-- A recovery under way begins again at a warm resume (R160). -/
def restartRecovery (now : Nat) (r : Recovery) : Recovery := { r with deadline := now + Config.recoveryTicks }

/-- A warm resume (R206). -/
def warmResume (s : State) : State :=
  let s1 := clearVolatile s
  let s2 := raise .resumed .part s.outage s1
  { s2 with
    power := { s2.power with downValid := false }
    store := { s2.store with recovery := s2.store.recovery.map (restartRecovery s2.now) } }

/-! ### Stopping and starting -/

/-- What the device does on stopping: it writes the down time, marks it valid when it can, and cuts off the frames in transmission (R204). -/
def stopDevice (marked : Bool) (s : State) : State :=
  let s1 := (s.updPort .field fun u => { u with sending := none }).updPort .trunk fun u => { u with sending := none }
  { s1 with power := { s1.power with downTime := s1.now, downValid := marked } }

/-- Main power is lost, or the reset line is asserted; a device with power stops, and one that has stopped already keeps the down time it wrote (R204). -/
def losePower (cause : StopCause) (s : State) : State :=
  match cause with
  | .mainSupply marked =>
    let s1 := if s.powered then stopDevice marked s else s
    { s1 with power := { s1.power with mainPower := false } }
  | .resetLine =>
    let s1 := if s.powered then stopDevice true s else s
    { s1 with power := { s1.power with resetAsserted := true } }

/-- The backup supply is lost, and with it the domain: the check word no longer agrees (R204). A device with power goes on with the state it holds (log entry 7). DESIGN CHOICE, unsafe: the loss is a moment, and no level of the supply is held (log entry 41). -/
def loseBackup (s : State) : State := { s with power := { s.power with checkDiff := s.lostDiff } }

/-- The start the device takes: a warm resume when the check word agrees, and a cold start otherwise (R205). -/
def startDevice (s : State) : State := if s.checkAgrees then warmResume s else coldStart s

/-- The power inputs after main power comes up or the reset line is released. -/
def raisePower (cause : StartCause) (p : Power) : Power :=
  match cause with
  | .mainSupply => { p with mainPower := true }
  | .resetLine => { p with resetAsserted := false }

/-- Main power comes up or the reset line is released; a stopped device starts when both conditions hold (R205). -/
def restorePower (cause : StartCause) (s : State) : State :=
  let s1 := { s with power := raisePower cause s.power }
  if !s.powered && s1.powered then startDevice s1 else s1

end Sys2Proof.Machine
end

