-- ==== Sys2Proof/Machine/Lines.lean ====
section
/-! DEFINITION. The ports: receive tests, the handing on of an error-free frame, the decoding of a command, the trunk link, and the output arbiters (R1 to R7, R14, R17, R18, R190). -/
namespace Sys2Proof.Machine

/-! ### Receiving -/

/-- Which of the tests of R3 a frame fails first. -/
inductive ReceiveFailure | length | format | crc | address
  deriving DecidableEq, Repr

/-- The trailer bytes a frame of these flags has (R1). -/
def trailerLength (flags : Byte) : Nat := if annotated flags then 8 else 0

/-- Test 4 of R3. -/
def addressesValid (dst src : Byte) : Bool := 1 ≤ src.toNat && src.toNat ≤ 0xFD && dst != 0

/-- The tests of R3 on a frame whose CRC is right. -/
def frameFailure (p : Port) (f : Frame) : Option ReceiveFailure :=
  if 240 < f.payload.length ∨ f.trailer.length ≠ trailerLength f.flags then some .length
  else if p = .field ∧ annotated f.flags = true then some .format
  else if !addressesValid f.dst f.src then some .address
  else none

/-- The counts of a port after a frame it discards (R3). -/
def countFailure (e : ReceiveFailure) (n : PortCounts) : PortCounts :=
  match e with
  | .length => { n with lengthErrors := satInc max32 n.lengthErrors }
  | .format => { n with formatErrors := satInc max32 n.formatErrors }
  | .crc => { n with crcErrors := satInc max32 n.crcErrors }
  | .address => { n with addressErrors := satInc max32 n.addressErrors }

/-- A port discards a frame and counts it (R3). -/
def discardFrame (p : Port) (e : ReceiveFailure) (s : State) : State := s.updPortCounts p (countFailure e)

/-- A port counts an error-free frame (R3). -/
def countReceived (p : Port) (s : State) : State :=
  s.updPortCounts p fun n => { n with received := satInc max32 n.received }

/-- Port p receives what comes on its line: the trunk line is full-duplex, and the field port does not listen during its own transmission (R7; log entry 28). -/
def State.listens (s : State) (p : Port) : Bool :=
  match p with
  | .trunk => true
  | .field => s.ports.field.sending.isNone

/-- What port p does with a reception, when it listens (R7). -/
def whileListening (p : Port) (receive : State → State) (s : State) : State := if s.listens p then receive s else s

/-- Frame f arrives at port p with a right CRC: discarded at the first test it fails, or handed on (R3, R5). -/
def arrives (p : Port) (f : Frame) (handOn : State → State) : State → State :=
  whileListening p fun s =>
    match frameFailure p f with
    | some e => discardFrame p e s
    | none => handOn (countReceived p s)

/-! ### Field frames (R5) -/

/-- A field frame to the device is handed on by its type (R5). -/
def fieldToDevice (f : Frame) : State → State :=
  if f.typ = typSample then takeSample f
  else if f.typ = typDoorState then takeDoorState f
  else if f.typ = typStopArrive then takeStopArrive f
  else if f.typ = typStopDepart then takeStopDepart f
  else if f.typ = typHandoverOpen then takeHandoverOpen f
  else if f.typ = typItemConfirm then takeItemConfirm f
  else if f.typ = typHandoverClose then takeHandoverClose f
  else if f.typ = typHandoverAbort then takeHandoverAbort f
  else if f.typ = typClaimLodge then takeClaimLodge f
  else takeUnhandledField f

/-- A broadcast field frame is handed on by its type (R5). -/
def fieldBroadcast (f : Frame) : State → State :=
  if f.typ = typSample then takeSample f
  else if f.typ = typDoorState then takeDoorState f
  else takePassUp f

/-- An error-free field frame is handed on (R5). -/
def fieldHandOn (f : Frame) : State → State :=
  if f.dst = deviceAddr then fieldToDevice f
  else if f.dst = broadcastAddr then fieldBroadcast f
  else takePassUp f

/-! ### Management commands (R190) -/

/-- MANIFEST_LOAD by its part byte (13.5). -/
def runManifestLoad (m : CmdHdr) (ops : List Byte) : State → State :=
  match ops with
  | 0 :: rest => runGated cmdManifestLoad m (judgeLoadSingle rest)
  | 1 :: rest => runGated cmdManifestLoad m (judgeLoadPartOne rest)
  | 2 :: rest => runLoadPartTwo m rest
  | _ => runGated cmdManifestLoad m fun _ => .error .malformed

/-- QUERY by its subject byte (R197, 13.5). -/
def runQueryCommand (m : CmdHdr) (ops : List Byte) : State → State :=
  match ops with
  | 0 :: rest => runQuery m (queryPart rest)
  | 1 :: rest => runQuery m (queryCompartment rest)
  | 2 :: rest => runQuery m (queryDoor rest)
  | 3 :: rest => runQuery m (queryStation rest)
  | 4 :: rest => runQuery m (queryDrop rest)
  | 5 :: rest => runQuery m (queryStore rest)
  | 6 :: rest => runQuery m (queryClaims rest)
  | 7 :: rest => runQuery m (queryCounters rest)
  | _ => runQuery m fun _ => .error .malformed

/-- PROOF_FETCH by its selector byte (13.5). -/
def runFetch (m : CmdHdr) (ops : List Byte) : State → State :=
  match ops with
  | 0 :: rest => runFetchNext m rest
  | 1 :: rest => runFetchNumber m rest
  | _ => answer cmdProofFetch m (.refused .malformed)

/-- A command code that names no command of 11.2 is refused (R190, step 1). -/
def refuseCode (code : Byte) (m : CmdHdr) : State → State := answer code m (.refused .malformed)

/-- The command of a code is carried out (R190, 13.5). -/
def runCode (m : CmdHdr) (code : Byte) (ops : List Byte) : State → State :=
  if code = cmdStationWrite then runGated code m (judgeStationWrite ops)
  else if code = cmdStationClear then runGated code m (judgeStationClear ops)
  else if code = cmdCompartmentWrite then runGated code m (judgeCompartmentWrite ops)
  else if code = cmdClassWrite then runGated code m (judgeClassWrite ops)
  else if code = cmdFrameClassWrite then runGated code m (judgeFrameClassWrite ops)
  else if code = cmdPassMaskSet then runGated code m (judgePassMaskSet ops)
  else if code = cmdAlertLevelWrite then runGated code m (judgeAlertLevelWrite ops)
  else if code = cmdAlertMaskSet then runGated code m (judgeAlertMaskSet ops)
  else if code = cmdConfigWrite then runGated code m (judgeConfigWrite ops)
  else if code = cmdTimeSet then fun s => settle code m (judgeTimeSet ops s) s
  else if code = cmdManifestLoad then runManifestLoad m ops
  else if code = cmdManifestDelete then runGated code m (judgeManifestDelete ops)
  else if code = cmdRouteOpen then runGated code m (judgeRouteOpen ops)
  else if code = cmdRouteClose then runGated code m (judgeRouteClose ops)
  else if code = cmdQuery then runQueryCommand m ops
  else if code = cmdProofFetch then runFetch m ops
  else if code = cmdProofRelease then fun s => settle code m (judgeRelease ops s) s
  else if code = cmdClaimLodge then runClaimLodge m ops
  else if code = cmdMonitorReset then runMonitorReset m ops
  else if code = cmdFullClear then runFullClear m ops
  else refuseCode code m

/-- The payload of a taken MGMT frame is decoded and carried out; an empty one is refused, its code byte free (R190; log entry 30). -/
def runPayload (m : CmdHdr) (payload : List Byte) : State → State :=
  match payload with
  | [] => refuseCode Config.emptyPayloadCode m
  | code :: ops => runCode m code ops

/-! ### Trunk frames (R5) -/

/-- What the Agent uses of a frame's header (R190). -/
def cmdHdr (f : Frame) : CmdHdr := { src := f.src, seq := f.seq }

/-- A trunk frame to the device is handed on by its type (R5, R14, R190). -/
def trunkToDevice (f : Frame) : State → State :=
  if f.typ = typMgmt then admitCommand (runPayload (cmdHdr f) f.payload)
  else if f.typ = typClaimLodge then admitCommand (runClaimLodge (cmdHdr f) f.payload)
  else countUnhandled .trunk

/-- An error-free trunk frame is handed on (R5). -/
def trunkHandOn (f : Frame) : State → State := if f.dst = deviceAddr then trunkToDevice f else offerDown f

/-- An error-free frame is handed on from its port (R5). -/
def handOn (p : Port) (f : Frame) : State → State :=
  match p with
  | .field => fieldHandOn f
  | .trunk => trunkHandOn f

/-! ### The bytes of a reception -/

/-- The frame that the bytes of a reception of the right length spell, its CRC bytes left out (13.1). -/
def parseFrame (bytes : List Byte) : Option Frame :=
  match bytes with
  | dst :: src :: typ :: flags :: seq :: a1 :: a0 :: len :: rest =>
    some { dst := dst, src := src, typ := typ, flags := flags, seq := seq, age := a1 ++ a0,
           payload := rest.take len.toNat, trailer := (rest.drop len.toNat).take (trailerLength flags) }
  | _ => none

/-- Test 1 of R3 on the bytes of a reception: the length field is the byte at offset 7 (13.1). -/
def lengthValid (bytes : List Byte) : Bool :=
  match bytes with
  | _ :: _ :: _ :: flags :: _ :: _ :: _ :: len :: _ =>
    len.toNat ≤ 240 && bytes.length = 10 + len.toNat + trailerLength flags
  | _ => false

/-- Test 3 of R3: the last two bytes are the CRC of those before them (R2). -/
def crcValid (bytes : List Byte) : Bool :=
  beBytes 2 (crc16 (bytes.take (bytes.length - 2))).toNat == bytes.drop (bytes.length - 2)

/-- The tests of R3 in their order on the bytes of a reception; none when the frame is error-free. -/
def bytesFailure (p : Port) (bytes : List Byte) : Option ReceiveFailure :=
  if !lengthValid bytes then some .length
  else match parseFrame bytes with
    | none => some .length
    | some f =>
      if p = .field ∧ annotated f.flags = true then some .format
      else if !crcValid bytes then some .crc
      else if !addressesValid f.dst f.src then some .address
      else none

/-- A port receives bytes: a frame that fails a test is discarded and counted, and an error-free one is handed on (R3, R5; log entry 4). -/
def receiveBytes (p : Port) (bytes : List Byte) : State → State :=
  whileListening p fun s =>
    match bytesFailure p bytes, parseFrame bytes with
    | some e, _ => discardFrame p e s
    | none, some f => handOn p f (countReceived p s)
    | none, none => s

/-! ### The trunk link (R6) -/

/-- The partner's idle pattern is detected: the link goes UP. -/
def raiseLink (s : State) : State := { s with ports := { s.ports with linkUp := true } }

/-- The idle pattern is lost: the link goes DOWN, a frame in transmission stays at the head of its queue, and a reception in progress ends as a length error (R3, R6). -/
def dropLink (receiving : Bool) (s : State) : State :=
  let s1 := { s with ports := { s.ports with linkUp := false, trunk := { s.ports.trunk with sending := none } } }
  if receiving then discardFrame .trunk .length s1 else s1

/-! ### Output (R17, R18) -/

/-- A port is free to start a transmission; on the field line the event itself says that R7 allows it. -/
def State.portFree (s : State) (p : Port) : Bool :=
  (s.port p).sending.isNone && (match p with
    | .field => true
    | .trunk => s.ports.linkUp)

/-- The frames of a queue of port p. -/
def State.queueFrames (s : State) (p : Port) (q : QueueKind) : List QFrame :=
  match q with
  | .reply => (s.port p).replies
  | .forward => (s.port p).forward
  | .alert => match p with
    | .field => []
    | .trunk => s.ports.alertQueue

/-- s with the frames of a queue of port p changed by f. -/
def State.updQueue (s : State) (p : Port) (q : QueueKind) (f : List QFrame → List QFrame) : State :=
  match q with
  | .reply => s.updPort p fun u => { u with replies := f u.replies }
  | .forward => s.updPort p fun u => { u with forward := f u.forward }
  | .alert => { s with ports := { s.ports with alertQueue := f s.ports.alertQueue } }

/-- The arbiter's order of the queues (R17); the field port has no alert queue. -/
def queueOrder : List QueueKind := [.reply, .alert, .forward]

/-- The queue the arbiter takes from: the first that is not empty (R17). -/
def State.arbiterChoice (s : State) (p : Port) : Option QueueKind :=
  queueOrder.find? fun q => !(s.queueFrames p q).isEmpty

/-- The frame takes an originated sequence number at this start: the device made it, and it has none yet (R6, R18). -/
def takesNumber (q : QueueKind) (f : QFrame) : Bool := q != .forward && !f.numbered

/-- A frame with its originated sequence number given (R18). -/
def numberFrame (seq : Byte) (f : QFrame) : QFrame := { frame := { f.frame with seq := seq }, numbered := true }

/-- The head of a queue, f, begins its transmission (R6, R17, R18). -/
def beginSending (p : Port) (q : QueueKind) (f : QFrame) (s : State) : State :=
  if takesNumber q f then
    let g := numberFrame (s.port p).seqCounter f
    (s.updQueue p q fun fs => g :: fs.tail).updPort p fun u =>
      { u with seqCounter := u.seqCounter + 1, sending := some { queue := q, wire := frameWire g.frame } }
  else s.updPort p fun u => { u with sending := some { queue := q, wire := frameWire f.frame } }

/-- The arbiter's choice when port p is free to start a transmission (R17). -/
def startSending (p : Port) (s : State) : State :=
  if s.portFree p then
    match s.arbiterChoice p with
    | none => s
    | some q =>
      match s.queueFrames p q with
      | f :: _ => beginSending p q f s
      | [] => s
  else s

/-- A transmission completes: the frame leaves its queue, and is counted (R13, R14, R17). -/
def finishSending (p : Port) (s : State) : State :=
  match (s.port p).sending with
  | none => s
  | some x =>
    (s.updQueue p x.queue List.tail).updPort p fun u =>
      { u with sending := none, counts := { u.counts with sent := satInc max32 u.counts.sent } }

end Sys2Proof.Machine
end

