-- ==== Sys2Proof/Machine/Arrivals.lean ====
section
/-! DEFINITION. The arrivals of frames that are no management commands: readings, door reports, frames passed on, unhandled frames, terminal requests. -/
namespace Sys2Proof.Machine

/-- A field frame of a row: no trailer is given, and the CRC is right (R1; log entry 4). -/
def fieldFrame (dst typ : Byte) (h : Hdr) (payload : List Byte) : Frame :=
  { dst := dst, src := h.src, typ := typ, flags := h.flags, seq := h.seq, age := h.age, payload := payload, trailer := [] }

/-- A frame of a row that gives its trailer. -/
def trailedFrame (dst typ : Byte) (h : Hdr) (payload trailer : List Byte) : Frame :=
  { dst := dst, src := h.src, typ := typ, flags := h.flags, seq := h.seq, age := h.age, payload := payload, trailer := trailer }

/-- The destination makes a SAMPLE or DOOR_STATE acted on (R4, R5). -/
def actedOn (dst : Byte) : Bool := dst == deviceAddr || dst == broadcastAddr

/-- SAMPLE to a destination (R5, R27, R30). -/
def execSample (dst : Byte) (h : Hdr) (payload : List Byte) (s : State) : Host.Outcome State Fault Refusal :=
  let f := fieldFrame dst typSample h payload
  .next (whileWorking (arrives .field f (if actedOn dst then takeSample f else takePassUp f)) s)

/-- DOOR_STATE to a destination (R5, R27, R30, R89). -/
def execDoorState (dst : Byte) (h : Hdr) (payload : List Byte) (s : State) : Host.Outcome State Fault Refusal :=
  let f := fieldFrame dst typDoorState h payload
  .next (whileWorking (arrives .field f (if actedOn dst then takeDoorState f else takePassUp f)) s)

/-- FIELD_FRAME_PASS_UP: any other field frame, handed on by its destination and type (R5, R30). -/
def execFieldFramePassUp (dst typ : Byte) (h : Hdr) (payload : List Byte) (s : State) : Host.Outcome State Fault Refusal :=
  let f := fieldFrame dst typ h payload
  .next (whileWorking (arrives .field f (fieldHandOn f)) s)

/-- UNHANDLED_FRAME: a frame to the device, handed on by its port and type (R5). -/
def execUnhandledFrame (p : Port) (typ : Byte) (h : Hdr) (payload trailer : List Byte) (s : State) :
    Host.Outcome State Fault Refusal :=
  let f := trailedFrame deviceAddr typ h payload trailer
  .next (whileWorking (arrives p f (handOn p f)) s)

/-- TRUNK_FRAME_PASS_DOWN: a trunk frame, handed on by its destination (R5, R12). -/
def execTrunkFramePassDown (dst typ : Byte) (h : Hdr) (payload trailer : List Byte) (s : State) :
    Host.Outcome State Fault Refusal :=
  let f := trailedFrame dst typ h payload trailer
  .next (whileWorking (arrives .trunk f (trunkHandOn f)) s)

/-- STOP_ARRIVE to the device (R36, R126, R127 to R129). -/
def execStopArrive (h : Hdr) (payload : List Byte) (s : State) : Host.Outcome State Fault Refusal :=
  let f := fieldFrame deviceAddr typStopArrive h payload
  .next (whileWorking (arrives .field f (takeStopArrive f)) s)

/-- STOP_DEPART to the device (R36, R126, R134). -/
def execStopDepart (h : Hdr) (payload : List Byte) (s : State) : Host.Outcome State Fault Refusal :=
  let f := fieldFrame deviceAddr typStopDepart h payload
  .next (whileWorking (arrives .field f (takeStopDepart f)) s)

/-- HANDOVER_OPEN to the device (R36, R126, R130). -/
def execHandoverOpen (h : Hdr) (payload : List Byte) (s : State) : Host.Outcome State Fault Refusal :=
  let f := fieldFrame deviceAddr typHandoverOpen h payload
  .next (whileWorking (arrives .field f (takeHandoverOpen f)) s)

/-- ITEM_CONFIRM to the device (R36, R126, R131). -/
def execItemConfirm (h : Hdr) (payload : List Byte) (s : State) : Host.Outcome State Fault Refusal :=
  let f := fieldFrame deviceAddr typItemConfirm h payload
  .next (whileWorking (arrives .field f (takeItemConfirm f)) s)

/-- HANDOVER_CLOSE to the device (R36, R126, R132). -/
def execHandoverClose (h : Hdr) (payload : List Byte) (s : State) : Host.Outcome State Fault Refusal :=
  let f := fieldFrame deviceAddr typHandoverClose h payload
  .next (whileWorking (arrives .field f (takeHandoverClose f)) s)

/-- HANDOVER_ABORT to the device (R36, R126, R133). -/
def execHandoverAbort (h : Hdr) (payload : List Byte) (s : State) : Host.Outcome State Fault Refusal :=
  let f := fieldFrame deviceAddr typHandoverAbort h payload
  .next (whileWorking (arrives .field f (takeHandoverAbort f)) s)

/-- CLAIM_LODGE from a terminal, to the device (R36, R167 to R169). -/
def execTerminalClaimLodge (h : Hdr) (payload : List Byte) (s : State) : Host.Outcome State Fault Refusal :=
  let f := fieldFrame deviceAddr typClaimLodge h payload
  .next (whileWorking (arrives .field f (takeClaimLodge f)) s)

end Sys2Proof.Machine
end

