-- ==== Sys2Proof/Machine/LineEvents.lean ====
section
/-! DEFINITION. The commands of the lines: the trunk link, the arbiters, a reception that fails. -/
namespace Sys2Proof.Machine

/-- LINK_UP (R6). -/
def execLinkUp (s : State) : Host.Outcome State Fault Refusal := .next (whileWorking raiseLink s)

/-- LINK_DOWN; receiving says that a reception was in progress (R6). -/
def execLinkDown (receiving : Bool) (s : State) : Host.Outcome State Fault Refusal :=
  .next (whileWorking (dropLink receiving) s)

/-- TRANSMIT_START of a port (R17, R18). -/
def execTransmitStart (p : Port) (s : State) : Host.Outcome State Fault Refusal :=
  .next (whileWorking (startSending p) s)

/-- TRANSMIT_DONE of a port (R17). -/
def execTransmitDone (p : Port) (s : State) : Host.Outcome State Fault Refusal :=
  .next (whileWorking (finishSending p) s)

/-- RECEIVE_ERROR: a port receives bytes, which R3 tests (R3; log entry 4). -/
def execReceiveError (p : Port) (bytes : List Byte) (s : State) : Host.Outcome State Fault Refusal :=
  .next (whileWorking (receiveBytes p bytes) s)

end Sys2Proof.Machine
end

