-- ==== Sys2Proof/Machine/PowerEvents.lean ====
section
/-! DEFINITION. The commands of power and the reset line. -/
namespace Sys2Proof.Machine

/-- POWER_LOSS: main power is lost or the reset line asserted (R204). -/
def execPowerLoss (cause : StopCause) (s : State) : Host.Outcome State Fault Refusal := .next (losePower cause s)

/-- BACKUP_SUPPLY_LOSS (R204). -/
def execBackupSupplyLoss (s : State) : Host.Outcome State Fault Refusal := .next (loseBackup s)

/-- DEVICE_START: main power comes up or the reset line is released (R205). -/
def execDeviceStart (cause : StartCause) (s : State) : Host.Outcome State Fault Refusal := .next (restorePower cause s)

end Sys2Proof.Machine
end

