-- ==== Sys2Proof/Machine/CommandFrames.lean ====
section
/-! DEFINITION. The arrival of a management command's frame. -/
namespace Sys2Proof.Machine

/-- The MGMT frame of a command: to the device, with no trailer; the Agent ignores its age and its flags (R190). -/
def mgmtFrame (m : CmdHdr) (payload : List Byte) : Frame :=
  { dst := deviceAddr, src := m.src, typ := typMgmt, flags := 0, seq := m.seq, age := 0, payload := payload, trailer := [] }

/-- A MGMT frame with a payload arrives on the trunk, and its command is carried out when it is taken (R3, R14, R190). -/
def commandArrives (m : CmdHdr) (payload : List Byte) (run : State → State) : State → State :=
  whileWorking (arrives .trunk (mgmtFrame m payload) (admitCommand run))

/-- The CLAIM_LODGE frame from the trunk (R166, 13.4). -/
def lodgeFrame (m : CmdHdr) (payload : List Byte) : Frame := { mgmtFrame m payload with typ := typClaimLodge }

end Sys2Proof.Machine
end

