-- ==== Sys2Proof/Machine/ProofCommands.lean ====
section
/-! DEFINITION. PROOF_FETCH, PROOF_RELEASE and the claims lodged from the trunk. -/
namespace Sys2Proof.Machine

/-- PROOF_FETCH NEXT (R156). -/
def execProofFetchNext (m : CmdHdr) (ops : List Byte) (s : State) : Host.Outcome State Fault Refusal :=
  .next (commandArrives m (cmdProofFetch :: 0 :: ops) (runFetchNext m ops) s)

/-- PROOF_FETCH NUMBER (R157). -/
def execProofFetchNumber (m : CmdHdr) (ops : List Byte) (s : State) : Host.Outcome State Fault Refusal :=
  .next (commandArrives m (cmdProofFetch :: 1 :: ops) (runFetchNumber m ops) s)

/-- PROOF_RELEASE (R158). -/
def execProofRelease (m : CmdHdr) (ops : List Byte) (s : State) : Host.Outcome State Fault Refusal :=
  .next (commandArrives m (cmdProofRelease :: ops) (fun s => settle cmdProofRelease m (judgeRelease ops s) s) s)

/-- CLAIM_LODGE from the trunk: a CLAIM_LODGE frame, or a MGMT frame with the command (R5, R166, R190). -/
def execClaimLodge (asFrame : Bool) (m : CmdHdr) (ops : List Byte) (s : State) : Host.Outcome State Fault Refusal :=
  if asFrame then .next (whileWorking (arrives .trunk (lodgeFrame m ops) (admitCommand (runClaimLodge m ops))) s)
  else .next (commandArrives m (cmdClaimLodge :: ops) (runClaimLodge m ops) s)

end Sys2Proof.Machine
end

