-- ==== Sys2Proof/Machine/QueryCommands.lean ====
section
/-! DEFINITION. The eight subjects of QUERY. -/
namespace Sys2Proof.Machine

/-- QUERY PART (R198). -/
def execQueryPart (m : CmdHdr) (ops : List Byte) (s : State) : Host.Outcome State Fault Refusal :=
  .next (commandArrives m (cmdQuery :: 0 :: ops) (runQuery m (queryPart ops)) s)

/-- QUERY COMPARTMENT (R85, R197). -/
def execQueryCompartment (m : CmdHdr) (ops : List Byte) (s : State) : Host.Outcome State Fault Refusal :=
  .next (commandArrives m (cmdQuery :: 1 :: ops) (runQuery m (queryCompartment ops)) s)

/-- QUERY DOOR (R102). -/
def execQueryDoor (m : CmdHdr) (ops : List Byte) (s : State) : Host.Outcome State Fault Refusal :=
  .next (commandArrives m (cmdQuery :: 2 :: ops) (runQuery m (queryDoor ops)) s)

/-- QUERY STATION (R199). -/
def execQueryStation (m : CmdHdr) (ops : List Byte) (s : State) : Host.Outcome State Fault Refusal :=
  .next (commandArrives m (cmdQuery :: 3 :: ops) (runQuery m (queryStation ops)) s)

/-- QUERY DROP (R119). -/
def execQueryDrop (m : CmdHdr) (ops : List Byte) (s : State) : Host.Outcome State Fault Refusal :=
  .next (commandArrives m (cmdQuery :: 4 :: ops) (runQuery m (queryDrop ops)) s)

/-- QUERY STORE (R163). -/
def execQueryStore (m : CmdHdr) (ops : List Byte) (s : State) : Host.Outcome State Fault Refusal :=
  .next (commandArrives m (cmdQuery :: 5 :: ops) (runQuery m (queryStore ops)) s)

/-- QUERY CLAIMS (R180). -/
def execQueryClaims (m : CmdHdr) (ops : List Byte) (s : State) : Host.Outcome State Fault Refusal :=
  .next (commandArrives m (cmdQuery :: 6 :: ops) (runQuery m (queryClaims ops)) s)

/-- QUERY COUNTERS (R199). -/
def execQueryCounters (m : CmdHdr) (ops : List Byte) (s : State) : Host.Outcome State Fault Refusal :=
  .next (commandArrives m (cmdQuery :: 7 :: ops) (runQuery m (queryCounters ops)) s)

end Sys2Proof.Machine
end

