-- ==== Sys2Proof/Machine/ResetCommands.lean ====
section
/-! DEFINITION. MONITOR_RESET, FULL_CLEAR, and a payload whose code names no command. -/
namespace Sys2Proof.Machine

/-- MONITOR_RESET (R200, R201). -/
def execMonitorReset (m : CmdHdr) (ops : List Byte) (s : State) : Host.Outcome State Fault Refusal :=
  .next (commandArrives m (cmdMonitorReset :: ops) (runMonitorReset m ops) s)

/-- FULL_CLEAR (R202). -/
def execFullClear (m : CmdHdr) (ops : List Byte) (s : State) : Host.Outcome State Fault Refusal :=
  .next (commandArrives m (cmdFullClear :: ops) (runFullClear m ops) s)

/-- UNKNOWN_COMMAND_CODE: a MGMT frame whose payload is decoded (R190). -/
def execUnknownCommandCode (m : CmdHdr) (payload : List Byte) (s : State) : Host.Outcome State Fault Refusal :=
  .next (commandArrives m payload (runPayload m payload) s)

end Sys2Proof.Machine
end

