-- ==== Sys2Proof/Machine/RouteCommands.lean ====
section
/-! DEFINITION. The commands of the manifest and of the route. -/
namespace Sys2Proof.Machine

/-- MANIFEST_LOAD, single part (R111, R112). -/
def execManifestLoadSingle (m : CmdHdr) (ops : List Byte) (s : State) : Host.Outcome State Fault Refusal :=
  .next (commandArrives m (cmdManifestLoad :: 0 :: ops) (runGated cmdManifestLoad m (judgeLoadSingle ops)) s)

/-- MANIFEST_LOAD, part one (R111). -/
def execManifestLoadPartOne (m : CmdHdr) (ops : List Byte) (s : State) : Host.Outcome State Fault Refusal :=
  .next (commandArrives m (cmdManifestLoad :: 1 :: ops) (runGated cmdManifestLoad m (judgeLoadPartOne ops)) s)

/-- MANIFEST_LOAD, part two (R111, R112). -/
def execManifestLoadPartTwo (m : CmdHdr) (ops : List Byte) (s : State) : Host.Outcome State Fault Refusal :=
  .next (commandArrives m (cmdManifestLoad :: 2 :: ops) (runLoadPartTwo m ops) s)

/-- MANIFEST_DELETE (R113). -/
def execManifestDelete (m : CmdHdr) (ops : List Byte) (s : State) : Host.Outcome State Fault Refusal :=
  .next (commandArrives m (cmdManifestDelete :: ops) (runGated cmdManifestDelete m (judgeManifestDelete ops)) s)

/-- ROUTE_OPEN (R115). -/
def execRouteOpen (m : CmdHdr) (ops : List Byte) (s : State) : Host.Outcome State Fault Refusal :=
  .next (commandArrives m (cmdRouteOpen :: ops) (runGated cmdRouteOpen m (judgeRouteOpen ops)) s)

/-- ROUTE_CLOSE (R116). -/
def execRouteClose (m : CmdHdr) (ops : List Byte) (s : State) : Host.Outcome State Fault Refusal :=
  .next (commandArrives m (cmdRouteClose :: ops) (runGated cmdRouteClose m (judgeRouteClose ops)) s)

end Sys2Proof.Machine
end

