-- ==== Sys2Proof/Machine/TableCommands.lean ====
section
/-! DEFINITION. The commands that write the tables and settings, and TIME_SET. -/
namespace Sys2Proof.Machine

/-- STATION_WRITE (R23, R24, R25). -/
def execStationWrite (m : CmdHdr) (ops : List Byte) (s : State) : Host.Outcome State Fault Refusal :=
  .next (commandArrives m (cmdStationWrite :: ops) (runGated cmdStationWrite m (judgeStationWrite ops)) s)

/-- STATION_CLEAR (R25, R26). -/
def execStationClear (m : CmdHdr) (ops : List Byte) (s : State) : Host.Outcome State Fault Refusal :=
  .next (commandArrives m (cmdStationClear :: ops) (runGated cmdStationClear m (judgeStationClear ops)) s)

/-- COMPARTMENT_WRITE (R106). -/
def execCompartmentWrite (m : CmdHdr) (ops : List Byte) (s : State) : Host.Outcome State Fault Refusal :=
  .next (commandArrives m (cmdCompartmentWrite :: ops) (runGated cmdCompartmentWrite m (judgeCompartmentWrite ops)) s)

/-- CLASS_WRITE (R108). -/
def execClassWrite (m : CmdHdr) (ops : List Byte) (s : State) : Host.Outcome State Fault Refusal :=
  .next (commandArrives m (cmdClassWrite :: ops) (runGated cmdClassWrite m (judgeClassWrite ops)) s)

/-- FRAME_CLASS_WRITE (R193). -/
def execFrameClassWrite (m : CmdHdr) (ops : List Byte) (s : State) : Host.Outcome State Fault Refusal :=
  .next (commandArrives m (cmdFrameClassWrite :: ops) (runGated cmdFrameClassWrite m (judgeFrameClassWrite ops)) s)

/-- PASS_MASK_SET (R194). -/
def execPassMaskSet (m : CmdHdr) (ops : List Byte) (s : State) : Host.Outcome State Fault Refusal :=
  .next (commandArrives m (cmdPassMaskSet :: ops) (runGated cmdPassMaskSet m (judgePassMaskSet ops)) s)

/-- ALERT_LEVEL_WRITE (R195). -/
def execAlertLevelWrite (m : CmdHdr) (ops : List Byte) (s : State) : Host.Outcome State Fault Refusal :=
  .next (commandArrives m (cmdAlertLevelWrite :: ops) (runGated cmdAlertLevelWrite m (judgeAlertLevelWrite ops)) s)

/-- ALERT_MASK_SET (R195). -/
def execAlertMaskSet (m : CmdHdr) (ops : List Byte) (s : State) : Host.Outcome State Fault Refusal :=
  .next (commandArrives m (cmdAlertMaskSet :: ops) (runGated cmdAlertMaskSet m (judgeAlertMaskSet ops)) s)

/-- CONFIG_WRITE (R196). -/
def execConfigWrite (m : CmdHdr) (ops : List Byte) (s : State) : Host.Outcome State Fault Refusal :=
  .next (commandArrives m (cmdConfigWrite :: ops) (runGated cmdConfigWrite m (judgeConfigWrite ops)) s)

/-- TIME_SET (R41). -/
def execTimeSet (m : CmdHdr) (ops : List Byte) (s : State) : Host.Outcome State Fault Refusal :=
  .next (commandArrives m (cmdTimeSet :: ops) (fun s => settle cmdTimeSet m (judgeTimeSet ops s) s) s)

end Sys2Proof.Machine
end

