-- ==== Sys2Proof/Machine/TimeEvents.lean ====
section
/-! DEFINITION. The commands that part time brings: the tick, the horizon's passing, the deadlines. -/
namespace Sys2Proof.Machine

/-- Part time counts one tick and stays at its maximum; it counts on while the device is stopped, as long as the domain is held (R39, R204; log entry 7). -/
def countTick (s : State) : State :=
  let s1 := { s with clock := { s.clock with partTime := satInc max32 s.clock.partTime } }
  if s.powered then keepCheckWord s s1 else if s.checkAgrees then s1 else s

/-- TICK (R39). -/
def execTick (s : State) : Host.Outcome State Fault Refusal := .next (countTick s)

/-- HORIZON_RETIRE of window c (R52). -/
def execHorizonRetire (c : Fin 4) (s : State) : Host.Outcome State Fault Refusal :=
  .next (whileWorking (passHorizon c) s)

/-- STOP_END_ADVANCE for the context of a drop (R137). -/
def execStopEndAdvance (drop : Nat) (s : State) : Host.Outcome State Fault Refusal :=
  .next (whileWorking (advanceStopEnd drop) s)

/-- CLOSE_ADVANCE (R57, R117). -/
def execCloseAdvance (s : State) : Host.Outcome State Fault Refusal := .next (whileWorking advanceClose s)

/-- IDLE_DEADLINE_EXPIRY (R133). -/
def execIdleDeadlineExpiry (s : State) : Host.Outcome State Fault Refusal := .next (whileWorking expireIdle s)

/-- DEPARTURE_DEADLINE_EXPIRY (R135). -/
def execDepartureDeadlineExpiry (s : State) : Host.Outcome State Fault Refusal := .next (whileWorking expireDeparture s)

/-- OPENING_DEADLINE_EXPIRY of door slot (c, p) (R91). -/
def execOpeningDeadlineExpiry (c : Fin 4) (p : Fin 2) (s : State) : Host.Outcome State Fault Refusal :=
  .next (whileWorking (expireOpening c p) s)

/-- RECOVERY_END (R160). -/
def execRecoveryEnd (s : State) : Host.Outcome State Fault Refusal := .next (whileWorking recoveryDue s)

end Sys2Proof.Machine
end

