-- ==== Sys2Proof/Machine/Dispatch.lean ====
section
/-! DEFINITION. The meaning of each command, one arm for each row of the table. -/
namespace Sys2Proof.Machine

/-- The effect of a command on everything but the queue of waiting commands. -/
def exec (i : Instr) (s : State) : Host.Outcome State Fault Refusal :=
  match i with
  | .tick => Sys2Proof.Machine.execTick s
  | .horizonRetire c => Sys2Proof.Machine.execHorizonRetire c s
  | .stopEndAdvance drop => Sys2Proof.Machine.execStopEndAdvance drop s
  | .closeAdvance => Sys2Proof.Machine.execCloseAdvance s
  | .idleDeadlineExpiry => Sys2Proof.Machine.execIdleDeadlineExpiry s
  | .departureDeadlineExpiry => Sys2Proof.Machine.execDepartureDeadlineExpiry s
  | .openingDeadlineExpiry c p => Sys2Proof.Machine.execOpeningDeadlineExpiry c p s
  | .recoveryEnd => Sys2Proof.Machine.execRecoveryEnd s
  | .linkUp => Sys2Proof.Machine.execLinkUp s
  | .linkDown receiving => Sys2Proof.Machine.execLinkDown receiving s
  | .transmitStart p => Sys2Proof.Machine.execTransmitStart p s
  | .transmitDone p => Sys2Proof.Machine.execTransmitDone p s
  | .receiveError p bytes => Sys2Proof.Machine.execReceiveError p bytes s
  | .sample dst h payload => Sys2Proof.Machine.execSample dst h payload s
  | .doorState dst h payload => Sys2Proof.Machine.execDoorState dst h payload s
  | .fieldFramePassUp dst typ h payload => Sys2Proof.Machine.execFieldFramePassUp dst typ h payload s
  | .unhandledFrame p typ h payload trailer => Sys2Proof.Machine.execUnhandledFrame p typ h payload trailer s
  | .trunkFramePassDown dst typ h payload trailer => Sys2Proof.Machine.execTrunkFramePassDown dst typ h payload trailer s
  | .stopArrive h payload => Sys2Proof.Machine.execStopArrive h payload s
  | .stopDepart h payload => Sys2Proof.Machine.execStopDepart h payload s
  | .handoverOpen h payload => Sys2Proof.Machine.execHandoverOpen h payload s
  | .itemConfirm h payload => Sys2Proof.Machine.execItemConfirm h payload s
  | .handoverClose h payload => Sys2Proof.Machine.execHandoverClose h payload s
  | .handoverAbort h payload => Sys2Proof.Machine.execHandoverAbort h payload s
  | .terminalClaimLodge h payload => Sys2Proof.Machine.execTerminalClaimLodge h payload s
  | .stationWrite m ops => Sys2Proof.Machine.execStationWrite m ops s
  | .stationClear m ops => Sys2Proof.Machine.execStationClear m ops s
  | .compartmentWrite m ops => Sys2Proof.Machine.execCompartmentWrite m ops s
  | .classWrite m ops => Sys2Proof.Machine.execClassWrite m ops s
  | .frameClassWrite m ops => Sys2Proof.Machine.execFrameClassWrite m ops s
  | .passMaskSet m ops => Sys2Proof.Machine.execPassMaskSet m ops s
  | .alertLevelWrite m ops => Sys2Proof.Machine.execAlertLevelWrite m ops s
  | .alertMaskSet m ops => Sys2Proof.Machine.execAlertMaskSet m ops s
  | .configWrite m ops => Sys2Proof.Machine.execConfigWrite m ops s
  | .timeSet m ops => Sys2Proof.Machine.execTimeSet m ops s
  | .manifestLoadSingle m ops => Sys2Proof.Machine.execManifestLoadSingle m ops s
  | .manifestLoadPartOne m ops => Sys2Proof.Machine.execManifestLoadPartOne m ops s
  | .manifestLoadPartTwo m ops => Sys2Proof.Machine.execManifestLoadPartTwo m ops s
  | .manifestDelete m ops => Sys2Proof.Machine.execManifestDelete m ops s
  | .routeOpen m ops => Sys2Proof.Machine.execRouteOpen m ops s
  | .routeClose m ops => Sys2Proof.Machine.execRouteClose m ops s
  | .queryPart m ops => Sys2Proof.Machine.execQueryPart m ops s
  | .queryCompartment m ops => Sys2Proof.Machine.execQueryCompartment m ops s
  | .queryDoor m ops => Sys2Proof.Machine.execQueryDoor m ops s
  | .queryStation m ops => Sys2Proof.Machine.execQueryStation m ops s
  | .queryDrop m ops => Sys2Proof.Machine.execQueryDrop m ops s
  | .queryStore m ops => Sys2Proof.Machine.execQueryStore m ops s
  | .queryClaims m ops => Sys2Proof.Machine.execQueryClaims m ops s
  | .queryCounters m ops => Sys2Proof.Machine.execQueryCounters m ops s
  | .proofFetchNext m ops => Sys2Proof.Machine.execProofFetchNext m ops s
  | .proofFetchNumber m ops => Sys2Proof.Machine.execProofFetchNumber m ops s
  | .proofRelease m ops => Sys2Proof.Machine.execProofRelease m ops s
  | .claimLodge asFrame m ops => Sys2Proof.Machine.execClaimLodge asFrame m ops s
  | .monitorReset m ops => Sys2Proof.Machine.execMonitorReset m ops s
  | .fullClear m ops => Sys2Proof.Machine.execFullClear m ops s
  | .powerLoss cause => Sys2Proof.Machine.execPowerLoss cause s
  | .backupSupplyLoss => Sys2Proof.Machine.execBackupSupplyLoss s
  | .deviceStart cause => Sys2Proof.Machine.execDeviceStart cause s
  | .unknownCommandCode m payload => Sys2Proof.Machine.execUnknownCommandCode m payload s

end Sys2Proof.Machine
end

