-- ==== Sys2Proof/WellFormed.lean ====
section
/-! DEFINITION. The commands as their rows describe them: error-free frames of the row's type and destination, with lengths that a frame can have (R1, R3 to R5). exec takes any operands; these are the ones the row is about. -/
namespace Sys2Proof

/-- A source of an error-free frame (R3, test 4). -/
def sourceOk (a : Byte) : Bool := 1 ≤ a.toNat && a.toNat ≤ 0xFD

/-- An error-free field frame without a trailer: ANNOTATED is clear and the payload fits (R1, R3). -/
def fieldOk (h : Hdr) (payload : List Byte) : Bool :=
  sourceOk h.src && !h.flags.getLsbD 0 && payload.length ≤ 240

/-- A trailer stands exactly when ANNOTATED is set (R1). -/
def trailerOk (flags : Byte) (trailer : List Byte) : Bool :=
  trailer.length = if flags.getLsbD 0 then 8 else 0

/-- An error-free trunk frame (R1, R3). -/
def trunkOk (h : Hdr) (payload trailer : List Byte) : Bool :=
  sourceOk h.src && payload.length ≤ 240 && trailerOk h.flags trailer

/-- The types that the device acts on when a field station sends them to it (R5). -/
def fieldTypes : List Byte := [0x10, 0x18, 0x30, 0x31, 0x32, 0x33, 0x34, 0x35, 0x36]

/-- The types that the device acts on when they come to it from the trunk (R5). -/
def trunkTypes : List Byte := [0x40, 0x36]

/-- A management command whose payload has n bytes before its operands (R1, R190). -/
def commandOk (m : CmdHdr) (n : Nat) (ops : List Byte) : Bool := sourceOk m.src && n + ops.length ≤ 240

/-- A payload that names no command: empty, or with a code outside 0x01..0x14 (R190, 13.5). -/
def unknownCode (payload : List Byte) : Bool :=
  match payload with
  | [] => true
  | code :: _ => code == 0 || 0x14 < code.toNat

/-- The command is one its row describes. -/
def Instr.wellFormed : Instr → Bool
  | .tick => true
  | .horizonRetire _ => true
  | .stopEndAdvance drop => 1 ≤ drop && drop ≤ 64
  | .closeAdvance => true
  | .idleDeadlineExpiry => true
  | .departureDeadlineExpiry => true
  | .openingDeadlineExpiry _ _ => true
  | .recoveryEnd => true
  | .linkUp => true
  | .linkDown _ => true
  | .transmitStart _ => true
  | .transmitDone _ => true
  | .receiveError _ _ => true
  | .sample dst h payload => dst != 0 && fieldOk h payload
  | .doorState dst h payload => dst != 0 && fieldOk h payload
  | .fieldFramePassUp dst typ h payload =>
    dst != 0 && dst != 0xFE && !(dst == 0xFF && (typ == 0x10 || typ == 0x18)) && fieldOk h payload
  | .unhandledFrame .field typ h payload trailer => !fieldTypes.contains typ && fieldOk h payload && trailer.isEmpty
  | .unhandledFrame .trunk typ h payload trailer => !trunkTypes.contains typ && trunkOk h payload trailer
  | .trunkFramePassDown dst _ h payload trailer => dst != 0 && dst != 0xFE && trunkOk h payload trailer
  | .stopArrive h payload => fieldOk h payload
  | .stopDepart h payload => fieldOk h payload
  | .handoverOpen h payload => fieldOk h payload
  | .itemConfirm h payload => fieldOk h payload
  | .handoverClose h payload => fieldOk h payload
  | .handoverAbort h payload => fieldOk h payload
  | .terminalClaimLodge h payload => fieldOk h payload
  | .stationWrite m ops => commandOk m 1 ops
  | .stationClear m ops => commandOk m 1 ops
  | .compartmentWrite m ops => commandOk m 1 ops
  | .classWrite m ops => commandOk m 1 ops
  | .frameClassWrite m ops => commandOk m 1 ops
  | .passMaskSet m ops => commandOk m 1 ops
  | .alertLevelWrite m ops => commandOk m 1 ops
  | .alertMaskSet m ops => commandOk m 1 ops
  | .configWrite m ops => commandOk m 1 ops
  | .timeSet m ops => commandOk m 1 ops
  | .manifestLoadSingle m ops => commandOk m 2 ops
  | .manifestLoadPartOne m ops => commandOk m 2 ops
  | .manifestLoadPartTwo m ops => commandOk m 2 ops
  | .manifestDelete m ops => commandOk m 1 ops
  | .routeOpen m ops => commandOk m 1 ops
  | .routeClose m ops => commandOk m 1 ops
  | .queryPart m ops => commandOk m 2 ops
  | .queryCompartment m ops => commandOk m 2 ops
  | .queryDoor m ops => commandOk m 2 ops
  | .queryStation m ops => commandOk m 2 ops
  | .queryDrop m ops => commandOk m 2 ops
  | .queryStore m ops => commandOk m 2 ops
  | .queryClaims m ops => commandOk m 2 ops
  | .queryCounters m ops => commandOk m 2 ops
  | .proofFetchNext m ops => commandOk m 2 ops
  | .proofFetchNumber m ops => commandOk m 2 ops
  | .proofRelease m ops => commandOk m 1 ops
  | .claimLodge asFrame m ops => commandOk m (if asFrame then 0 else 1) ops
  | .monitorReset m ops => commandOk m 1 ops
  | .fullClear m ops => commandOk m 1 ops
  | .powerLoss _ => true
  | .backupSupplyLoss => true
  | .deviceStart _ => true
  | .unknownCommandCode m payload => commandOk m 0 payload && unknownCode payload

/-- How many bytes the frame of a command takes on the line: 0 for an event that is no frame's arrival, and for a RECEIVE_ERROR, whose bytes are given (R1). -/
def Instr.frameBytes : Instr → Nat
  | .sample _ _ payload => 10 + payload.length
  | .doorState _ _ payload => 10 + payload.length
  | .fieldFramePassUp _ _ _ payload => 10 + payload.length
  | .unhandledFrame _ _ _ payload trailer => 10 + payload.length + trailer.length
  | .trunkFramePassDown _ _ _ payload trailer => 10 + payload.length + trailer.length
  | .stopArrive _ payload => 10 + payload.length
  | .stopDepart _ payload => 10 + payload.length
  | .handoverOpen _ payload => 10 + payload.length
  | .itemConfirm _ payload => 10 + payload.length
  | .handoverClose _ payload => 10 + payload.length
  | .handoverAbort _ payload => 10 + payload.length
  | .terminalClaimLodge _ payload => 10 + payload.length
  | .stationWrite _ ops => 11 + ops.length
  | .stationClear _ ops => 11 + ops.length
  | .compartmentWrite _ ops => 11 + ops.length
  | .classWrite _ ops => 11 + ops.length
  | .frameClassWrite _ ops => 11 + ops.length
  | .passMaskSet _ ops => 11 + ops.length
  | .alertLevelWrite _ ops => 11 + ops.length
  | .alertMaskSet _ ops => 11 + ops.length
  | .configWrite _ ops => 11 + ops.length
  | .timeSet _ ops => 11 + ops.length
  | .manifestLoadSingle _ ops => 12 + ops.length
  | .manifestLoadPartOne _ ops => 12 + ops.length
  | .manifestLoadPartTwo _ ops => 12 + ops.length
  | .manifestDelete _ ops => 11 + ops.length
  | .routeOpen _ ops => 11 + ops.length
  | .routeClose _ ops => 11 + ops.length
  | .queryPart _ ops => 12 + ops.length
  | .queryCompartment _ ops => 12 + ops.length
  | .queryDoor _ ops => 12 + ops.length
  | .queryStation _ ops => 12 + ops.length
  | .queryDrop _ ops => 12 + ops.length
  | .queryStore _ ops => 12 + ops.length
  | .queryClaims _ ops => 12 + ops.length
  | .queryCounters _ ops => 12 + ops.length
  | .proofFetchNext _ ops => 12 + ops.length
  | .proofFetchNumber _ ops => 12 + ops.length
  | .proofRelease _ ops => 11 + ops.length
  | .claimLodge asFrame _ ops => (if asFrame then 10 else 11) + ops.length
  | .monitorReset _ ops => 11 + ops.length
  | .fullClear _ ops => 11 + ops.length
  | .unknownCommandCode _ payload => 10 + payload.length
  | .tick => 0
  | .horizonRetire _ => 0
  | .stopEndAdvance _ => 0
  | .closeAdvance => 0
  | .idleDeadlineExpiry => 0
  | .departureDeadlineExpiry => 0
  | .openingDeadlineExpiry _ _ => 0
  | .recoveryEnd => 0
  | .linkUp => 0
  | .linkDown _ => 0
  | .transmitStart _ => 0
  | .transmitDone _ => 0
  | .receiveError _ _ => 0
  | .powerLoss _ => 0
  | .backupSupplyLoss => 0
  | .deviceStart _ => 0

end Sys2Proof
end

