-- ==== Sys2Proof/Safety.lean ====
section
/-! DEFINITION. What the statements about the device speak of: a command taken and its answer, a terminal request taken, and the conditions that every event keeps. -/
namespace Sys2Proof.Machine

/-! ### Management commands -/

/-- The Agent takes a command of m: the device is working, the frame's source is valid, and a place of the trunk reply queue is free (R3, R14). -/
abbrev State.takes (s : State) (m : CmdHdr) : Prop :=
  s.working = true ∧ sourceOk m.src = true ∧ s.ports.trunk.replies.length + s.ports.reserved < Config.replyPlaces

/-- The Agent takes a command of m, outside LOCKOUT. -/
abbrev State.serves (s : State) (m : CmdHdr) : Prop := s.takes m ∧ s.store.lockout = false

/-- s after the arrival of a command of m and its answer: a frame received and a command taken are counted, and the answer joins the trunk reply queue. -/
def State.replied (s : State) (m : CmdHdr) (typ : Byte) (payload : List Byte) (count : AgentCounts → AgentCounts) : State :=
  { s with
    ports := { s.ports with trunk := { s.ports.trunk with
      replies := s.ports.trunk.replies ++ [originate m.src typ payload]
      counts := { s.ports.trunk.counts with received := satInc max32 s.ports.trunk.counts.received } } }
    agent := count { s.agent with taken := satInc max32 s.agent.taken } }

/-- s while a command is being taken: its frame and the command are counted, and a reply place is reserved (R14, R190). -/
def State.admitted (s : State) : State :=
  { s with
    ports := { s.ports with
      reserved := s.ports.reserved + 1
      trunk := { s.ports.trunk with
        counts := { s.ports.trunk.counts with received := satInc max32 s.ports.trunk.counts.received } } }
    agent := { s.agent with taken := satInc max32 s.agent.taken } }

/-- The Agent's counts with one more command answered DONE (R203). -/
def countDone (n : AgentCounts) : AgentCounts := { n with done := satInc max32 n.done }

/-- The Agent's counts with one more command refused for a reason (R203). -/
def countRefused (r : MgmtReason) (n : AgentCounts) : AgentCounts :=
  { n with
    refused := satInc max32 n.refused
    malformed := if r = .malformed then satInc max32 n.malformed else n.malformed
    lockout := if r = .lockout then satInc max32 n.lockout else n.lockout }

/-- s after a command of m is answered DONE with marks and data (R191). -/
def State.doneBy (s : State) (code : Byte) (m : CmdHdr) (marks : Byte) (data : List Byte) : State :=
  s.replied m typMgmtReply ([code, m.seq, 0, marks] ++ data) countDone

/-- s after a command of m is answered REFUSED for a reason (R191). -/
def State.refusedBy (s : State) (code : Byte) (m : CmdHdr) (r : MgmtReason) : State :=
  s.replied m typMgmtReply [code, m.seq, 2, mgmtReasonCode r] (countRefused r)

/-- The Agent's counts with one more command answered BUSY (R203). -/
def countBusy (n : AgentCounts) : AgentCounts := { n with busy := satInc max32 n.busy }

/-- Slot i is the FREE slot of the lowest index (R148). -/
abbrev State.firstFree (s : State) (i : Fin 256) : Prop :=
  (s.slot i).isFree = true ∧ ∀ j, j < i → (s.slot j).isFree = false

/-- s after a PROOF_FETCH of m is answered by a PROOF_RECORD (R156, R190). -/
def State.recordBy (s : State) (m : CmdHdr) (payload : List Byte) : State :=
  State.replied { s with store := { s.store with counts := { s.store.counts with fetched := satInc max32 s.store.counts.fetched } } }
    m typProofRecord payload countDone

/-- The commands that act behind the gate of LOCKOUT before any check of their own, with their codes (R192, 13.5). -/
def gatedCommands (m : CmdHdr) (ops : List Byte) : List (Instr × Byte) :=
  [(.stationWrite m ops, cmdStationWrite), (.stationClear m ops, cmdStationClear),
   (.compartmentWrite m ops, cmdCompartmentWrite), (.classWrite m ops, cmdClassWrite),
   (.frameClassWrite m ops, cmdFrameClassWrite), (.passMaskSet m ops, cmdPassMaskSet),
   (.alertLevelWrite m ops, cmdAlertLevelWrite), (.alertMaskSet m ops, cmdAlertMaskSet),
   (.configWrite m ops, cmdConfigWrite), (.manifestLoadSingle m ops, cmdManifestLoad),
   (.manifestLoadPartOne m ops, cmdManifestLoad), (.manifestLoadPartTwo m ops, cmdManifestLoad),
   (.manifestDelete m ops, cmdManifestDelete), (.routeOpen m ops, cmdRouteOpen), (.routeClose m ops, cmdRouteClose),
   (.monitorReset m ops, cmdMonitorReset)]

/-- Every command of 11.2 with its operand bytes (R190). -/
def commands (m : CmdHdr) (ops : List Byte) : List Instr :=
  (gatedCommands m ops).map (·.1)
    ++ [.timeSet m ops, .queryPart m ops, .queryCompartment m ops, .queryDoor m ops, .queryStation m ops, .queryDrop m ops,
        .queryStore m ops, .queryClaims m ops, .queryCounters m ops, .proofFetchNext m ops, .proofFetchNumber m ops,
        .proofRelease m ops, .claimLodge false m ops, .claimLodge true m ops, .fullClear m ops]

/-- The first of checks 2 to 7 of R111 that the load l fails refuses it with r. -/
def State.refusesLoad (s : State) (l : StagedPart) (r : MgmtReason) : Prop :=
  if s.route.state = .closing ∨ s.loadable l.number = false then r = .state
  else if l.items = [] then r = .emptyDrop
  else if loadInRange l = false then r = .outOfRange
  else if s.loadAgrees l = false then r = .conflict
  else if 512 - s.itemsHeld + s.replacedItems l.number < l.items.length then r = .noRoom
  else s.findDrop l.number = none ∧ (∀ j, (s.slot j).isFree = false) ∧ r = .noSlot

/-- The queries, with what each answers from (R197). -/
def queries (m : CmdHdr) (ops : List Byte) : List (Instr × (State → QueryResult)) :=
  [(.queryPart m ops, queryPart ops), (.queryCompartment m ops, queryCompartment ops), (.queryDoor m ops, queryDoor ops),
   (.queryStation m ops, queryStation ops), (.queryDrop m ops, queryDrop ops), (.queryStore m ops, queryStore ops),
   (.queryClaims m ops, queryClaims ops), (.queryCounters m ops, queryCounters ops)]

/-! ### Field frames -/

/-- An error-free field frame from the known station e, that is no repeat, arrives at a working device that is not transmitting on the field line (R3, R7, R28). -/
abbrev State.hears (s : State) (h : Hdr) (e : Station) : Prop :=
  s.working = true ∧ s.ports.field.sending = none ∧ sourceOk h.src = true ∧ h.flags.getLsbD 0 = false ∧ s.findStation h.src = some e
    ∧ (e.seqSeen && e.lastSeq == h.seq) = false

/-- s with the frame of header h counted by the field port and taken by the Station Table (R3, R28). -/
def State.heard (s : State) (h : Hdr) : State := (countReceived .field s).updStation h.src (takeSequence h.seq)

/-- A terminal request of header h reaches the Stop Controller, outside LOCKOUT and on a route, about the drop d of number n (R36, R126). -/
abbrev State.asks (s : State) (h : Hdr) (n : Byte) (d : Drop) : Prop :=
  (∃ e, s.hears h e ∧ e.binding = .terminal) ∧ s.store.lockout = false ∧ s.route.state ≠ .noRoute
    ∧ 1 ≤ n.toNat ∧ n.toNat ≤ 64 ∧ s.findDrop n.toNat = some d

/-- s with an accepted request of header h about drop n heard, counted, and answered ACCEPTED with the drop's state as it then stands (R125, R145); act is what the request does. -/
def State.accepts (s : State) (h : Hdr) (typ n index : Byte) (act : State → State) : State :=
  sendTermReply h.src typ n.toNat index .accepted
    (act { s.heard h with stopCounts := { s.stopCounts with
      requests := satInc max32 s.stopCounts.requests
      accepted := satInc max32 s.stopCounts.accepted } })

/-- s with a request of header h about drop n heard, counted, and refused for a reason, with nothing else done (R125, R145). -/
def State.refuses (s : State) (h : Hdr) (typ n index : Byte) (w : TermReason) : State :=
  sendTermReply h.src typ n.toNat index (.refused w)
    { s.heard h with stopCounts := { s.stopCounts with
      requests := satInc max32 s.stopCounts.requests
      refused := satInc max32 s.stopCounts.refused } }

/-- The header, type, drop byte and item index byte of a terminal request whose payload is of the length its type requires (R36, 13.4); a CLAIM_LODGE is not among them. -/
def stopRequest? : Instr → Option (Hdr × Byte × Byte × Byte)
  | .stopArrive h [n] => some (h, typStopArrive, n, 0)
  | .stopDepart h [n] => some (h, typStopDepart, n, 0)
  | .handoverOpen h [n] => some (h, typHandoverOpen, n, 0)
  | .itemConfirm h [n, i, _, _, _, _, _, _, _] => some (h, typItemConfirm, n, i)
  | .handoverClose h [n, _, _, _, _, _, _, _, _] => some (h, typHandoverClose, n, 0)
  | .handoverAbort h [n] => some (h, typHandoverAbort, n, 0)
  | _ => none

/-- A frame of the field line to the device or past it: its header, destination, type and payload. The rows of a reading, a door report, a request and a frame passed up. -/
def fieldRow? : Instr → Option (Hdr × Byte × Byte × List Byte)
  | .sample dst h payload => some (h, dst, typSample, payload)
  | .doorState dst h payload => some (h, dst, typDoorState, payload)
  | .fieldFramePassUp dst typ h payload => some (h, dst, typ, payload)
  | .stopArrive h payload => some (h, deviceAddr, typStopArrive, payload)
  | .stopDepart h payload => some (h, deviceAddr, typStopDepart, payload)
  | .handoverOpen h payload => some (h, deviceAddr, typHandoverOpen, payload)
  | .itemConfirm h payload => some (h, deviceAddr, typItemConfirm, payload)
  | .handoverClose h payload => some (h, deviceAddr, typHandoverClose, payload)
  | .handoverAbort h payload => some (h, deviceAddr, typHandoverAbort, payload)
  | .terminalClaimLodge h payload => some (h, deviceAddr, typClaimLodge, payload)
  | .unhandledFrame .field typ h payload [] => some (h, deviceAddr, typ, payload)
  | _ => none

/-- s with the drop of number n changed, and its context. -/
def State.withStop (s : State) (n : Nat) (drop : Drop → Drop) (context : Context → Context) : State :=
  { s with
    drops := s.drops.map fun d => if d.number = n then drop d else d
    contexts := s.contexts.map fun x => if x.drop = n then context x else x }

/-- A context whose stop ends at T: an outcome not fixed before becomes ABANDONED (R136). -/
def endedAt (T : Nat) (x : Context) : Context :=
  { x with endTime := some T, outcome := some (x.outcome.getD .abandoned), idleDeadline := none, departDeadline := none }

/-- The stop of drop n, with context x, can close now without resolving a compartment: no account of its mask stands at part time (R75, R136). -/
abbrev State.closesPlainly (s : State) (n : Nat) (x : Context) : Prop :=
  s.findContext n = some x ∧ x.drop = n ∧ ∀ k ∈ x.comps, (s.comp k.comp).window.committed ≠ s.now

/-! ### Claims -/

/-- A lodging o from station src at port p, by the command i, that meets none of the first checks of R166 or R167; reply is the frame that accepts it (R167, R168). -/
def State.lodges (s : State) (p : Port) (src : Byte) (o : LodgeOps) (i : Instr) (reply : QFrame) : Prop :=
  ∃ payload, parseLodge payload = some o ∧ s.store.lockout = false ∧ selectorInRange o.selector = true ∧
    ((p = .field ∧ s.route.state ≠ .noRoute ∧ ∃ h e, i = .terminalClaimLodge h payload ∧ src = h.src ∧ s.hears h e
        ∧ e.binding = .terminal
        ∧ reply = originate h.src typTerminalReply
            (termReplyPayload typClaimLodge (claimDropByte (some o.reference)) 0 .accepted (s.claimDropState (some o.reference))))
      ∨ (p = .trunk ∧ ∃ m asFrame, i = .claimLodge asFrame m payload ∧ src = m.src ∧ s.takes m
        ∧ reply = originate m.src typMgmtReply
            ([cmdClaimLodge, m.seq, 0, 0] ++ beBytes 2 o.tag ++ beBytes 1 s.claims.queue.length)))

/-- The reference of a lodging is at hand, with record number r: a RECORD reference, or a drop in a final state (R168, step 2). -/
def State.atHand (s : State) (x : ClaimRef) (r : Nat) : Prop :=
  1 ≤ r ∧ (x = .record r ∨ ∃ n d o, x = .drop n ∧ 1 ≤ n ∧ n ≤ 64 ∧ s.findDrop n = some d ∧ d.state = .final o ∧ d.record = some r)

/-- A claim with selector sel about record number r is judged j, when the array's reads are those of reads; rest are the reads after it. A record that is not there, that is CORRUPT or that is no DROP_OUTCOME record makes it UNKNOWN_RECORD (R171, R172). -/
def State.judgedAs (s : State) (sel : Selector) (r : Nat) (j : Judgement) (reads rest : List Bool) : Prop :=
  (∃ i h b, s.findRecord r = some i ∧ (s.slot i = .filled h (.dropOutcome b) ∨ s.slot i = .taken h (.dropOutcome b))
      ∧ j = { drop := b.number, entries := judgeItems s.classes sel b } ∧ reads = false :: rest)
    ∨ (j = { drop := 0, entries := [{ index := sel, verdict := .unknownRecord }] }
      ∧ ((s.findRecord r = none ∧ reads = rest)
        ∨ (∃ i h f, s.findRecord r = some i ∧ s.slot i = .corrupt h f ∧ reads = rest)
        ∨ (∃ i h body, s.findRecord r = some i ∧ (s.slot i = .filled h body ∨ s.slot i = .taken h body)
            ∧ (∀ b, body ≠ .dropOutcome b) ∧ reads = false :: rest)))

/-- The frames of a released claim's answer: one for up to 16 entries, else two (R176). -/
def claimAnswers (k : Claim) (j : Judgement) (verdictRecord : Nat) : List QFrame :=
  if j.entries.length ≤ 16 then [originate k.station typClaimAnswer (claimAnswerPayload k 0 verdictRecord 1 1 j.entries)]
  else [originate k.station typClaimAnswer (claimAnswerPayload k 0 verdictRecord 1 2 (j.entries.take 16)),
        originate k.station typClaimAnswer (claimAnswerPayload k 0 verdictRecord 2 2 (j.entries.drop 16))]

/-- s with a lodging from a terminal, of header h, heard and refused for a reason: counted by the Claim Unit and answered about the reference the payload names (R167). -/
def State.refusesLodging (s : State) (h : Hdr) (payload : List Byte) (w : TermReason) : State :=
  offerReply .field
    (originate h.src typTerminalReply
      (termReplyPayload typClaimLodge (claimDropByte (lodgeRef payload)) 0 (.refused w) (s.claimDropState (lodgeRef payload))))
    { s.heard h with claims := { s.claims with counts := { s.claims.counts with
        refused := satInc max32 s.claims.counts.refused
        malformed := if s.store.lockout = false ∧ parseLodge payload = none then satInc max32 s.claims.counts.malformed
                     else s.claims.counts.malformed } } }

/-! ### Conditions that every event keeps -/

/-- Between events no place of the trunk reply queue is reserved, and no queue holds more than its places (R13, R14, R16). -/
def State.QueuesBounded (s : State) : Prop :=
  s.ports.reserved = 0
    ∧ s.ports.field.replies.length ≤ Config.replyPlaces ∧ s.ports.trunk.replies.length ≤ Config.replyPlaces
    ∧ s.ports.alertQueue.length ≤ Config.alertPlaces
    ∧ s.ports.field.forward.length ≤ Config.fifoPlaces ∧ s.ports.trunk.forward.length ≤ Config.fifoPlaces

/-- The slots that drops, the route and claims hold reservations on (R148). -/
def State.reservations (s : State) : List (Fin 256) :=
  s.drops.filterMap (·.reservation) ++ s.route.reservation.toList ++ s.claims.queue.map (·.reservation)

/-- The fill list holds, once each, the slots that hold a header; each reservation is its owner's alone, and its slot is RESERVED; the next record number is 1 to 65535 (R146 to R148). -/
def State.StoreSound (s : State) : Prop :=
  s.store.fillList.Nodup
    ∧ (∀ i : Fin 256, (s.slot i).header?.isSome = true ↔ i ∈ s.store.fillList)
    ∧ s.reservations.Nodup
    ∧ (∀ i ∈ s.reservations, s.slot i = .reserved)
    ∧ 1 ≤ s.store.nextNumber ∧ s.store.nextNumber ≤ 65535

/-- Pending events stand in rising order of sample time, none before the committed time, and a window holds at most 16 (R43, R44, R51). -/
def windowOrdered (w : Window) : Prop :=
  w.events.Pairwise (fun a b => a.time ≤ b.time) ∧ (∀ e ∈ w.events, w.committed ≤ e.time)
    ∧ w.events.length ≤ Config.windowPlaces

/-- Every window is ordered. -/
def State.WindowsOrdered (s : State) : Prop := ∀ c, windowOrdered (s.comp c).window

/-- The configuration values lie in their ranges (R42, R124, R184, R196). -/
def settingsInRange (k : Settings) : Prop :=
  16 ≤ k.settleDelay ∧ k.settleDelay ≤ 480 ∧ k.arrivalLead ≤ k.settleDelay
    ∧ 120 ≤ k.idleTimeout ∧ k.idleTimeout ≤ 2400 ∧ 120 ≤ k.departTimeout ∧ k.departTimeout ≤ 2400
    ∧ k.alertHoldoff ≤ 1200

/-- The accumulators and counts of an account fit their widths (R64, R74). -/
def accountInRange (a : Account) : Prop :=
  a.e ≤ max32 ∧ a.p ≤ max32 ∧ a.h ≤ max32 ∧ a.gap ≤ max32 ∧ a.severeCount ≤ max8 ∧ a.late ≤ max16 ∧ a.lateWarm ≤ max16

/-- Part time, the configuration, the tables, the alert settings and the accounts lie in their ranges (R39, R63, R64, R107, R124, R182). -/
def State.ValuesInRange (s : State) : Prop :=
  s.clock.partTime ≤ max32 ∧ settingsInRange s.config
    ∧ (∀ c, profileValid (s.comp c).profile = true ∧ accountInRange (s.comp c).account)
    ∧ (∀ (i : Fin 16) (k : ProductClass), s.classes[i] = some k → classValid k (yesNo k.shockSensitive) = true)
    ∧ s.alerts.mask ≤ 7 ∧ (∀ i : Fin 21, s.alerts.table[i].level ≤ 7 ∧ s.alerts.table[i].raises ≤ max16 ∧ s.alerts.table[i].pending ≤ max16)

/-- Two entries do not claim the same place: equal places of one kind are bound by one entry (R23). -/
def placesApart (a b : Station) : Prop := bindsPlace a.binding = true → sameBinding a.binding b.binding = false

/-- At most 48 entries, with rising addresses of stations, and no place bound twice (R21, R23). -/
def State.StationsSound (s : State) : Prop :=
  s.stations.entries.length ≤ Config.stationPlaces
    ∧ s.stations.entries.Pairwise (fun a b => a.addr.toNat < b.addr.toNat)
    ∧ (∀ e ∈ s.stations.entries, stationAddr e.addr = true)
    ∧ s.stations.entries.Pairwise placesApart

/-- The thermal state an account holds is one its Tg allows (R76 to R78). -/
def gradeAgrees (q : Profile) (a : Account) : Prop :=
  match a.tg, a.thermal with
  | none, none => True
  | some t, some .inLimit => t ≤ q.limit
  | some t, some .excursion => q.limit - q.hysteresis < t ∧ t ≤ q.severe
  | some t, some .severe => q.severe - q.hysteresis < t
  | _, _ => False

/-- On a route, every thermal state agrees with its Tg. -/
def State.GradesAgree (s : State) : Prop := s.onRoute = true → ∀ c, gradeAgrees (s.comp c).profile (s.comp c).account

/-- In LOCKOUT no recovery is under way and no claim is held (R161, R178). -/
def State.LockoutSettled (s : State) : Prop :=
  s.store.lockout = true → s.store.recovery = none ∧ s.claims.queue = []

/-- Drops have rising numbers 1 to 64 and at most 512 items together; at most 4 stops have a context, and at most 8 claims are held (R109, R110, R122, R165). -/
def State.ManifestSound (s : State) : Prop :=
  s.drops.Pairwise (fun a b => a.number < b.number)
    ∧ (∀ d ∈ s.drops, 1 ≤ d.number ∧ d.number ≤ 64)
    ∧ s.itemsHeld ≤ Config.poolPlaces ∧ s.contexts.length ≤ Config.contextPlaces
    ∧ s.claims.queue.length ≤ Config.claimPlaces

/-- The device is on a route, outside LOCKOUT, with an intact domain: no command ends in a cold start (R202, R205). -/
abbrev State.underWay (s : State) : Prop :=
  s.onRoute = true ∧ s.store.lockout = false ∧ s.checkAgrees = true

end Sys2Proof.Machine
end

