-- ==== Sys2Proof/Certificates/Slice0/Obligations.lean ====
section
/-! DEFINITION. The statements about the device, for the provers. -/

section Statements

open Sys2Proof Sys2Proof.Machine

/-! ### The machine and its queue -/

/-- A step takes the command at the front of the queue and carries it out with the rest of the queue; on an empty queue the device idles. Both are the model's choice (log entry 1). -/
def Obligations.StepTakesFrontCommand : Prop :=
  ∀ s : State,
    (s.pending = [] → step s = .next s)
      ∧ ∀ (c : Instr) (rest : List Instr), s.pending = c :: rest → step s = exec c { s with pending := rest }

/-- The values of a cold start (R208 and the cold-start columns of the chapters), and the conditions that every event keeps. -/
def Obligations.ColdStartValues : Prop :=
  State.reset.now = 0 ∧ State.reset.clock.timeSet = false
    ∧ State.reset.config = { settleDelay := 60, arrivalLead := 20, idleTimeout := 480, departTimeout := 480, alertHoldoff := 40 }
    ∧ State.reset.route.state = .noRoute ∧ State.reset.drops = [] ∧ State.reset.contexts = [] ∧ State.reset.claims.queue = []
    ∧ State.reset.stations.entries = [] ∧ State.reset.ports.linkUp = false
    ∧ State.reset.store.fillList = [] ∧ State.reset.store.nextNumber = 1 ∧ State.reset.store.chain = 0x6D2B79F5#32
    ∧ State.reset.store.lockout = false ∧ State.reset.store.faultInProgress = false
    ∧ (∀ i, State.reset.slot i = .free)
    ∧ (∀ i : Fin 256, State.reset.pass.classTable[i] = 0x01#8)
    ∧ State.reset.pass.upRoute = 0x01#8 ∧ State.reset.pass.upIdle = 0x01#8
    ∧ State.reset.pass.downRoute = 0x01#8 ∧ State.reset.pass.downIdle = 0x01#8
    ∧ (∀ c, (State.reset.comp c).profile
        = { enabled := false, limit := -288, severe := -192, hysteresis := 16, weight := 4, freshness := 240, openLimit := 240, budget := 0 })
    ∧ (∀ c, (State.reset.comp c).window.armed = false ∧ (State.reset.comp c).window.events = []
        ∧ (State.reset.comp c).account.e = 0 ∧ (State.reset.comp c).account.h = 0 ∧ (State.reset.comp c).account.thermal = none
        ∧ ∀ p : Fin 2, (State.reset.comp c).doors[p].settled = .closed)
    ∧ (∀ i : Fin 21, State.reset.alerts.table[i].level = 3) ∧ State.reset.alerts.mask = 0
    ∧ State.reset.QueuesBounded ∧ State.reset.StoreSound ∧ State.reset.WindowsOrdered ∧ State.reset.ValuesInRange
    ∧ State.reset.StationsSound ∧ State.reset.GradesAgree ∧ State.reset.LockoutSettled ∧ State.reset.ManifestSound

/-- Every command is carried out, and leaves the queue of waiting commands as it is. -/
def Obligations.CommandsKeepQueue : Prop :=
  ∀ (c : Instr) (s : State), ∃ t, exec c s = .next t ∧ t.pending = s.pending

/-- A device that main power or the reset line has stopped changes by no command but a tick, a loss of a supply or a start (R205; log entry 3 says what the model makes of the other commands). -/
def Obligations.StoppedDeviceIsStill : Prop :=
  ∀ (c : Instr) (s : State), s.powered = false → c ≠ .tick → (∀ x, c ≠ .powerLoss x) → c ≠ .backupSupplyLoss →
    (∀ x, c ≠ .deviceStart x) → exec c s = .next s

/-! ### Conditions that every event keeps -/

/-- No event leaves a reply place reserved or a queue with more than its places (R13, R14, R16). -/
def Obligations.QueuesStayBounded : Prop :=
  ∀ s t : State, s.QueuesBounded → step s = .next t → t.QueuesBounded

/-- The fill list, the slots and the reservations stay in agreement (R146 to R148). -/
def Obligations.StoreStaysSound : Prop :=
  ∀ s t : State, s.StoreSound → step s = .next t → t.StoreSound

/-- Every window keeps its events in order, none before the committed time, and at most 16 (R43, R44, R51). -/
def Obligations.WindowsStayOrdered : Prop :=
  ∀ s t : State, s.WindowsOrdered → step s = .next t → t.WindowsOrdered

/-- Part time, settings, tables and accounts stay in their ranges. -/
def Obligations.ValuesStayInRange : Prop :=
  ∀ s t : State, s.ValuesInRange → step s = .next t → t.ValuesInRange

/-- The Station Table keeps at most 48 entries, one for each address, and no place bound twice (R21, R23). -/
def Obligations.StationsStaySound : Prop :=
  ∀ s t : State, s.StationsSound → step s = .next t → t.StationsSound

/-- On a route the thermal state of a compartment is one its Tg allows, with the hysteresis (R76 to R78). -/
def Obligations.GradesStayAgreed : Prop :=
  ∀ s t : State, s.GradesAgree → step s = .next t → t.GradesAgree

/-- In LOCKOUT no recovery is under way and no claim is held (R161, R178). -/
def Obligations.LockoutStaysSettled : Prop :=
  ∀ s t : State, s.LockoutSettled → step s = .next t → t.LockoutSettled

/-- The manifest, the item pool, the Stop Context List and the Claim Queue keep their limits (R109, R110, R122, R165). -/
def Obligations.ManifestStaysSound : Prop :=
  ∀ s t : State, s.ManifestSound → step s = .next t → t.ManifestSound

/-! ### The machine as a whole -/

/-- LOCKOUT ends in a cold start alone, and until then no command changes a profile, a window, an account, a settled door, a drop, a stop, a product class, a configuration value, the time-set flag, the Class Table or a pass mask, and no record is filled (R59, R101, R142, R161, R192). -/
def Obligations.LockoutFreezesAccount : Prop :=
  ∀ (c : Instr) (s t : State), s.store.lockout = true → s.LockoutSettled → exec c s = .next t →
    (t.store.lockout = true
        ∧ (∀ k, (t.comp k).profile = (s.comp k).profile ∧ (t.comp k).window = (s.comp k).window
            ∧ (t.comp k).account = (s.comp k).account ∧ (t.comp k).totals = (s.comp k).totals
            ∧ ∀ p : Fin 2, (t.comp k).doors[p].settled = (s.comp k).doors[p].settled
                ∧ (t.comp k).doors[p].since = (s.comp k).doors[p].since)
        ∧ t.drops = s.drops ∧ t.contexts = s.contexts
        ∧ { t.route with staged := none } = { s.route with staged := none }
        ∧ t.classes = s.classes ∧ t.config = s.config ∧ t.clock.timeSet = s.clock.timeSet
        ∧ t.pass.classTable = s.pass.classTable ∧ t.pass.upRoute = s.pass.upRoute ∧ t.pass.upIdle = s.pass.upIdle
        ∧ t.pass.downRoute = s.pass.downRoute ∧ t.pass.downIdle = s.pass.downIdle
        ∧ t.store.nextNumber = s.store.nextNumber ∧ t.store.chain = s.store.chain
        ∧ (c ≠ .tick → t.now = s.now))
      ∨ (t.store = { State.reset.store with spareMap := s.store.spareMap } ∧ t.route = State.reset.route ∧ t.drops = []
        ∧ t.contexts = [] ∧ t.claims = State.reset.claims ∧ t.comps = State.reset.comps ∧ t.clock = State.reset.clock)

/-- On a route no compartment's committed time moves back (R44). -/
def Obligations.CommittedTimeNeverFalls : Prop :=
  ∀ (c : Instr) (s t : State), s.underWay → exec c s = .next t →
    ∀ k, (s.comp k).window.committed ≤ (t.comp k).window.committed

/-- On a route breach exposure, handling exposure, gap ticks and the counts of the account never decrease, and the saturation and budget flags stay set (R73, R74, R79, R81). -/
def Obligations.ExposureNeverFalls : Prop :=
  ∀ (c : Instr) (s t : State), s.underWay → (∀ k, accountInRange (s.comp k).account) → exec c s = .next t →
    ∀ k, (s.comp k).account.e ≤ (t.comp k).account.e ∧ (s.comp k).account.h ≤ (t.comp k).account.h
      ∧ (s.comp k).account.gap ≤ (t.comp k).account.gap ∧ (s.comp k).account.severeCount ≤ (t.comp k).account.severeCount
      ∧ (s.comp k).account.late ≤ (t.comp k).account.late ∧ (s.comp k).account.lateWarm ≤ (t.comp k).account.lateWarm
      ∧ ((s.comp k).account.satFlag = true → (t.comp k).account.satFlag = true)
      ∧ ((s.comp k).account.budgetFlag = true → (t.comp k).account.budgetFlag = true)

/-- On a route no command changes the profiles, the product classes, the settle delay, the arrival lead, the route's identity or the place of a bound probe or door contact, and part time moves by the tick alone (R25, R39, R41, R42, R63, R106, R108, R115). -/
def Obligations.RouteHoldsItsTables : Prop :=
  ∀ (c : Instr) (s t : State), s.underWay → s.StationsSound → exec c s = .next t →
    (∀ k, (t.comp k).profile = (s.comp k).profile) ∧ t.classes = s.classes
      ∧ t.config.settleDelay = s.config.settleDelay ∧ t.config.arrivalLead = s.config.arrivalLead
      ∧ t.route.id = s.route.id ∧ t.route.openTime = s.route.openTime ∧ t.clock.timeSet = s.clock.timeSet
      ∧ (∀ e ∈ s.stations.entries, bindsPlace e.binding = true →
          ∃ e' ∈ t.stations.entries, e'.addr = e.addr ∧ sameBinding e.binding e'.binding = true)
      ∧ (c ≠ .tick → t.now = s.now)

/-- A record in the store is never rewritten: a slot that holds one keeps its header, with the same body or none, until it is FREE (R146, R155 to R158). -/
def Obligations.RecordsAreNeverRewritten : Prop :=
  ∀ (c : Instr) (s t : State) (i : Fin 256) (h : RecordHeader), s.StoreSound → exec c s = .next t →
    (∀ b, s.slot i = .filled h b →
        t.slot i = .filled h b ∨ t.slot i = .taken h b ∨ (∃ f, t.slot i = .corrupt h f) ∨ t.slot i = .free)
      ∧ (∀ b, s.slot i = .taken h b → t.slot i = .taken h b ∨ t.slot i = .corrupt h true ∨ t.slot i = .free)
      ∧ (∀ f, s.slot i = .corrupt h f →
        t.slot i = .corrupt h f ∨ t.slot i = .corrupt h true ∨ t.slot i = .free)

/-! ### Time -/

/-- A tick counts part time up to its largest value, while the domain is held, and does nothing else. A device with power counts on when its check word has ceased to agree, and brings the word up to date as part time moves; a stopped one whose domain is lost counts no longer (R39, R204; log entry 7 says what a loss of the backup supply makes of the domain). -/
def Obligations.TickCountsPartTime : Prop :=
  ∀ s : State,
    (s.checkAgrees = true →
        exec .tick s = .next { s with clock := { s.clock with partTime := min (s.clock.partTime + 1) 4294967295 } })
      ∧ (s.powered = true → s.checkAgrees = false → s.clock.partTime ≠ 4294967295 →
        exec .tick s = .next { s with
          clock := { s.clock with partTime := min (s.clock.partTime + 1) 4294967295 }
          power := { s.power with checkDiff := 0 } })
      ∧ (s.checkAgrees = false → s.powered = false ∨ s.clock.partTime = 4294967295 → exec .tick s = .next s)

/-- The horizon retires the one event it has reached: the interval before it is charged at the Tg held, by the table of R71, and the event is applied; nothing but the compartment and the alerts changes. Outside every stop, over an interval no freshness expiry cuts. Inside a stop whose context covers the whole interval, the ticks of a settled-open compartment are charged to P as long as the allowance lasts, and the rest to E; the context counts the allowance used and the open ticks (R52, R53, R65, R67, R69 to R74, R94, R96). -/
def Obligations.HorizonRetiresDueEvent : Prop :=
  (∀ (s : State) (c : Fin 4) (ev : PendingEvent) (rest : List PendingEvent),
    s.working = true → s.store.lockout = false → s.route.state = .opened → (s.comp c).window.armed = true → s.contexts = [] →
    accountInRange (s.comp c).account → (s.comp c).window.events = ev :: rest → (s.comp c).window.committed ≤ ev.time →
    ev.time + s.config.settleDelay ≤ s.now → (∀ e ∈ rest, s.now < e.time + s.config.settleDelay) →
    (∀ p : Fin 4, ∀ v r, (s.comp c).account.readings[p] = some (v, r) →
      r + (s.comp c).profile.freshness ≤ (s.comp c).window.committed ∨ ev.time ≤ r + (s.comp c).profile.freshness) →
    ∃ t, exec (.horizonRetire c) s = .next t
      ∧ (t.comp c).window = { (s.comp c).window with events := rest, committed := ev.time }
      ∧ (∀ q v, ev.content = .probe q v →
          (t.comp c).account.readings = (s.comp c).account.readings.set q.val (some (v, ev.time))
            ∧ (t.comp c).account.tg = governing (s.comp c).profile.freshness (t.comp c).account.readings ev.time
            ∧ (t.comp c).totals.openings = (s.comp c).totals.openings)
      ∧ (∀ q d, ev.content = .door q d →
          (t.comp c).account.readings = (s.comp c).account.readings ∧ (t.comp c).doors[q].settled = d)
      ∧ (∀ T n, (s.comp c).account.tg = some T → n = ev.time - (s.comp c).window.committed →
          (t.comp c).account.e = min ((s.comp c).account.e
              + (if T ≤ (s.comp c).profile.limit then 0
                 else if T ≤ (s.comp c).profile.severe then (T - (s.comp c).profile.limit).toNat * n
                 else ((s.comp c).profile.severe - (s.comp c).profile.limit
                    + (s.comp c).profile.weight * (T - (s.comp c).profile.severe)).toNat * n)) 4294967295)
      ∧ ((s.comp c).account.tg = none →
          (t.comp c).account.e = (s.comp c).account.e
            ∧ (t.comp c).account.gap
                = min ((s.comp c).account.gap + (ev.time - (s.comp c).window.committed)) 4294967295)
      ∧ (t.comp c).account.p = (s.comp c).account.p ∧ (t.comp c).account.h = (s.comp c).account.h
      ∧ (∀ k, k ≠ c → t.comp k = s.comp k)
      ∧ t = { s with comps := t.comps, alerts := t.alerts,
                     ports := { s.ports with alertQueue := t.ports.alertQueue, alertDrops := t.ports.alertDrops } })
    ∧ (∀ (s : State) (c : Fin 4) (ev : PendingEvent) (rest : List PendingEvent) (x : Context) (k : CtxComp) (n m : Nat),
      s.working = true → s.store.lockout = false → s.route.state = .opened → (s.comp c).window.armed = true →
      s.contexts = [x] → ctxComp x c = some k → k.start ≤ (s.comp c).window.committed → (∀ T, x.endTime = some T → ev.time < T) →
      (s.comp c).window.events = ev :: rest → (s.comp c).window.committed < ev.time →
      ev.time + s.config.settleDelay ≤ s.now → (∀ e ∈ rest, s.now < e.time + s.config.settleDelay) →
      (∀ p : Fin 4, ∀ v r, (s.comp c).account.readings[p] = some (v, r) →
        r + (s.comp c).profile.freshness ≤ (s.comp c).window.committed ∨ ev.time ≤ r + (s.comp c).profile.freshness) →
      n = ev.time - (s.comp c).window.committed →
      m = (if settledOpen (s.comp c) = true then min n (k.allowance - k.used) else 0) →
      ∃ t, exec (.horizonRetire c) s = .next t
        ∧ (t.comp c).window = { (s.comp c).window with events := rest, committed := ev.time }
        ∧ (∀ T, (s.comp c).account.tg = some T →
            (t.comp c).account.p = min ((s.comp c).account.p + increment (s.comp c).profile T m) 4294967295
              ∧ (t.comp c).account.e = min ((s.comp c).account.e + increment (s.comp c).profile T (n - m)) 4294967295
              ∧ (t.comp c).account.gap = (s.comp c).account.gap)
        ∧ ((s.comp c).account.tg = none →
            (t.comp c).account.p = (s.comp c).account.p ∧ (t.comp c).account.e = (s.comp c).account.e
              ∧ (t.comp c).account.gap = min ((s.comp c).account.gap + n) 4294967295)
        ∧ (t.comp c).account.h = (s.comp c).account.h
        ∧ t.contexts = [if settledOpen (s.comp c) = true then
              ctxUpdComp x c fun y => { y with used := y.used + m, openTicks := min (y.openTicks + n) 4294967295 }
            else x]
        ∧ (t.comp c).totals.openTicks = (if settledOpen (s.comp c) = true then min ((s.comp c).totals.openTicks + n) 4294967295
            else (s.comp c).totals.openTicks)
        ∧ (∀ b, b ≠ c → t.comp b = s.comp b) ∧ t.drops = s.drops ∧ t.store = s.store)

/-- When the horizon has reached the end of a stop, its drop is settled: each compartment still unresolved is brought to the end at least; and where the mask is one compartment with no event pending, and the array reads soundly, the compartment is resolved, the drop takes its outcome as final state with the number of its DROP_OUTCOME record, and its context leaves the list. Claims that wait on the drop are then judged against that record, and released in the order of their lodging, each with a CLAIM_VERDICT record in its own reservation (R54, R75, R137, R140, R149, R154, R170, R172, R174, R175). -/
def Obligations.StopEndSettlesDrop : Prop :=
  ∀ (s : State) (n T : Nat) (x : Context),
    s.working = true → s.store.lockout = false → s.route.state = .opened → s.findContext n = some x → x.endTime = some T →
    T + s.config.settleDelay ≤ s.now →
    (∃ t, exec (.stopEndAdvance n) s = .next t
        ∧ (t.store.lockout = true ∨ ∀ k ∈ x.comps, k.resolved = false → (s.comp k.comp).window.armed = true →
            T ≤ (t.comp k.comp).window.committed))
      ∧ (∀ (k : CtxComp) (d : Drop) (i : Fin 256) (reads : List Bool),
        s.contexts = [x] → x.drop = n → x.comps = [k] → k.resolved = false → (s.comp k.comp).window.armed = true →
        (s.comp k.comp).window.events = [] → (s.comp k.comp).window.committed < T → s.findDrop n = some d →
        d.reservation = some i → s.claims.queue = [] → s.array.script = false :: reads →
        ∃ t, exec (.stopEndAdvance n) s = .next t
          ∧ t.contexts = []
          ∧ (t.comp k.comp).window.committed = T ∧ (t.comp k.comp).account.p = 0
          ∧ (∃ d', t.findDrop n = some d' ∧ d'.state = .final (x.outcome.getD .abandoned)
              ∧ d'.record = some s.store.nextNumber ∧ d'.reservation = none)
          ∧ (∃ b, t.slot i = .filled { number := s.store.nextNumber, kind := .dropOutcome, routeId := s.route.id,
                                       fillTime := s.now, chain := t.store.chain } (.dropOutcome b)
              ∧ b.number = d.number ∧ b.outcome = x.outcome.getD .abandoned ∧ b.endTime = T
              ∧ t.store.chain = chainValue s.store.chain s.store.nextNumber .dropOutcome s.route.id s.now (.dropOutcome b))
          ∧ t.store.fillList = s.store.fillList ++ [i]
          ∧ (∀ c, c ≠ k.comp → t.comp c = s.comp c)
          ∧ t.route = s.route ∧ t.stations = s.stations ∧ t.classes = s.classes ∧ t.clock = s.clock ∧ t.config = s.config)
      ∧ ∀ (k : CtxComp) (d : Drop) (i : Fin 256) (reads : List Bool),
        s.StoreSound → s.contexts = [x] → x.drop = n → x.comps = [k] → k.resolved = false →
        (s.comp k.comp).window.armed = true → (s.comp k.comp).window.events = [] → (s.comp k.comp).window.committed < T →
        s.findDrop n = some d → d.reservation = some i → s.findRecord s.store.nextNumber = none →
        (∀ q ∈ s.claims.queue, waitsOn n q = true) →
        s.array.script = List.replicate (1 + 2 * s.claims.queue.length) false ++ reads →
        ∃ t h b, exec (.stopEndAdvance n) s = .next t
          ∧ t.slot i = .filled h (.dropOutcome b) ∧ h.number = s.store.nextNumber
          ∧ t.claims.queue = [] ∧ t.store.fillList = s.store.fillList ++ [i] ++ s.claims.queue.map (·.reservation)
          ∧ ∀ q ∈ s.claims.queue, ∃ h', t.slot q.reservation = .filled h' (.claimVerdict
              { tag := q.tag, port := q.port, station := q.station, reference := q.reference
                resolved := some s.store.nextNumber, selector := q.selector, kind := q.kind
                entries := judgeItems s.classes q.selector b })

/-- When the horizon has reached the close time, every window of the route stands at the close time, unless LOCKOUT has cut this off; and when no stop is left to settle the route has ended and the manifest is empty (R54, R57, R117). -/
def Obligations.CloseAdvanceEndsRoute : Prop :=
  ∀ (s : State) (z : Nat),
    s.working = true → s.store.lockout = false → s.route.state = .closing → s.route.closeTime = some z →
    z + s.config.settleDelay ≤ s.now → (∀ c, (s.comp c).window.committed ≤ z) →
    ∃ t, exec .closeAdvance s = .next t
      ∧ (t.store.lockout = true
        ∨ (∀ c, (s.comp c).window.armed = true → (t.comp c).window.committed = z)
          ∧ (t.contexts = [] →
              t.route.state = .noRoute ∧ t.drops = [] ∧ t.route.closeReason = some .closed
                ∧ ∀ c, (t.comp c).window.events = [] ∧ (t.comp c).window.armed = false))

/-- The deadlines of a stop, and of a live opening. An idle deadline that part time has reached ends the handover, with HANDOVER_TIMEOUT; a departure deadline closes the stop with its fixed outcome; an opening deadline raises DOOR_OPEN_LONG once. A deadline not reached does nothing (R91, R133, R135, R136). -/
def Obligations.DeadlinesExpire : Prop :=
  (∀ (s : State) (d : Drop) (x : Context) (t0 : Nat),
      s.working = true → s.store.lockout = false → s.liveDrop = some d → d.state = .handingOver →
      s.findContext d.number = some x → x.idleDeadline = some t0 →
      (t0 ≤ s.now → exec .idleDeadlineExpiry s = .next
          (raise .handoverTimeout (.drop d.number) (d.owner.map fun a => Int.ofNat a.toNat)
            { s.withStop d.number
                (fun e => { e with state := .active, items := e.items.map fun i =>
                  { i with accepted := 0, refused := 0, reason := none, receipt := none } })
                (fun y => { y with idleDeadline := none }) with
              stopCounts := { s.stopCounts with handoverTimeouts := satInc max32 s.stopCounts.handoverTimeouts } }))
        ∧ (s.now < t0 → exec .idleDeadlineExpiry s = .next s))
    ∧ (∀ (s : State) (d : Drop) (x : Context) (t0 : Nat),
      s.working = true → s.store.lockout = false → s.liveDrop = some d → d.state = .handedOver →
      s.closesPlainly d.number x → x.departDeadline = some t0 →
      (t0 ≤ s.now → x.outcome ≠ none → exec .departureDeadlineExpiry s = .next
          (s.withStop d.number (fun e => if e.state = .handingOver then closeDrop e else { e with state := .settling })
            (endedAt s.now)))
        ∧ (s.now < t0 → exec .departureDeadlineExpiry s = .next s))
    ∧ (∀ (s : State) (c : Fin 4) (p : Fin 2) (t0 r : Nat),
      s.working = true → (s.comp c).doors[p].deadline = some t0 → (s.comp c).doors[p].opening = some r →
      (t0 ≤ s.now → exec (.openingDeadlineExpiry c p) s = .next
          (raise .doorOpenLong (.door c p) (some (s.now - r : Nat))
            (s.updDoor c p fun x => { x with deadline := none, longOpenings := satInc max16 x.longOpenings })))
        ∧ (s.now < t0 → exec (.openingDeadlineExpiry c p) s = .next s))

/-- The end of a recovery: with no FREE slot it ends without a record; with one, and a sound read-back, its STORE_FAULT record is filled into the lowest and fault-in-progress clears; a failed read-back while fault-in-progress is set enters LOCKOUT, which aborts every claim (R154, R155, R159 to R161, R178). Before its deadline nothing happens. -/
def Obligations.RecoveryEnds : Prop :=
  ∀ (s : State) (r : Recovery),
    s.working = true → s.store.lockout = false → s.store.faultInProgress = true → s.store.recovery = some r →
    (s.now < r.deadline → exec .recoveryEnd s = .next s)
      ∧ (r.deadline ≤ s.now → (∀ j, (s.slot j).isFree = false) →
          exec .recoveryEnd s = .next { s with store := { s.store with faultInProgress := false, recovery := none } })
      ∧ ∀ (i : Fin 256) (reads : List Bool),
        r.deadline ≤ s.now → s.firstFree i →
        (s.array.script = false :: reads →
          ∃ t h, exec .recoveryEnd s = .next t
            ∧ t.slot i = .filled h (.storeFault
                { source := r.source, time := r.time, slot := r.slot, number := r.number, kind := r.kind
                  faults := s.store.counts.faults, free := s.freeCount - 1 })
            ∧ h.number = s.store.nextNumber ∧ h.kind = .storeFault ∧ h.fillTime = s.now
            ∧ (∀ j, j ≠ i → t.slot j = s.slot j) ∧ t.store.fillList = s.store.fillList ++ [i]
            ∧ t.store.faultInProgress = false ∧ t.store.recovery = none ∧ t.store.lockout = false
            ∧ t.store.counts.faultRecords = satInc max32 s.store.counts.faultRecords
            ∧ t.comps = s.comps ∧ t.drops = s.drops ∧ t.contexts = s.contexts ∧ t.claims = s.claims)
        ∧ (s.StoreSound → s.array.script = true :: reads →
          ∃ t h, exec .recoveryEnd s = .next t
            ∧ t.slot i = .corrupt h false ∧ h.number = s.store.nextNumber ∧ h.kind = .storeFault
            ∧ t.store.lockout = true ∧ t.store.faultInProgress = true
            ∧ t.store.recovery = none ∧ t.claims.queue = []
            ∧ t.comps = s.comps ∧ t.drops = s.drops ∧ t.contexts = s.contexts)

/-! ### Lines -/

/-- The partner's idle pattern takes the link UP; its loss takes it DOWN, leaves a frame in transmission at the head of its queue, and ends a reception in progress as a length error (R3, R6). -/
def Obligations.LinkFollowsIdlePattern : Prop :=
  ∀ s : State, s.working = true →
    exec .linkUp s = .next { s with ports := { s.ports with linkUp := true } }
      ∧ exec (.linkDown false) s
          = .next { s with ports := { s.ports with linkUp := false, trunk := { s.ports.trunk with sending := none } } }
      ∧ exec (.linkDown true) s
          = .next { s with ports := { s.ports with
              linkUp := false
              trunk := { s.ports.trunk with
                sending := none
                counts := { s.ports.trunk.counts with
                  lengthErrors := satInc max32 s.ports.trunk.counts.lengthErrors } } } }

/-- A free port sends the oldest frame of its first non-empty queue: replies, then alerts, then forwarded frames. A frame the device made takes the port's next sequence number, once; a forwarded frame goes out as it is. When the transmission completes, the frame leaves its queue and is counted (R6, R13, R17, R18). -/
def Obligations.TransmissionsStartAndEnd : Prop :=
  ∀ (s : State) (p : Port), s.working = true →
    (∀ (q : QueueKind) (f : QFrame) (fs : List QFrame),
        (s.port p).sending = none → (p = .trunk → s.ports.linkUp = true) → s.queueFrames p q = f :: fs →
        (q ≠ .reply → s.queueFrames p .reply = []) → (q = .forward → s.queueFrames p .alert = []) →
        (q ≠ .forward ∧ f.numbered = false →
          exec (.transmitStart p) s = .next
            ((s.updQueue p q fun _ =>
                { frame := { f.frame with seq := (s.port p).seqCounter }, numbered := true } :: fs).updPort p fun u =>
              { u with
                seqCounter := (s.port p).seqCounter + 1
                sending := some { queue := q, wire := frameWire { f.frame with seq := (s.port p).seqCounter } } }))
        ∧ (q = .forward ∨ f.numbered = true →
          exec (.transmitStart p) s = .next
            (s.updPort p fun u => { u with sending := some { queue := q, wire := frameWire f.frame } })))
      ∧ (((s.port p).sending ≠ none ∨ (p = .trunk ∧ s.ports.linkUp = false)
            ∨ ∀ q, s.queueFrames p q = []) → exec (.transmitStart p) s = .next s)
      ∧ (∀ x : Sending, (s.port p).sending = some x →
          exec (.transmitDone p) s = .next
            ((s.updQueue p x.queue List.tail).updPort p fun u =>
              { u with sending := none, counts := { u.counts with sent := satInc max32 u.counts.sent } }))
      ∧ ((s.port p).sending = none → exec (.transmitDone p) s = .next s)

/-- The bytes that frameWire puts on a line for an error-free frame are received as that frame by a port that listens, counted, and handed on; layout and CRC agree both ways (R1 to R3, R5, R7, R209; log entry 4 says that RECEIVE_ERROR takes whatever bytes a line brings, those of a frame that passes the tests among them). -/
def Obligations.ReceivedWireIsHandedOn : Prop :=
  ∀ (s : State) (p : Port) (f : Frame),
    s.working = true → s.listens p = true → f.payload.length ≤ 240 → f.trailer.length = (if f.flags.getLsbD 0 then 8 else 0) →
    (p = .field → f.flags.getLsbD 0 = false) → sourceOk f.src = true → f.dst ≠ 0 →
    exec (.receiveError p (frameWire f)) s = .next (handOn p f (countReceived p s))

/-- A frame that fails a test of R3 is counted by the first test it fails, and nothing else changes. While the device transmits on the field line it does not listen there: no bytes and no frame of that line change anything (R3, R7; log entry 28). -/
def Obligations.DamagedFramesAreDiscarded : Prop :=
  (∀ s : State, s.ports.field.sending ≠ none →
      (∀ bytes : List Byte, exec (.receiveError .field bytes) s = .next s)
        ∧ ∀ (i : Instr) (x : Hdr × Byte × Byte × List Byte), fieldRow? i = some x → exec i s = .next s)
  ∧ ∀ (s : State) (p : Port), s.working = true → s.listens p = true →
    (∀ bytes : List Byte, bytes.length < 10 → exec (.receiveError p bytes) s
        = .next (s.updPortCounts p fun n => { n with lengthErrors := satInc max32 n.lengthErrors }))
      ∧ ∀ (f : Frame) (x y : Byte) (bytes : List Byte), bytes = frameBody f ++ [x, y] → f.payload.length ≤ 255 →
        ((240 < f.payload.length ∨ f.trailer.length ≠ (if f.flags.getLsbD 0 then 8 else 0)) →
            exec (.receiveError p bytes) s
              = .next (s.updPortCounts p fun n => { n with lengthErrors := satInc max32 n.lengthErrors }))
        ∧ (f.payload.length ≤ 240 → f.trailer.length = (if f.flags.getLsbD 0 then 8 else 0) →
          (p = .field ∧ f.flags.getLsbD 0 = true →
            exec (.receiveError p bytes) s
              = .next (s.updPortCounts p fun n => { n with formatErrors := satInc max32 n.formatErrors }))
          ∧ ((p = .trunk ∨ f.flags.getLsbD 0 = false) → bytes ≠ frameWire f →
            exec (.receiveError p bytes) s
              = .next (s.updPortCounts p fun n => { n with crcErrors := satInc max32 n.crcErrors }))
          ∧ ((p = .trunk ∨ f.flags.getLsbD 0 = false) → bytes = frameWire f → (sourceOk f.src = false ∨ f.dst = 0) →
            exec (.receiveError p bytes) s
              = .next (s.updPortCounts p fun n => { n with addressErrors := satInc max32 n.addressErrors })))

/-! ### Readings, door reports and frames passed on -/

/-- A SAMPLE to the device from a bound probe, its compartment's window taking nothing: a reading is corrected and clamped, with READING_CLAMPED when the clamping changed it; a sentinel is reported and marks the entry; a payload too short is counted. The live value moves forward in sample time alone (R27, R31 to R35). -/
def Obligations.SampleMovesLiveReading : Prop :=
  ∀ (s : State) (h : Hdr) (e : Station) (c q : Fin 4) (off : Int),
    s.hears h e → e.binding = .probe c q off → s.handsOver c = false →
    (∀ (hi lo : Byte) (rest : List Byte), rest.length ≤ 238 →
      (int16 hi lo ≠ -2048 → int16 hi lo ≠ -2047 →
        (-880 ≤ int16 hi lo + off → int16 hi lo + off ≤ 1200 →
          exec (.sample deviceAddr h (hi :: lo :: rest)) s = .next
            ((s.heard h).updStation h.src fun x =>
              if x.latest.all (fun r => r.2 ≤ s.now - h.age.toNat) then
                { x with latest := some (int16 hi lo + off, s.now - h.age.toNat), faultMark := none }
              else { x with held := satInc max16 x.held }))
        ∧ (int16 hi lo + off < -880 ∨ 1200 < int16 hi lo + off →
          exec (.sample deviceAddr h (hi :: lo :: rest)) s = .next
            ((raise .readingClamped (.station h.src) (some (int16 hi lo + off))
                ((s.heard h).updStations fun n => { n with clamped := satInc max32 n.clamped })).updStation h.src fun x =>
              if x.latest.all (fun r => r.2 ≤ s.now - h.age.toNat) then
                { x with
                  latest := some (if int16 hi lo + off < -880 then (-880 : Int) else 1200, s.now - h.age.toNat)
                  faultMark := none }
              else { x with held := satInc max16 x.held })))
      ∧ (int16 hi lo = -2048 ∨ int16 hi lo = -2047 →
          exec (.sample deviceAddr h (hi :: lo :: rest)) s = .next
            ((raise .probeFault (.station h.src) (some (int16 hi lo))
                ((s.heard h).updStations fun n => { n with probeFaults := satInc max32 n.probeFaults })).updStation h.src fun x =>
              if x.latest.all (fun r => r.2 ≤ s.now - h.age.toNat) && x.faultMark.all (fun r => r.2 ≤ s.now - h.age.toNat) then
                { x with
                  faultMark := some (if int16 hi lo = -2048 then .sensorOpen else .sensorShort, s.now - h.age.toNat) }
              else { x with held := satInc max16 x.held })))
    ∧ ∀ payload : List Byte, payload.length < 2 →
        exec (.sample deviceAddr h payload) s
          = .next ((s.heard h).updStations fun n => { n with shortReadings := satInc max32 n.shortReadings })

/-- A valid reading to the device on a route: an event before the committed time is LATE, is counted and reported, and changes neither the window's events nor the account's exposure; an event in time, with a place free and the horizon not there yet, joins the window after every event of equal or earlier time. In CLOSING an event at or after the close time is counted and goes no further. When the window is full the earliest of the seventeen events retires at once, with WINDOW_FORCED: the event in the window, whose place the new one takes, or the new one itself; this outside every stop (R35, R43, R47, R49 to R51, R53, R56). -/
def Obligations.SampleEntersWindow : Prop :=
  ∀ (s : State) (h : Hdr) (e : Station) (c q : Fin 4) (off : Int) (hi lo : Byte) (rest : List Byte),
    s.hears h e → e.binding = .probe c q off → rest.length ≤ 238 → int16 hi lo ≠ -2048 → int16 hi lo ≠ -2047 →
    -880 ≤ int16 hi lo + off → int16 hi lo + off ≤ 1200 →
    s.store.lockout = false → s.route.state ≠ .noRoute → (s.comp c).window.armed = true → (s.comp c).profile.enabled = true →
    windowOrdered (s.comp c).window →
    (s.now - h.age.toNat < (s.comp c).window.committed →
      exec (.sample deviceAddr h (hi :: lo :: rest)) s = .next
        (raise .lateSample (.compartment c) (some ((s.comp c).window.committed - (s.now - h.age.toNat) : Nat))
          (((s.heard h).updStation h.src (liveReading (int16 hi lo + off) (s.now - h.age.toNat))).updComp c fun k =>
            { k with
              window := { k.window with arrivals := satInc max32 k.window.arrivals }
              account := { k.account with
                late := satInc max16 k.account.late
                lateWarm := if k.profile.limit < int16 hi lo + off then satInc max16 k.account.lateWarm
                            else k.account.lateWarm } })))
      ∧ (∀ z, s.route.state = .closing → s.route.closeTime = some z → z ≤ s.now - h.age.toNat →
        (s.comp c).window.committed ≤ s.now - h.age.toNat →
        exec (.sample deviceAddr h (hi :: lo :: rest)) s = .next
          (((s.heard h).updStation h.src (liveReading (int16 hi lo + off) (s.now - h.age.toNat))).updComp c fun k =>
            { k with window := { k.window with
                arrivals := satInc max32 k.window.arrivals
                afterClose := satInc max16 k.window.afterClose } }))
      ∧ ((s.comp c).window.committed ≤ s.now - h.age.toNat →
        (s.route.state = .closing → ∀ z, s.route.closeTime = some z → s.now - h.age.toNat < z) →
        (s.comp c).window.events.length < 16 → s.now < s.now - h.age.toNat + s.config.settleDelay →
        exec (.sample deviceAddr h (hi :: lo :: rest)) s = .next
          (((s.heard h).updStation h.src (liveReading (int16 hi lo + off) (s.now - h.age.toNat))).updComp c fun k =>
            { k with window := { k.window with
                arrivals := satInc max32 k.window.arrivals
                inserted := satInc max16 k.window.inserted
                events := k.window.events.filter (fun x => x.time ≤ s.now - h.age.toNat)
                  ++ [{ time := s.now - h.age.toNat, arrival := k.window.arrivals, content := .probe q (int16 hi lo + off) }]
                  ++ k.window.events.filter (fun x => s.now - h.age.toNat < x.time) } }))
      ∧ (∀ (x : PendingEvent) (xs : List PendingEvent),
        (s.comp c).window.events = x :: xs → (x :: xs).length = 16 → s.contexts = [] →
        (s.comp c).window.committed ≤ s.now - h.age.toNat →
        (s.route.state = .closing → ∀ z, s.route.closeTime = some z → s.now - h.age.toNat < z) →
        ∃ t, exec (.sample deviceAddr h (hi :: lo :: rest)) s = .next t
          ∧ (t.alertEntry .windowForced).raises = satInc max16 (s.alertEntry .windowForced).raises
          ∧ (∀ b, b ≠ c → t.comp b = s.comp b)
          ∧ (s.now - h.age.toNat < x.time →
            (t.comp c).window = { (s.comp c).window with
                arrivals := satInc max32 (s.comp c).window.arrivals
                forced := satInc max16 (s.comp c).window.forced
                committed := s.now - h.age.toNat }
              ∧ (t.comp c).account.readings
                  = (s.comp c).account.readings.set q.val (some (int16 hi lo + off, s.now - h.age.toNat)))
          ∧ (x.time ≤ s.now - h.age.toNat → s.now < s.now - h.age.toNat + s.config.settleDelay →
            (t.comp c).window = { (s.comp c).window with
                arrivals := satInc max32 (s.comp c).window.arrivals
                forced := satInc max16 (s.comp c).window.forced
                inserted := satInc max16 (s.comp c).window.inserted
                committed := x.time
                events := xs.filter (fun y => y.time ≤ s.now - h.age.toNat)
                  ++ [{ time := s.now - h.age.toNat, arrival := (s.comp c).window.arrivals
                        content := .probe q (int16 hi lo + off) }]
                  ++ xs.filter (fun y => s.now - h.age.toNat < y.time) }
              ∧ (∀ q' v, x.content = .probe q' v →
                  (t.comp c).account.readings = (s.comp c).account.readings.set q'.val (some (v, x.time)))
              ∧ (∀ q' d, x.content = .door q' d → (t.comp c).doors[q'].settled = d)))

/-- A DOOR_STATE to the device from a bound contact, its compartment's window taking nothing, off a route: a report no earlier than the last one moves the live state; OPEN begins an opening with its deadline, CLOSED ends it, any other value is FAULT, is reported, and ends it; an earlier report is held (R27, R31, R34, R89 to R91). -/
def Obligations.DoorReportMovesLiveDoor : Prop :=
  ∀ (s : State) (h : Hdr) (e : Station) (c : Fin 4) (p : Fin 2) (b : Byte) (rest : List Byte),
    s.hears h e → e.binding = .door c p → rest.length ≤ 239 → s.route.state = .noRoute →
    ((∀ r, e.doorTime = some r → r ≤ s.now - h.age.toNat) →
      (e.doorLive = some (doorStateOf b) → b = 0 ∨ b = 1 →
        exec (.doorState deviceAddr h (b :: rest)) s
          = .next ((s.heard h).updStation h.src (liveDoor (doorStateOf b) (s.now - h.age.toNat))))
      ∧ (b = 1 → e.doorLive ≠ some .opened → s.now < s.now - h.age.toNat + (s.comp c).profile.openLimit →
          s.now - h.age.toNat + (s.comp c).profile.openLimit ≤ max32 →
        exec (.doorState deviceAddr h (b :: rest)) s
          = .next (((s.heard h).updStation h.src (liveDoor .opened (s.now - h.age.toNat))).updDoor c p fun x =>
              { x with
                opening := some (s.now - h.age.toNat)
                deadline := some (s.now - h.age.toNat + (s.comp c).profile.openLimit)
                liveOpenings := satInc max16 x.liveOpenings }))
      ∧ (b = 0 → e.doorLive = some .opened →
        exec (.doorState deviceAddr h (b :: rest)) s
          = .next (((s.heard h).updStation h.src (liveDoor .closed (s.now - h.age.toNat))).updDoor c p fun x =>
              { x with opening := none, deadline := none }))
      ∧ (b ≠ 0 → b ≠ 1 → e.doorLive = some .opened →
        exec (.doorState deviceAddr h (b :: rest)) s
          = .next (((raise .doorContactFault (.door c p) (some b.toNat) (s.heard h)).updStation h.src
              (liveDoor .fault (s.now - h.age.toNat))).updDoor c p fun x => { x with opening := none, deadline := none })))
    ∧ ((∃ r, e.doorTime = some r ∧ s.now - h.age.toNat < r) → b = 0 ∨ b = 1 →
        exec (.doorState deviceAddr h (b :: rest)) s
          = .next ((s.heard h).updStation h.src (liveDoor (doorStateOf b) (s.now - h.age.toNat))))

/-- A repeat from a known station, outside LOCKOUT, is counted at its entry and in the table, whatever its row, and goes no further (R5, R27, R28). -/
def Obligations.RepeatsGoNoFurther : Prop :=
  ∀ (s : State) (i : Instr) (h : Hdr) (dst typ : Byte) (payload : List Byte) (e : Station),
    fieldRow? i = some (h, dst, typ, payload) → dst ≠ 0 → payload.length ≤ 240 →
    s.working = true → s.ports.field.sending = none → sourceOk h.src = true → h.flags.getLsbD 0 = false →
    s.store.lockout = false → s.findStation h.src = some e → e.seqSeen = true → e.lastSeq = h.seq →
    exec i s = .next
      (((s.updPortCounts .field fun n => { n with received := satInc max32 n.received }).updStation h.src fun x =>
          { x with repeats := satInc max16 x.repeats }).updStations fun n => { n with repeats := satInc max32 n.repeats })

/-- A field frame that no table row acts on is offered to the up direction: one whose class meets the mask in force joins the up FIFO with its annotation trailer, another is held back, one that finds the FIFO full is dropped with FORWARD_OVERFLOW; in LOCKOUT every one joins as it came. A frame from an unknown source is reported, counted and offered, marked UNKNOWN_STATION. A broadcast reading or door report does what the same frame to the device does, outside every stop, and its copy carries the marks LATE, CLAMPED and PROBE_FAULT and the corrected temperature (R5, R8 to R11, R13, R19, R29, R30). -/
def Obligations.FieldFramesAreOffered : Prop :=
  (∀ (s : State) (h : Hdr) (e : Station) (dst typ cls mask : Byte) (payload : List Byte) (f : Frame),
    s.hears h e → dst ≠ 0 → dst ≠ deviceAddr → (dst = broadcastAddr → typ ≠ typSample ∧ typ ≠ typDoorState) →
    payload.length ≤ 240 →
    cls = e.override.getD s.pass.classTable[typ.toFin] → mask = (if s.onRoute then s.pass.upRoute else s.pass.upIdle) →
    f = { dst := dst, src := h.src, typ := typ, flags := h.flags, seq := h.seq, age := h.age, payload := payload, trailer := [] } →
    (s.store.lockout = false → cls &&& mask ≠ 0 → s.ports.trunk.forward.length < 32 →
        exec (.fieldFramePassUp dst typ h payload) s = .next
          (((s.heard h).updPort .trunk fun u => { u with forward := u.forward
              ++ [{ frame := { f with
                      flags := h.flags ||| 1
                      trailer := trailerBytes { comp := bindingComp e.binding } s.liveDropNumber s.now } }] }).updDirCounts .up
            fun k => { k with forwarded := satInc max32 k.forwarded }))
      ∧ (s.store.lockout = false → cls &&& mask = 0 →
        exec (.fieldFramePassUp dst typ h payload) s = .next
          ((s.heard h).updDirCounts .up fun k => { k with heldBack := satInc max32 k.heldBack }))
      ∧ (s.store.lockout = false → cls &&& mask ≠ 0 → 32 ≤ s.ports.trunk.forward.length →
        exec (.fieldFramePassUp dst typ h payload) s = .next
          (raise .forwardOverflow (.direction .up) (some typ.toNat)
            ((s.heard h).updDirCounts .up fun k => { k with overflow := satInc max32 k.overflow })))
      ∧ (s.store.lockout = true → s.ports.trunk.forward.length < 32 →
        exec (.fieldFramePassUp dst typ h payload) s = .next
          (((s.heard h).updPort .trunk fun u => { u with forward := u.forward ++ [{ frame := f }] }).updDirCounts .up
            fun k => { k with forwarded := satInc max32 k.forwarded })))
    ∧ (∀ (s r : State) (i : Instr) (h : Hdr) (dst typ mask : Byte) (payload : List Byte) (f : Frame),
      fieldRow? i = some (h, dst, typ, payload) → s.working = true → s.ports.field.sending = none → sourceOk h.src = true →
      h.flags.getLsbD 0 = false → s.findStation h.src = none → dst ≠ 0 → dst ≠ deviceAddr → payload.length ≤ 240 →
      mask = (if s.onRoute then s.pass.upRoute else s.pass.upIdle) →
      f = { dst := dst, src := h.src, typ := typ, flags := h.flags, seq := h.seq, age := h.age, payload := payload, trailer := [] } →
      r = (raise .unknownStation (.station h.src) (some typ.toNat) (countReceived .field s)).updStations (fun n =>
        { n with unknownSource := satInc max32 n.unknownSource }) →
      (s.store.lockout = false → s.pass.classTable[typ.toFin] &&& mask ≠ 0 → s.ports.trunk.forward.length < 32 →
          exec i s = .next ((r.updPort .trunk fun u => { u with forward := u.forward ++ [{ frame := { f with
              flags := h.flags ||| 1
              trailer := trailerBytes { unknown := true } s.liveDropNumber s.now } }] }).updDirCounts .up
            fun k => { k with forwarded := satInc max32 k.forwarded }))
        ∧ (s.store.lockout = false → s.pass.classTable[typ.toFin] &&& mask = 0 →
          exec i s = .next (r.updDirCounts .up fun k => { k with heldBack := satInc max32 k.heldBack }))
        ∧ (s.store.lockout = true → s.ports.trunk.forward.length < 32 →
          exec i s = .next ((r.updPort .trunk fun u => { u with forward := u.forward ++ [{ frame := f }] }).updDirCounts .up
            fun k => { k with forwarded := satInc max32 k.forwarded })))
    ∧ (∀ (s : State) (h : Hdr) (e : Station) (mask : Byte), s.hears h e → s.store.lockout = false → s.contexts = [] →
      s.ports.trunk.forward.length < 32 → mask = (if s.onRoute then s.pass.upRoute else s.pass.upIdle) →
      (∀ (c q : Fin 4) (off v : Int) (hi lo : Byte) (rest : List Byte) (marks : Marks),
        e.binding = .probe c q off → rest.length ≤ 238 → e.override.getD s.pass.classTable[typSample.toFin] &&& mask ≠ 0 →
        v = max (-880) (min (int16 hi lo + off) 1200) →
        marks = (if int16 hi lo = -2048 ∨ int16 hi lo = -2047 then { comp := some c, probeFault := true }
          else { comp := some c, temperature := some v, clamped := decide (v ≠ int16 hi lo + off)
                 late := s.handsOver c && decide (s.now - h.age.toNat < (s.comp c).window.committed) }) →
        ∃ u, exec (.sample deviceAddr h (hi :: lo :: rest)) s = .next u
          ∧ exec (.sample broadcastAddr h (hi :: lo :: rest)) s = .next
            ((u.updPort .trunk fun x => { x with forward := x.forward ++ [{ frame :=
                { dst := broadcastAddr, src := h.src, typ := typSample, flags := h.flags ||| 1, seq := h.seq, age := h.age
                  payload := hi :: lo :: rest, trailer := trailerBytes marks s.liveDropNumber s.now } }] }).updDirCounts .up
              fun k => { k with forwarded := satInc max32 k.forwarded }))
      ∧ (∀ (c : Fin 4) (p : Fin 2) (b : Byte) (rest : List Byte) (marks : Marks),
        e.binding = .door c p → rest.length ≤ 239 → e.override.getD s.pass.classTable[typDoorState.toFin] &&& mask ≠ 0 →
        marks = { comp := some c, late := s.handsOver c && decide (s.now - h.age.toNat < (s.comp c).window.committed) } →
        ∃ u, exec (.doorState deviceAddr h (b :: rest)) s = .next u
          ∧ exec (.doorState broadcastAddr h (b :: rest)) s = .next
            ((u.updPort .trunk fun x => { x with forward := x.forward ++ [{ frame :=
                { dst := broadcastAddr, src := h.src, typ := typDoorState, flags := h.flags ||| 1, seq := h.seq, age := h.age
                  payload := b :: rest, trailer := trailerBytes marks s.liveDropNumber s.now } }] }).updDirCounts .up
              fun k => { k with forwarded := satInc max32 k.forwarded })))

/-- A frame to the device of a type it does not handle is counted, on either port; on the field port the Station Table takes it first, and reports a source it does not know (R5, R28, R29). -/
def Obligations.UnhandledFramesAreCounted : Prop :=
  (∀ (s : State) (typ : Byte) (h : Hdr) (payload trailer : List Byte),
      s.working = true → trunkTypes.contains typ = false → trunkOk h payload trailer = true →
      exec (.unhandledFrame .trunk typ h payload trailer) s = .next
        (s.updPortCounts .trunk fun n =>
          { n with received := satInc max32 n.received, unhandled := satInc max32 n.unhandled }))
    ∧ (∀ (s : State) (typ : Byte) (h : Hdr) (payload : List Byte) (e : Station),
      s.hears h e → fieldTypes.contains typ = false → payload.length ≤ 240 →
      exec (.unhandledFrame .field typ h payload []) s = .next
        ((s.heard h).updPortCounts .field fun n => { n with unhandled := satInc max32 n.unhandled }))
    ∧ (∀ (s : State) (typ : Byte) (h : Hdr) (payload : List Byte),
      s.working = true → s.ports.field.sending = none → fieldOk h payload = true → fieldTypes.contains typ = false →
      s.findStation h.src = none →
      exec (.unhandledFrame .field typ h payload []) s = .next
        (raise .unknownStation (.station h.src) (some typ.toNat)
          ((s.updPortCounts .field fun n =>
              { n with received := satInc max32 n.received, unhandled := satInc max32 n.unhandled }).updStations fun n =>
            { n with unknownSource := satInc max32 n.unknownSource })))

/-- A trunk frame that passes the down test goes to the field line exactly as it arrived, with no annotation, and its bytes on the line are those of the frame that came; one that does not pass is held back; one that finds the FIFO full is dropped with FORWARD_OVERFLOW (R5, R8, R9, R12, R13). -/
def Obligations.TrunkFramesPassDown : Prop :=
  (∀ (s : State) (h : Hdr) (dst typ mask : Byte) (payload trailer : List Byte) (f : Frame),
      s.working = true → s.store.lockout = false → dst ≠ 0 → dst ≠ deviceAddr → trunkOk h payload trailer = true →
      mask = (if s.onRoute then s.pass.downRoute else s.pass.downIdle) →
      f = { dst := dst, src := h.src, typ := typ, flags := h.flags, seq := h.seq, age := h.age, payload := payload, trailer := trailer } →
      (s.pass.classTable[typ.toFin] &&& mask ≠ 0 → s.ports.field.forward.length < 32 →
          exec (.trunkFramePassDown dst typ h payload trailer) s = .next
            (((countReceived .trunk s).updPort .field fun u => { u with forward := u.forward ++ [{ frame := f }] }).updDirCounts
              .down fun k => { k with forwarded := satInc max32 k.forwarded }))
        ∧ (s.pass.classTable[typ.toFin] &&& mask = 0 →
          exec (.trunkFramePassDown dst typ h payload trailer) s = .next
            ((countReceived .trunk s).updDirCounts .down fun k => { k with heldBack := satInc max32 k.heldBack }))
        ∧ (s.pass.classTable[typ.toFin] &&& mask ≠ 0 → 32 ≤ s.ports.field.forward.length →
          exec (.trunkFramePassDown dst typ h payload trailer) s = .next
            (raise .forwardOverflow (.direction .down) (some typ.toNat)
              ((countReceived .trunk s).updDirCounts .down fun k => { k with overflow := satInc max32 k.overflow }))))
    ∧ (∀ (s : State) (f : Frame) (fs : List QFrame),
      s.working = true → s.ports.field.sending = none → s.ports.field.replies = [] →
      s.ports.field.forward = { frame := f } :: fs →
      exec (.transmitStart .field) s = .next
        (s.updPort .field fun u => { u with sending := some { queue := .forward, wire := frameWire f } }))

/-! ### Terminal requests -/

/-- A terminal request is refused before its own rule is reached, with nothing done but the counts and the reply: NOT_TERMINAL to a source that is unknown, which is reported, or that is no terminal; then LOCKOUT in LOCKOUT, STATE, with the malformed count, for a payload of another length than its type requires, NO_ROUTE off a route, and NO_DROP for a drop number out of range or one the manifest does not hold (R29, R36, R125, R126, R142; that the reply of NOT_TERMINAL carries the drop named and its state is the model's choice, log entry 20). -/
def Obligations.RequestsAreRefusedFirst : Prop :=
  (∀ (s : State) (i : Instr) (h : Hdr) (typ n index : Byte) (e : Station),
      stopRequest? i = some (h, typ, n, index) → s.hears h e →
      (e.binding ≠ .terminal →
          exec i s = .next (sendTermReply h.src typ n.toNat index (.refused .notTerminal) (s.heard h)))
        ∧ (e.binding = .terminal → s.store.lockout = true → exec i s = .next (s.refuses h typ n index .lockout))
        ∧ (e.binding = .terminal → s.store.lockout = false → s.route.state = .noRoute →
          exec i s = .next (s.refuses h typ n index .noRoute))
        ∧ (e.binding = .terminal → s.store.lockout = false → s.route.state ≠ .noRoute →
            (n = 0 ∨ 64 < n.toNat ∨ s.findDrop n.toNat = none) →
          exec i s = .next (s.refuses h typ n index .noDrop)))
    ∧ (∀ (s : State) (h : Hdr) (e : Station) (payload : List Byte),
      s.hears h e → e.binding = .terminal → payload.length ≤ 240 →
      ∀ x ∈ [(Instr.stopArrive h payload, typStopArrive, 1), (.stopDepart h payload, typStopDepart, 1),
          (.handoverOpen h payload, typHandoverOpen, 1), (.itemConfirm h payload, typItemConfirm, 9),
          (.handoverClose h payload, typHandoverClose, 9), (.handoverAbort h payload, typHandoverAbort, 1)],
        payload.length ≠ x.2.2 →
        (s.store.lockout = true → ∃ n index, exec x.1 s = .next (s.refuses h x.2.1 n index .lockout))
          ∧ (s.store.lockout = false → ∃ n index, exec x.1 s = .next
              (State.refuses { s with stopCounts := { s.stopCounts with malformed := satInc max32 s.stopCounts.malformed } }
                h x.2.1 n index .state)))
    ∧ (∀ (s : State) (i : Instr) (h : Hdr) (typ n index : Byte),
      stopRequest? i = some (h, typ, n, index) → s.working = true → s.ports.field.sending = none → sourceOk h.src = true →
      h.flags.getLsbD 0 = false → s.findStation h.src = none →
      exec i s = .next (sendTermReply h.src typ n.toNat index (.refused .notTerminal)
        ((raise .unknownStation (.station h.src) (some typ.toNat) (countReceived .field s)).updStations fun c =>
          { c with unknownSource := satInc max32 c.unknownSource })))

/-- STOP_ARRIVE for a PLANNED drop opens its stop for the sender: a live stop is closed first, and each compartment's start is set back by the arrival lead, but not behind its committed time or the end of the stop before. For an ACTIVE drop the sender becomes the owner. A closing route or a handover in progress refuses it; four contexts ask for a retry (R122, R123, R127 to R129, R136). -/
def Obligations.StopArriveOpensStop : Prop :=
  ∀ (s : State) (h : Hdr) (n : Byte) (d : Drop), s.asks h n d →
    (d.state = .planned → s.route.state = .opened → (∀ x ∈ s.drops, x.state ≠ .handingOver) → s.contexts.length < 4 →
        (s.liveDrop = none →
          exec (.stopArrive h [n]) s = .next (s.accepts h typStopArrive n 0 fun s1 =>
            { s1 with
              drops := s.drops.map fun x => if x.number = d.number then { x with state := .active, owner := some h.src } else x
              contexts := s.contexts
                ++ [{ drop := d.number, arrival := s.now, comps := (maskComps d.mask).map fun c =>
                      { comp := c, allowance := d.allowance,
                        start := max (max (s.now - s.config.arrivalLead) (s.comp c).window.committed)
                          ((s.contexts.getLast?.bind (·.endTime)).getD 0) } }] }))
        ∧ (∀ (l : Drop) (x : Context), s.liveDrop = some l → s.closesPlainly l.number x →
          ∃ t, exec (.stopArrive h [n]) s = .next t
            ∧ t.drops = ((s.drops.map fun y => if y.number = l.number then { y with state := .settling } else y).map
                fun y => if y.number = d.number then { y with state := .active, owner := some h.src } else y)
            ∧ t.contexts = (s.contexts.map fun y => if y.drop = l.number then endedAt s.now y else y)
                ++ [{ drop := d.number, arrival := s.now, comps := (maskComps d.mask).map fun c =>
                      { comp := c, allowance := d.allowance,
                        start := max (max (s.now - s.config.arrivalLead) (s.comp c).window.committed) s.now } }]
            ∧ t.comps = s.comps ∧ t.store = s.store ∧ t.route = s.route ∧ t.claims = s.claims))
      ∧ (d.state = .planned → s.route.state = .opened → (∀ x ∈ s.drops, x.state ≠ .handingOver) → 4 ≤ s.contexts.length →
        exec (.stopArrive h [n]) s = .next
          (sendTermReply h.src typStopArrive n.toNat 0 .retry
            { s.heard h with stopCounts := { s.stopCounts with
              requests := satInc max32 s.stopCounts.requests, retries := satInc max32 s.stopCounts.retries } }))
      ∧ (d.state = .active →
        exec (.stopArrive h [n]) s = .next (s.accepts h typStopArrive n 0 fun s1 =>
          { s1 with drops := s.drops.map fun x => if x.number = d.number then { x with owner := some h.src } else x }))
      ∧ (d.state = .planned → (s.route.state = .closing ∨ ∃ x ∈ s.drops, x.state = .handingOver) →
        exec (.stopArrive h [n]) s = .next (s.refuses h typStopArrive n 0 .state))
      ∧ ((d.state = .handingOver ∨ d.state = .handedOver) → d.owner ≠ some h.src →
        exec (.stopArrive h [n]) s = .next (s.refuses h typStopArrive n 0 .notOwner))

/-- HANDOVER_OPEN from the owner of an ACTIVE drop clears the confirmation fields of its items, counts the attempt, sets the idle deadline, and makes it HANDING_OVER; HANDOVER_ABORT from the owner ends the handover. Each is accepted without effect where there is nothing to do, refused with NOT_OWNER from another terminal, and with STATE in any other state of the drop (R130, R133). -/
def Obligations.HandoversOpenAndAbort : Prop :=
  ∀ (s : State) (h : Hdr) (n : Byte) (d : Drop), s.asks h n d →
    (d.owner = some h.src →
        (d.state = .active →
          exec (.handoverOpen h [n]) s = .next (s.accepts h typHandoverOpen n 0 fun s1 =>
              s1.withStop d.number
                (fun x => { x with state := .handingOver, items := x.items.map fun i =>
                  { i with accepted := 0, refused := 0, reason := none, receipt := none } })
                (fun x => { x with
                  attempts := satInc max8 x.attempts, idleDeadline := some (s.now + s.config.idleTimeout) }))
            ∧ exec (.handoverAbort h [n]) s = .next (s.accepts h typHandoverAbort n 0 id))
        ∧ (d.state = .handingOver →
          exec (.handoverOpen h [n]) s = .next (s.accepts h typHandoverOpen n 0 id)
            ∧ exec (.handoverAbort h [n]) s = .next (s.accepts h typHandoverAbort n 0 fun s1 =>
              s1.withStop d.number
                (fun x => { x with state := .active, items := x.items.map fun i =>
                  { i with accepted := 0, refused := 0, reason := none, receipt := none } })
                (fun x => { x with idleDeadline := none }))))
      ∧ (d.owner ≠ some h.src → d.state = .active ∨ d.state = .handingOver →
        exec (.handoverOpen h [n]) s = .next (s.refuses h typHandoverOpen n 0 .notOwner)
          ∧ exec (.handoverAbort h [n]) s = .next (s.refuses h typHandoverAbort n 0 .notOwner))
      ∧ (d.state ≠ .active → d.state ≠ .handingOver →
        exec (.handoverOpen h [n]) s = .next (s.refuses h typHandoverOpen n 0 .state)
          ∧ exec (.handoverAbort h [n]) s = .next (s.refuses h typHandoverAbort n 0 .state))

/-- ITEM_CONFIRM from the owner during a handover sets the item's quantities, its reason where something was refused, and its clamped receipt temperature, and sets the idle deadline afresh; it is refused with STATE, NOT_OWNER, BAD_ITEM or OVER_COUNT, in that order (R131). -/
def Obligations.ItemConfirmSetsItem : Prop :=
  ∀ (s : State) (h : Hdr) (n i a1 a0 r1 r0 why t1 t0 : Byte) (d : Drop) (acc ref : Nat), s.asks h n d →
    acc = a1.toNat * 256 + a0.toNat → ref = r1.toNat * 256 + r0.toNat →
    (d.state ≠ .handingOver →
        exec (.itemConfirm h [n, i, a1, a0, r1, r0, why, t1, t0]) s = .next (s.refuses h typItemConfirm n i .state))
      ∧ (d.state = .handingOver → d.owner ≠ some h.src →
        exec (.itemConfirm h [n, i, a1, a0, r1, r0, why, t1, t0]) s = .next (s.refuses h typItemConfirm n i .notOwner))
      ∧ (d.state = .handingOver → d.owner = some h.src → d.items.length ≤ i.toNat →
        exec (.itemConfirm h [n, i, a1, a0, r1, r0, why, t1, t0]) s = .next (s.refuses h typItemConfirm n i .badItem))
      ∧ ∀ it, d.state = .handingOver → d.owner = some h.src → d.items[i.toNat]? = some it →
        (it.planned < acc + ref →
          exec (.itemConfirm h [n, i, a1, a0, r1, r0, why, t1, t0]) s = .next (s.refuses h typItemConfirm n i .overCount))
        ∧ (acc + ref ≤ it.planned →
          exec (.itemConfirm h [n, i, a1, a0, r1, r0, why, t1, t0]) s = .next (s.accepts h typItemConfirm n i fun s1 =>
            s1.withStop d.number
              (fun x => { x with items := x.items.modify i.toNat fun y =>
                { y with
                  accepted := acc
                  refused := ref
                  reason := if ref = 0 then none
                    else some (if why = 1 then RefusalReason.temperature else if why = 2 then .damaged
                      else if why = 3 then .wrongProduct else .other)
                  receipt := if t1 = 0x80 ∧ t0 = 0x00 then none else some (max (-880) (min (int16 t1 t0) 1200)) } })
              (fun x => { x with idleDeadline := some (s.now + s.config.idleTimeout) })))

/-- HANDOVER_CLOSE from the owner during a handover stores the digest and the time, fixes the outcome from the items, clears the idle deadline, sets the departure deadline and makes the drop HANDED_OVER; a repeat is accepted and changes nothing (R132). -/
def Obligations.HandoverCloseFixesOutcome : Prop :=
  ∀ (s : State) (h : Hdr) (n : Byte) (digest : List Byte) (d : Drop), s.asks h n d → digest.length = 8 →
    (d.state = .handingOver → d.owner = some h.src →
        exec (.handoverClose h (n :: digest)) s = .next (s.accepts h typHandoverClose n 0 fun s1 =>
          s1.withStop d.number (fun x => { x with state := .handedOver }) (fun x =>
            { x with
              digest := some (BitVec.ofNat 64 (beNat digest))
              handoverClose := some s.now
              outcome := some (
                if ∀ i ∈ d.items, i.accepted = i.planned then StopOutcome.delivered
                else if ∀ i ∈ d.items, i.accepted = 0 then .refused
                else .partlyDelivered)
              idleDeadline := none
              departDeadline := some (s.now + s.config.departTimeout) })))
      ∧ (d.state = .handedOver → d.owner = some h.src →
        exec (.handoverClose h (n :: digest)) s = .next (s.accepts h typHandoverClose n 0 id))
      ∧ (d.state = .handingOver ∨ d.state = .handedOver → d.owner ≠ some h.src →
        exec (.handoverClose h (n :: digest)) s = .next (s.refuses h typHandoverClose n 0 .notOwner))
      ∧ (d.state ≠ .handingOver → d.state ≠ .handedOver →
        exec (.handoverClose h (n :: digest)) s = .next (s.refuses h typHandoverClose n 0 .state))

/-- STOP_DEPART from the owner closes the stop of an ACTIVE or HANDED_OVER drop now: its context takes the end time and keeps its outcome, or takes ABANDONED with STOP_ABANDONED raised, and the drop is SETTLING. A repeat after departure is accepted; during a handover it is refused (R134, R136). -/
def Obligations.StopDepartClosesStop : Prop :=
  ∀ (s : State) (h : Hdr) (n : Byte) (d : Drop), s.asks h n d →
    (∀ x : Context, s.closesPlainly d.number x → d.owner = some h.src →
        (d.state = .handedOver → x.outcome ≠ none →
          exec (.stopDepart h [n]) s = .next (s.accepts h typStopDepart n 0 fun s1 =>
            s1.withStop d.number closeDrop (endedAt s.now)))
        ∧ (d.state = .active → x.outcome = none →
          exec (.stopDepart h [n]) s = .next (s.accepts h typStopDepart n 0 fun s1 =>
            raise .stopAbandoned (.drop d.number) (some (s.now - x.arrival : Nat))
              { s1.withStop d.number closeDrop (endedAt s.now) with
                stopCounts := { s1.stopCounts with abandoned := satInc max32 s1.stopCounts.abandoned } })))
      ∧ (d.state = .settling ∨ (∃ o, d.state = .final o) →
        (d.owner = some h.src → exec (.stopDepart h [n]) s = .next (s.accepts h typStopDepart n 0 id))
          ∧ (d.owner ≠ some h.src → exec (.stopDepart h [n]) s = .next (s.refuses h typStopDepart n 0 .state)))
      ∧ (d.state = .handingOver →
        exec (.stopDepart h [n]) s
          = .next (s.refuses h typStopDepart n 0 (if d.owner = some h.src then .state else .notOwner)))
      ∧ (d.state = .active ∨ d.state = .handedOver → d.owner ≠ some h.src →
        exec (.stopDepart h [n]) s = .next (s.refuses h typStopDepart n 0 .notOwner))
      ∧ (d.state = .planned → exec (.stopDepart h [n]) s = .next (s.refuses h typStopDepart n 0 .state))

/-- A claim about a SETTLING drop, lodged from a terminal or the trunk in either form, reserves the lowest FREE slot and joins the queue, WAITING; the terminal is answered ACCEPTED and the trunk DONE with the tag and the claims ahead. With no place or no slot it is turned away. A claim whose record is at hand is judged at once, by the verdict lines; behind a WAITING head it is held, and in an empty queue it is released: its CLAIM_VERDICT record is filled, and it is answered JUDGED. The checks of R166 and R167 refuse in their order, and change nothing but counts (R36, R139, R148, R154, R165 to R168, R171 to R177; the one-byte number of claims ahead is log entry 11, BUSY's fourth byte 29, the drop named to a refused lodging 20). -/
def Obligations.ClaimsAreLodged : Prop :=
  (∀ (s : State) (payload : List Byte) (o : LodgeOps) (n : Nat) (d : Drop),
    parseLodge payload = some o → o.reference = .drop n → 1 ≤ n → n ≤ 64 → s.findDrop n = some d → d.state = .settling →
    selectorInRange o.selector = true → s.store.lockout = false →
    (∀ (h : Hdr) (e : Station), s.hears h e → e.binding = .terminal → s.route.state ≠ .noRoute →
      (∀ i, s.firstFree i → s.claims.queue.length < 8 → (∀ k, s.claims.queue.head? = some k → k.judged = none) →
        ∃ t, exec (.terminalClaimLodge h payload) s = .next t
          ∧ t.claims = { queue := s.claims.queue ++ [{ tag := o.tag, port := .field, station := h.src, reference := .drop n,
                                                       resolved := none, selector := o.selector, kind := o.kind, lodged := s.now,
                                                       judged := none, reservation := i }]
                         counts := { s.claims.counts with lodged := satInc max32 s.claims.counts.lodged } }
          ∧ t.slot i = .reserved ∧ (∀ j, j ≠ i → t.slot j = s.slot j)
          ∧ (s.ports.field.replies.length < 4 →
              t.ports.field.replies = s.ports.field.replies
                ++ [originate h.src typTerminalReply [typClaimLodge, BitVec.ofNat 8 n, 0, 0, 0xFF, dropStateCode .settling]])
          ∧ t.drops = s.drops ∧ t.contexts = s.contexts ∧ t.comps = s.comps ∧ t.route = s.route)
      ∧ ((8 ≤ s.claims.queue.length ∨ ∀ j, (s.slot j).isFree = false) →
        exec (.terminalClaimLodge h payload) s = .next
          (offerReply .field
            (originate h.src typTerminalReply [typClaimLodge, BitVec.ofNat 8 n, 0, 1, 0xFF, dropStateCode .settling])
            { s.heard h with claims := { s.claims with counts :=
                { s.claims.counts with turnedAway := satInc max32 s.claims.counts.turnedAway } } })))
    ∧ (∀ (m : CmdHdr) (asFrame : Bool), s.takes m →
      (∀ i, s.firstFree i → s.claims.queue.length < 8 → (∀ k, s.claims.queue.head? = some k → k.judged = none) →
        ∃ t, exec (.claimLodge asFrame m payload) s = .next t
          ∧ t.claims = { queue := s.claims.queue ++ [{ tag := o.tag, port := .trunk, station := m.src, reference := .drop n,
                                                       resolved := none, selector := o.selector, kind := o.kind, lodged := s.now,
                                                       judged := none, reservation := i }]
                         counts := { s.claims.counts with lodged := satInc max32 s.claims.counts.lodged } }
          ∧ t.slot i = .reserved ∧ (∀ j, j ≠ i → t.slot j = s.slot j)
          ∧ t.ports.trunk.replies = s.ports.trunk.replies
              ++ [originate m.src typMgmtReply
                    ([cmdClaimLodge, m.seq, 0, 0] ++ beBytes 2 o.tag ++ beBytes 1 s.claims.queue.length)]
          ∧ t.drops = s.drops ∧ t.contexts = s.contexts ∧ t.comps = s.comps ∧ t.route = s.route)
      ∧ ((8 ≤ s.claims.queue.length ∨ ∀ j, (s.slot j).isFree = false) →
        exec (.claimLodge asFrame m payload) s = .next
          (State.replied { s with claims := { s.claims with counts :=
              { s.claims.counts with turnedAway := satInc max32 s.claims.counts.turnedAway } } }
            m typMgmtReply [cmdClaimLodge, m.seq, 1, Config.busyFourthByte] countBusy))))
    ∧ (∀ (s : State) (p : Port) (src : Byte) (o : LodgeOps) (c : Instr) (reply : QFrame) (r : Nat) (j : Judgement)
        (rest : List Bool) (i : Fin 256) (k : Claim),
      s.lodges p src o c reply → s.atHand o.reference r → s.firstFree i → s.judgedAs o.selector r j s.array.script rest →
      s.claims.queue.length < 8 →
      k = { tag := o.tag, port := p, station := src, reference := o.reference, resolved := some r, selector := o.selector
            kind := o.kind, lodged := s.now, judged := some j, reservation := i } →
      (∀ q qs, s.claims.queue = q :: qs → q.judged = none →
          ∃ t, exec c s = .next t
            ∧ t.claims.queue = s.claims.queue ++ [k] ∧ t.slot i = .reserved ∧ (∀ l, l ≠ i → t.slot l = s.slot l)
            ∧ t.store.fillList = s.store.fillList
            ∧ (s.replyPlacesUsed p < 4 → (t.port p).replies = (s.port p).replies ++ [reply]))
        ∧ (∀ reads, s.claims.queue = [] → rest = false :: reads →
          ∃ t h, exec c s = .next t
            ∧ t.claims.queue = [] ∧ t.claims.counts.released = satInc max32 s.claims.counts.released
            ∧ t.claims.counts.supported = j.entries.foldl
                (fun n v => if v.verdict = .supported then satInc max32 n else n) s.claims.counts.supported
            ∧ t.slot i = .filled h (.claimVerdict
                { tag := o.tag, port := p, station := src, reference := o.reference, resolved := some r
                  selector := o.selector, kind := o.kind, entries := j.entries })
            ∧ h.number = s.store.nextNumber ∧ (∀ l, l ≠ i → t.slot l = s.slot l)
            ∧ t.store.fillList = s.store.fillList ++ [i]
            ∧ (s.replyPlacesUsed p + 1 + (claimAnswers k j s.store.nextNumber).length ≤ 4 →
                (t.port p).replies = (s.port p).replies ++ [reply] ++ claimAnswers k j s.store.nextNumber)))
    ∧ (∀ (i : Item) (k : ProductClass) (x : Snapshot),
      (i.accepted = 0 → itemVerdict i (some k) x = .notApplicable ∧ itemVerdict i none x = .notApplicable)
        ∧ (0 < i.accepted → itemVerdict i none x = .indeterminate)
        ∧ (0 < i.accepted → k.budget * 3840 ≤ x.e ∨ k.shockSensitive = true ∧ 1 ≤ x.severeCount →
          itemVerdict i (some k) x = .supported)
        ∧ (0 < i.accepted → x.e < k.budget * 3840 → k.shockSensitive = false ∨ x.severeCount = 0 →
          (∀ T, i.receipt = some T → itemVerdict i (some k) x = if k.receiptLimit < T then .supported else .refuted)
          ∧ (i.receipt = none → itemVerdict i (some k) x
              = if k.gapTolerance * 4 ≤ x.gap ∨ 1 ≤ x.lateWarm then .indeterminate else .refuted)))
    ∧ (∀ (s : State) (h : Hdr) (e : Station) (payload : List Byte), s.hears h e → payload.length ≤ 240 →
      (e.binding ≠ .terminal → exec (.terminalClaimLodge h payload) s = .next (offerReply .field
          (originate h.src typTerminalReply (termReplyPayload typClaimLodge (claimDropByte (lodgeRef payload)) 0
            (.refused .notTerminal) (s.claimDropState (lodgeRef payload)))) (s.heard h)))
        ∧ (e.binding = .terminal →
          (s.store.lockout = true → exec (.terminalClaimLodge h payload) s = .next (s.refusesLodging h payload .lockout))
          ∧ (s.store.lockout = false → parseLodge payload = none →
            exec (.terminalClaimLodge h payload) s = .next (s.refusesLodging h payload .state))
          ∧ (∀ o, s.store.lockout = false → parseLodge payload = some o →
            (s.route.state = .noRoute → exec (.terminalClaimLodge h payload) s = .next (s.refusesLodging h payload .noRoute))
            ∧ (s.route.state ≠ .noRoute →
              (o.reference = .record 0 ∨ (∃ n, o.reference = .drop n ∧ (n = 0 ∨ 64 < n ∨ s.findDrop n = none)) →
                exec (.terminalClaimLodge h payload) s = .next (s.refusesLodging h payload .noDrop))
              ∧ (o.reference ≠ .record 0 → (∀ n, o.reference = .drop n → 1 ≤ n ∧ n ≤ 64 ∧ s.findDrop n ≠ none) →
                ((∃ n, o.selector = some n ∧ 31 < n) →
                  exec (.terminalClaimLodge h payload) s = .next (s.refusesLodging h payload .badItem))
                ∧ ((∀ n, o.selector = some n → n ≤ 31) →
                  (∃ n d, o.reference = .drop n ∧ s.findDrop n = some d ∧ d.state ≠ .settling ∧ ∀ x, d.state ≠ .final x) →
                  exec (.terminalClaimLodge h payload) s = .next (s.refusesLodging h payload .state)))))))
    ∧ (∀ (s : State) (m : CmdHdr) (asFrame : Bool) (payload : List Byte) (r : MgmtReason),
      s.serves m → payload.length ≤ 239 →
      (parseLodge payload = none ∧ r = .malformed
        ∨ ∃ o, parseLodge payload = some o ∧
          ((lodgeInRange o = false ∧ r = .outOfRange)
            ∨ (lodgeInRange o = true ∧ ∃ n, o.reference = .drop n ∧
              ((s.findDrop n = none ∧ r = .noEntry)
                ∨ ∃ d, s.findDrop n = some d ∧ d.state ≠ .settling ∧ (∀ x, d.state ≠ .final x) ∧ r = .state)))) →
      exec (.claimLodge asFrame m payload) s = .next
        (State.refusedBy { s with claims := { s.claims with counts :=
          { s.claims.counts with refused := satInc max32 s.claims.counts.refused } } } cmdClaimLodge m r))

/-! ### Commands that write tables and settings -/

/-- STATION_WRITE enters a station, fresh or rewritten, and STATION_CLEAR removes one; every other entry stays, and so does everything but the Station Table and, where the binding of a contact is undone, its live opening, which ends. Each is refused by the first of its checks that fails, with nothing done (R22 to R26, R93). -/
def Obligations.StationWritesAndClears : Prop :=
  (∀ (s : State) (m : CmdHdr) (ops : List Byte) (a : Byte) (k : StationKindOps) (b : Binding) (ov : Option Byte),
      s.serves m → ops.length ≤ 239 → parseStationWrite ops = some (a, k, ov) → bindingOf k = some b → stationAddr a = true →
      s.bindingLocked (s.findStation a) (some b) = false → s.bindingTaken a b = false → s.stationRoom a = true →
      ∃ t : State, exec (.stationWrite m ops) s = .next (t.doneBy cmdStationWrite m 0 [])
        ∧ (s.findStation a = none → t.findStation a = some { addr := a, binding := b, override := ov })
        ∧ (∀ e, s.findStation a = some e → sameBinding e.binding b = true →
            t.findStation a = some { e with binding := b, override := ov })
        ∧ (∀ e, s.findStation a = some e → sameBinding e.binding b = false →
            t.findStation a = some { addr := a, binding := b, override := ov, seqSeen := e.seqSeen, lastSeq := e.lastSeq })
        ∧ (∀ x, x ≠ a → t.findStation x = s.findStation x)
        ∧ (∀ e c p, s.findStation a = some e → e.binding = .door c p → sameBinding e.binding b = false →
            t.comps = (s.updDoor c p fun x => { x with opening := none, deadline := none }).comps)
        ∧ ((∀ e c p, s.findStation a = some e → e.binding = .door c p → sameBinding e.binding b = true) → t.comps = s.comps)
        ∧ t = { s with comps := t.comps, stations := { s.stations with entries := t.stations.entries } })
    ∧ (∀ (s : State) (m : CmdHdr) (a : Byte) (e : Station),
      s.serves m → stationAddr a = true → s.findStation a = some e → s.bindingLocked (some e) none = false →
      ∃ t : State, exec (.stationClear m [a]) s = .next (t.doneBy cmdStationClear m 0 [])
        ∧ t.findStation a = none ∧ (∀ x, x ≠ a → t.findStation x = s.findStation x)
        ∧ (∀ c p, e.binding = .door c p →
            t.comps = (s.updDoor c p fun x => { x with opening := none, deadline := none }).comps)
        ∧ ((∀ c p, e.binding ≠ .door c p) → t.comps = s.comps)
        ∧ t = { s with comps := t.comps, stations := { s.stations with entries := t.stations.entries } })
    ∧ (∀ (s : State) (m : CmdHdr) (ops : List Byte), s.serves m → ops.length ≤ 239 →
      (parseStationWrite ops = none → exec (.stationWrite m ops) s = .next (s.refusedBy cmdStationWrite m .malformed))
        ∧ (∀ a k ov, parseStationWrite ops = some (a, k, ov) → stationAddr a = false ∨ bindingOf k = none →
          exec (.stationWrite m ops) s = .next (s.refusedBy cmdStationWrite m .outOfRange))
        ∧ (∀ a k ov b, parseStationWrite ops = some (a, k, ov) → bindingOf k = some b → stationAddr a = true →
          ((∃ e, s.findStation a = some e ∧ s.route.state ≠ .noRoute ∧ bindsPlace e.binding = true
              ∧ sameBinding e.binding b = false) →
            exec (.stationWrite m ops) s = .next (s.refusedBy cmdStationWrite m .lockedOnRoute))
          ∧ (s.bindingLocked (s.findStation a) (some b) = false →
            ((∃ e ∈ s.stations.entries, e.addr ≠ a ∧ bindsPlace b = true ∧ sameBinding e.binding b = true) →
              exec (.stationWrite m ops) s = .next (s.refusedBy cmdStationWrite m .conflict))
            ∧ (s.bindingTaken a b = false → s.findStation a = none → 48 ≤ s.stations.entries.length →
              exec (.stationWrite m ops) s = .next (s.refusedBy cmdStationWrite m .noRoom)))))
    ∧ (∀ (s : State) (m : CmdHdr), s.serves m →
      (∀ ops : List Byte, ops.length ≠ 1 → ops.length ≤ 239 →
          exec (.stationClear m ops) s = .next (s.refusedBy cmdStationClear m .malformed))
        ∧ ∀ a : Byte,
          (a = 0 ∨ 0xFD < a.toNat → exec (.stationClear m [a]) s = .next (s.refusedBy cmdStationClear m .outOfRange))
          ∧ (1 ≤ a.toNat → a.toNat ≤ 0xFD →
            (s.findStation a = none → exec (.stationClear m [a]) s = .next (s.refusedBy cmdStationClear m .noEntry))
            ∧ (∀ e, s.findStation a = some e → s.route.state ≠ .noRoute → bindsPlace e.binding = true →
              exec (.stationClear m [a]) s = .next (s.refusedBy cmdStationClear m .lockedOnRoute))))

/-- COMPARTMENT_WRITE and CLASS_WRITE replace one whole entry off a route, and are refused with LOCKED_ON_ROUTE on one; a dependency of the manifest refuses a disabling or an UNDEFINED with CONFLICT (R105 to R108). -/
def Obligations.RouteTablesAreWrittenOffRoute : Prop :=
  (∀ (s : State) (m : CmdHdr) (ops : List Byte) (c : Fin 4) (en : Byte) (q : Profile),
      s.serves m → parseProfile ops = some (c.val, en, q) → en = 0 ∨ en = 1 → profileValid q = true →
      (s.route.state ≠ .noRoute →
          exec (.compartmentWrite m ops) s = .next (s.refusedBy cmdCompartmentWrite m .lockedOnRoute))
        ∧ (s.route.state = .noRoute → q.enabled = false → (∃ d ∈ s.drops, d.mask.getLsbD c.val = true) →
          exec (.compartmentWrite m ops) s = .next (s.refusedBy cmdCompartmentWrite m .conflict))
        ∧ (s.route.state = .noRoute → (q.enabled = true ∨ ∀ d ∈ s.drops, d.mask.getLsbD c.val = false) →
          exec (.compartmentWrite m ops) s
            = .next ((s.setComp c { s.comp c with profile := q }).doneBy cmdCompartmentWrite m 0 [])))
    ∧ (∀ (s : State) (m : CmdHdr) (ops : List Byte) (i : Fin 16) (entry : Option (ProductClass × Byte)),
      s.serves m → parseClass ops = some (i.val, entry) → (∀ k sh, entry = some (k, sh) → classValid k sh = true) →
      (s.route.state ≠ .noRoute → exec (.classWrite m ops) s = .next (s.refusedBy cmdClassWrite m .lockedOnRoute))
        ∧ (s.route.state = .noRoute → entry = none → s.classNamed i = true →
          exec (.classWrite m ops) s = .next (s.refusedBy cmdClassWrite m .conflict))
        ∧ (s.route.state = .noRoute → (entry ≠ none ∨ s.classNamed i = false) →
          exec (.classWrite m ops) s
            = .next (State.doneBy { s with classes := s.classes.set i.val (entry.map (·.1)) } cmdClassWrite m 0 [])))

/-- FRAME_CLASS_WRITE replaces the Class Table entries from the first type code onward, one per class byte, in every route state; a payload without both, a count outside 1..128 or another number of class bytes is MALFORMED, and a run past the end of the table OUT_OF_RANGE. A frame offered afterwards is tested against the table as it then stands (R193). -/
def Obligations.FrameClassWriteReplacesRun : Prop :=
  ∀ (s : State) (m : CmdHdr) (first count : Byte) (bytes : List Byte), s.serves m → bytes.length ≤ 237 →
    (∀ ops : List Byte, ops.length < 2 → exec (.frameClassWrite m ops) s = .next (s.refusedBy cmdFrameClassWrite m .malformed))
      ∧ ((count = 0 ∨ 128 < count.toNat ∨ bytes.length ≠ count.toNat) →
        exec (.frameClassWrite m (first :: count :: bytes)) s = .next (s.refusedBy cmdFrameClassWrite m .malformed))
      ∧ (1 ≤ count.toNat → count.toNat ≤ 128 → bytes.length = count.toNat → 256 < first.toNat + count.toNat →
        exec (.frameClassWrite m (first :: count :: bytes)) s = .next (s.refusedBy cmdFrameClassWrite m .outOfRange))
      ∧ (1 ≤ count.toNat → count.toNat ≤ 128 → bytes.length = count.toNat → first.toNat + count.toNat ≤ 256 →
        ∃ table : Vector Byte 256,
          exec (.frameClassWrite m (first :: count :: bytes)) s
              = .next (State.doneBy { s with pass := { s.pass with classTable := table } } cmdFrameClassWrite m 0 [])
            ∧ ∀ i : Fin 256,
              (first.toNat ≤ i.val ∧ i.val < first.toNat + count.toNat → some table[i] = bytes[i.val - first.toNat]?)
              ∧ (¬ (first.toNat ≤ i.val ∧ i.val < first.toNat + count.toNat) → table[i] = s.pass.classTable[i]))
      ∧ ∀ (t : State) (f : Frame),
        (t.passes .down f = true ↔ t.pass.classTable[f.typ.toFin] &&& t.maskInForce .down ≠ 0)
          ∧ ((∀ e, t.findStation f.src = some e → e.override = none) →
            (t.passes .up f = true ↔ t.pass.classTable[f.typ.toFin] &&& t.maskInForce .up ≠ 0))

/-- PASS_MASK_SET gives the named mask the value, in every route state; a wrong length or a name outside the four is MALFORMED. A frame offered afterwards meets the mask that the route state selects, and a mask of 0 holds every frame back (R194). -/
def Obligations.PassMaskSetReplacesMask : Prop :=
  ∀ (s : State) (m : CmdHdr) (v : Byte), s.serves m →
    exec (.passMaskSet m [0, v]) s = .next (State.doneBy { s with pass := { s.pass with upRoute := v } } cmdPassMaskSet m 0 [])
      ∧ exec (.passMaskSet m [1, v]) s
          = .next (State.doneBy { s with pass := { s.pass with upIdle := v } } cmdPassMaskSet m 0 [])
      ∧ exec (.passMaskSet m [2, v]) s
          = .next (State.doneBy { s with pass := { s.pass with downRoute := v } } cmdPassMaskSet m 0 [])
      ∧ exec (.passMaskSet m [3, v]) s
          = .next (State.doneBy { s with pass := { s.pass with downIdle := v } } cmdPassMaskSet m 0 [])
      ∧ (∀ name : Byte, 3 < name.toNat →
          exec (.passMaskSet m [name, v]) s = .next (s.refusedBy cmdPassMaskSet m .malformed))
      ∧ (∀ ops : List Byte, ops.length ≠ 2 → ops.length ≤ 239 →
          exec (.passMaskSet m ops) s = .next (s.refusedBy cmdPassMaskSet m .malformed))
      ∧ ∀ (t : State) (f : Frame) (k : Marks), t.store.lockout = false →
        offerUp k f t
            = (if t.classByte .up f &&& (if t.route.state = .noRoute then t.pass.upIdle else t.pass.upRoute) ≠ 0 then
                joinFifo .up (annotate k t f) t else holdBack .up t)
          ∧ offerDown f t
            = (if t.classByte .down f &&& (if t.route.state = .noRoute then t.pass.downIdle else t.pass.downRoute) ≠ 0 then
                joinFifo .down f t else holdBack .down t)

/-- ALERT_LEVEL_WRITE replaces the level of one code, and ALERT_MASK_SET the mask level, in every route state, and nothing else of the Alert Unit; a wrong length is MALFORMED, a code or level out of range OUT_OF_RANGE. A raise judged afterwards leads to a frame by the level and mask as they then stand (R195). -/
def Obligations.AlertSettingsAreReplaced : Prop :=
  ∀ (s : State) (m : CmdHdr), s.serves m →
    (∀ (i : Fin 21) (code level : Byte), code.toNat = i.val + 1 → level.toNat ≤ 7 →
        exec (.alertLevelWrite m [code, level]) s = .next
          (State.doneBy { s with alerts := { s.alerts with
              table := s.alerts.table.set i.val { s.alerts.table[i] with level := level.toNat } } } cmdAlertLevelWrite m 0 []))
      ∧ (∀ code level : Byte, code = 0 ∨ 21 < code.toNat ∨ 7 < level.toNat →
        exec (.alertLevelWrite m [code, level]) s = .next (s.refusedBy cmdAlertLevelWrite m .outOfRange))
      ∧ (∀ ops : List Byte, ops.length ≠ 2 → ops.length ≤ 239 →
        exec (.alertLevelWrite m ops) s = .next (s.refusedBy cmdAlertLevelWrite m .malformed))
      ∧ (∀ level : Byte, level.toNat ≤ 7 →
        exec (.alertMaskSet m [level]) s
          = .next (State.doneBy { s with alerts := { s.alerts with mask := level.toNat } } cmdAlertMaskSet m 0 []))
      ∧ (∀ level : Byte, 7 < level.toNat →
        exec (.alertMaskSet m [level]) s = .next (s.refusedBy cmdAlertMaskSet m .outOfRange))
      ∧ (∀ ops : List Byte, ops.length ≠ 1 → ops.length ≤ 239 →
        exec (.alertMaskSet m ops) s = .next (s.refusedBy cmdAlertMaskSet m .malformed))
      ∧ ∀ (t : State) (k : AlertCode) (subj : Subject) (v : Option Int),
        ((t.alertEntry k).level = 0 ∨ (t.alertEntry k).level ≤ t.alerts.mask ∧ (t.alertEntry k).level ≠ 7 →
            (raise k subj v t).ports = t.ports)
          ∧ ((t.alertEntry k).level ≠ 0 → t.alerts.mask < (t.alertEntry k).level ∨ (t.alertEntry k).level = 7 →
            (t.alertEntry k).lastFrame = none → t.ports.alertQueue.length < 8 →
            (raise k subj v t).ports = { t.ports with alertQueue := t.ports.alertQueue ++ [t.alertFrame k subj v] })

/-- CONFIG_WRITE clamps the values given into their ranges, lowers an arrival lead held above a new settle delay, and answers DONE with all five values, CLAMPED where something moved; on a route a change of settle delay or lead refuses it whole (R42, R124, R184, R196). -/
def Obligations.ConfigWriteClampsValues : Prop :=
  ∀ (s : State) (m : CmdHdr) (ops : List Byte) (o : ConfigOps) (new : Settings),
    s.serves m → ops.length ≤ 239 → parseConfig ops = some o →
    new.settleDelay = (match o.settleDelay with | some v => max 16 (min v 480) | none => s.config.settleDelay) →
    new.arrivalLead = (match o.arrivalLead, o.settleDelay with
      | some v, _ => min v new.settleDelay
      | none, some _ => min s.config.arrivalLead new.settleDelay
      | none, none => s.config.arrivalLead) →
    new.idleTimeout = (match o.idleTimeout with | some v => max 120 (min v 2400) | none => s.config.idleTimeout) →
    new.departTimeout = (match o.departTimeout with | some v => max 120 (min v 2400) | none => s.config.departTimeout) →
    new.alertHoldoff = (match o.alertHoldoff with | some v => min v 1200 | none => s.config.alertHoldoff) →
    (s.route.state ≠ .noRoute →
        (new.settleDelay ≠ s.config.settleDelay ∨ new.arrivalLead ≠ s.config.arrivalLead) →
        exec (.configWrite m ops) s = .next (s.refusedBy cmdConfigWrite m .lockedOnRoute))
      ∧ ((s.route.state = .noRoute
            ∨ new.settleDelay = s.config.settleDelay ∧ new.arrivalLead = s.config.arrivalLead) →
        ∃ mark : Byte,
          exec (.configWrite m ops) s = .next (State.doneBy { s with config := new } cmdConfigWrite m mark
              (beBytes 2 new.settleDelay ++ beBytes 2 new.arrivalLead ++ beBytes 2 new.idleTimeout
                ++ beBytes 2 new.departTimeout ++ beBytes 2 new.alertHoldoff))
            ∧ (mark = 0 ∨ mark = 1)
            ∧ (mark = 0 ↔ (∀ v, o.settleDelay = some v → v = new.settleDelay) ∧ (∀ v, o.arrivalLead = some v → v = new.arrivalLead)
                ∧ (∀ v, o.idleTimeout = some v → v = new.idleTimeout) ∧ (∀ v, o.departTimeout = some v → v = new.departTimeout)
                ∧ (∀ v, o.alertHoldoff = some v → v = new.alertHoldoff)
                ∧ (o.arrivalLead = none → s.config.arrivalLead ≤ new.arrivalLead)))

/-- TIME_SET makes part time the value and sets the time-set flag, and where it reaches no deadline it changes nothing else; a wrong length is MALFORMED, also in LOCKOUT, then LOCKOUT refuses it, then a route (R40, R41, R192). -/
def Obligations.TimeSetWritesPartTime : Prop :=
  ∀ (s : State) (m : CmdHdr), s.takes m →
    (∀ ops : List Byte, ops.length ≠ 4 → ops.length ≤ 239 →
        exec (.timeSet m ops) s = .next (s.refusedBy cmdTimeSet m .malformed))
      ∧ ∀ v3 v2 v1 v0 : Byte,
        (s.store.lockout = true → exec (.timeSet m [v3, v2, v1, v0]) s = .next (s.refusedBy cmdTimeSet m .lockout))
        ∧ (s.store.lockout = false → s.route.state ≠ .noRoute →
          exec (.timeSet m [v3, v2, v1, v0]) s = .next (s.refusedBy cmdTimeSet m .lockedOnRoute))
        ∧ (s.store.lockout = false → s.route.state = .noRoute →
          ∃ t, exec (.timeSet m [v3, v2, v1, v0]) s = .next t
            ∧ t.clock = { partTime := ((v3.toNat * 256 + v2.toNat) * 256 + v1.toNat) * 256 + v0.toNat, timeSet := true }
            ∧ ((∀ (c : Fin 4) (p : Fin 2) (d : Nat), (s.comp c).doors[p].deadline = some d → t.now < d) →
                (∀ r, s.store.recovery = some r → t.now < r.deadline) →
                t = State.doneBy { s with clock := t.clock } cmdTimeSet m 0 []))

/-! ### The manifest and the route -/

/-- MANIFEST_LOAD: a load that agrees with the tables enters a new drop PLANNED with a reservation on the lowest FREE slot, or replaces the loaded fields of a PLANNED one; part one is staged as sent, and part two is joined to it and judged, the staged part discarded. A load is refused by the first of the checks of R111 that it fails, and changes nothing else (R111, R112). -/
def Obligations.ManifestLoadsEnterDrop : Prop :=
  ∀ (s : State) (m : CmdHdr) (ops : List Byte) (l : StagedPart), s.serves m → ops.length ≤ 238 →
    (parseLoadOne ops = some l →
        exec (.manifestLoadPartOne m ops) s
          = .next (State.doneBy { s with route := { s.route with staged := some l } } cmdManifestLoad m markStaged []))
      ∧ (joinParts s.route.staged (parseLoadTwo ops) = none →
        exec (.manifestLoadPartTwo m ops) s
          = .next (State.refusedBy { s with route := { s.route with staged := none } } cmdManifestLoad m .malformed))
      ∧ (s.route.state ≠ .closing → l.items ≠ [] → loadInRange l = true → s.loadAgrees l = true →
        (∀ i, s.findDrop l.number = none → s.itemsHeld + l.items.length ≤ 512 → s.firstFree i →
          (parseLoadSingle ops = some l →
            ∃ t : State, exec (.manifestLoadSingle m ops) s = .next (t.doneBy cmdManifestLoad m 0 [])
              ∧ t.findDrop l.number = some
                  { number := l.number, site := l.site, mask := l.mask.setWidth 4, allowance := l.allowance * 4
                    items := l.items, reservation := some i }
              ∧ (∀ n, n ≠ l.number → t.findDrop n = s.findDrop n)
              ∧ t.slot i = .reserved ∧ (∀ j, j ≠ i → t.slot j = s.slot j) ∧ t.store.fillList = s.store.fillList
              ∧ t.comps = s.comps ∧ t.contexts = s.contexts ∧ t.route = s.route ∧ t.claims = s.claims)
          ∧ (joinParts s.route.staged (parseLoadTwo ops) = some l →
            ∃ t : State, exec (.manifestLoadPartTwo m ops) s = .next (t.doneBy cmdManifestLoad m 0 [])
              ∧ t.findDrop l.number = some
                  { number := l.number, site := l.site, mask := l.mask.setWidth 4, allowance := l.allowance * 4
                    items := l.items, reservation := some i }
              ∧ (∀ n, n ≠ l.number → t.findDrop n = s.findDrop n)
              ∧ t.slot i = .reserved ∧ (∀ j, j ≠ i → t.slot j = s.slot j) ∧ t.store.fillList = s.store.fillList
              ∧ t.comps = s.comps ∧ t.contexts = s.contexts ∧ t.route = { s.route with staged := none } ∧ t.claims = s.claims))
        ∧ (∀ d, s.findDrop l.number = some d → d.state = .planned → parseLoadSingle ops = some l →
          s.itemsHeld + l.items.length ≤ 512 →
          exec (.manifestLoadSingle m ops) s = .next
            (State.doneBy { s with drops := s.drops.map fun x =>
                if x.number = l.number then
                  { x with site := l.site, mask := l.mask.setWidth 4, allowance := l.allowance * 4, items := l.items }
                else x } cmdManifestLoad m 0 [])))
      ∧ (parseLoadSingle ops = none → exec (.manifestLoadSingle m ops) s = .next (s.refusedBy cmdManifestLoad m .malformed))
      ∧ (parseLoadOne ops = none → exec (.manifestLoadPartOne m ops) s = .next (s.refusedBy cmdManifestLoad m .malformed))
      ∧ ∀ r, s.refusesLoad l r →
        (parseLoadSingle ops = some l → exec (.manifestLoadSingle m ops) s = .next (s.refusedBy cmdManifestLoad m r))
        ∧ (joinParts s.route.staged (parseLoadTwo ops) = some l →
          exec (.manifestLoadPartTwo m ops) s
            = .next (State.refusedBy { s with route := { s.route with staged := none } } cmdManifestLoad m r))

/-- MANIFEST_DELETE, in every route state, removes a PLANNED drop and hands its reservation back, so that its items leave the pool; a missing drop number, one out of range, one not held, and a drop in another state are refused, in that order (R113). -/
def Obligations.ManifestDeleteRemovesDrop : Prop :=
  ∀ (s : State) (m : CmdHdr) (n : Byte), s.serves m →
    (∀ ops : List Byte, ops.length ≠ 1 → ops.length ≤ 239 →
        exec (.manifestDelete m ops) s = .next (s.refusedBy cmdManifestDelete m .malformed))
      ∧ (n = 0 ∨ 64 < n.toNat → exec (.manifestDelete m [n]) s = .next (s.refusedBy cmdManifestDelete m .outOfRange))
      ∧ (1 ≤ n.toNat → n.toNat ≤ 64 →
        (s.findDrop n.toNat = none → exec (.manifestDelete m [n]) s = .next (s.refusedBy cmdManifestDelete m .noEntry))
        ∧ ∀ d, s.findDrop n.toNat = some d →
          (d.state ≠ .planned → exec (.manifestDelete m [n]) s = .next (s.refusedBy cmdManifestDelete m .state))
          ∧ (∀ i, d.state = .planned → d.reservation = some i →
            exec (.manifestDelete m [n]) s = .next
              (State.doneBy { s.setSlot i .free with drops := s.drops.filter fun e => e.number ≠ n.toNat } cmdManifestDelete m 0 []))
          ∧ (s.drops.Pairwise (fun a b => a.number < b.number) →
            State.itemsHeld { s with drops := s.drops.filter fun e => e.number ≠ n.toNat } + d.items.length = s.itemsHeld))

/-- ROUTE_OPEN is refused, with nothing done, with MALFORMED for a payload of another length, STATE on a route or with part time not set, CONFLICT with no compartment enabled, and NO_SLOT with fewer than two FREE slots, in this order. With part time set, a compartment enabled, two FREE slots and a sound read-back: the route is OPEN with its id and open time and holds a reservation; every window is empty at the open time, an enabled compartment's account begins at zero on the fresh live readings of its probes, a disabled one's is empty; and the ROUTE_OPEN record is filled (R55, R67, R82, R83, R98, R114, R115, R152). -/
def Obligations.RouteOpenBeginsRoute : Prop :=
  (∀ (s : State) (m : CmdHdr), s.serves m →
      (∀ ops : List Byte, ops.length ≠ 4 → ops.length ≤ 239 →
          exec (.routeOpen m ops) s = .next (s.refusedBy cmdRouteOpen m .malformed))
        ∧ ∀ ops : List Byte, ops.length = 4 →
          (s.route.state ≠ .noRoute ∨ s.clock.timeSet = false →
              exec (.routeOpen m ops) s = .next (s.refusedBy cmdRouteOpen m .state))
            ∧ (s.route.state = .noRoute → s.clock.timeSet = true →
              ((∀ c, (s.comp c).profile.enabled = false) →
                  exec (.routeOpen m ops) s = .next (s.refusedBy cmdRouteOpen m .conflict))
                ∧ ((∃ c, (s.comp c).profile.enabled = true) → s.freeCount < 2 →
                  exec (.routeOpen m ops) s = .next (s.refusedBy cmdRouteOpen m .noSlot))))
  ∧ ∀ (s : State) (m : CmdHdr) (i3 i2 i1 i0 : Byte) (reads : List Bool) (i j : Fin 256),
    s.serves m → s.route.state = .noRoute → s.clock.timeSet = true → (∃ c, (s.comp c).profile.enabled = true) →
    s.firstFree i → i < j → (s.slot j).isFree = true → (∀ k, i < k → k < j → (s.slot k).isFree = false) →
    s.array.script = false :: reads →
    ∃ t h b, exec (.routeOpen m [i3, i2, i1, i0]) s = .next t
      ∧ t.route.state = .opened ∧ t.route.id = ((i3.toNat * 256 + i2.toNat) * 256 + i1.toNat) * 256 + i0.toNat
      ∧ t.route.openTime = s.now ∧ t.route.closeTime = none ∧ t.route.closeReason = none ∧ t.route.reservation = some i
      ∧ t.slot i = .reserved ∧ t.slot j = .filled h (.routeOpen b) ∧ h.number = s.store.nextNumber ∧ h.routeId = t.route.id
      ∧ b.openTime = s.now ∧ b.settings = s.config ∧ b.classes = s.classes
      ∧ t.store.fillList = s.store.fillList ++ [j] ∧ t.store.lockout = false
      ∧ (∀ c, (t.comp c).profile = (s.comp c).profile
          ∧ (t.comp c).window = { armed := (s.comp c).profile.enabled, committed := s.now }
          ∧ (t.comp c).totals = {}
          ∧ (t.comp c).account.e = 0 ∧ (t.comp c).account.p = 0 ∧ (t.comp c).account.h = 0 ∧ (t.comp c).account.gap = 0
          ∧ ((s.comp c).profile.enabled = false → (t.comp c).account = {})
          ∧ ((s.comp c).profile.enabled = true →
              (∀ q : Fin 4, (t.comp c).account.readings[q] = s.seedReading c s.now q)
              ∧ (t.comp c).account.tg = governing (s.comp c).profile.freshness (t.comp c).account.readings s.now
              ∧ (t.comp c).account.thermal = (t.comp c).account.tg.map (classify (s.comp c).profile)))
      ∧ t.drops = s.drops ∧ t.contexts = s.contexts ∧ t.stations = s.stations ∧ t.classes = s.classes ∧ t.config = s.config
      ∧ t.claims = s.claims
      ∧ t.ports.trunk.replies = s.ports.trunk.replies ++ [originate m.src typMgmtReply [cmdRouteOpen, m.seq, 0, 0]]

/-- ROUTE_CLOSE takes an open route, with no handover in progress, to CLOSING with close time now, and answers with that time; a live stop closes at it, an ACTIVE one ABANDONED. It is refused with STATE off a route, in CLOSING and during a handover (R116, R136). -/
def Obligations.RouteCloseBeginsClosing : Prop :=
  ∀ (s : State) (m : CmdHdr), s.serves m →
    ((s.route.state ≠ .opened ∨ ∃ d ∈ s.drops, d.state = .handingOver) →
        exec (.routeClose m []) s = .next (s.refusedBy cmdRouteClose m .state))
      ∧ (s.route.state = .opened → (∀ d ∈ s.drops, d.state ≠ .handingOver) →
        (s.liveDrop = none →
          exec (.routeClose m []) s = .next
            (State.doneBy { s with route := { s.route with state := .closing, closeTime := some s.now } } cmdRouteClose m 0
              (beBytes 4 s.now)))
        ∧ (∀ (l : Drop) (x : Context), s.liveDrop = some l → s.closesPlainly l.number x →
          ∃ t, exec (.routeClose m []) s = .next t
            ∧ t.route = { s.route with state := .closing, closeTime := some s.now }
            ∧ t.drops = (s.drops.map fun y => if y.number = l.number then { y with state := .settling } else y)
            ∧ t.contexts = (s.contexts.map fun y => if y.drop = l.number then endedAt s.now y else y)
            ∧ t.comps = s.comps ∧ t.store = s.store ∧ t.claims = s.claims ∧ t.stations = s.stations
            ∧ t.ports.trunk.replies
                = s.ports.trunk.replies ++ [originate m.src typMgmtReply ([cmdRouteClose, m.seq, 0, 0] ++ beBytes 4 s.now)]))

/-! ### Queries, the Proof Store, resets and power -/

/-- A QUERY is answered DONE with the data of its subject, or refused, and changes nothing but the counts of the frame, the command and its answer, in every route state and in LOCKOUT. The data are those held when it is taken (R192, R197 to R199). -/
def Obligations.QueriesChangeNothing : Prop :=
  ∀ (s : State) (m : CmdHdr) (ops : List Byte), s.takes m → ops.length ≤ 238 →
    (∀ x ∈ queries m ops,
        (∀ data, x.2 s.admitted = .ok data → exec x.1 s = .next (s.doneBy cmdQuery m 0 data))
          ∧ (∀ w, x.2 s.admitted = .error w → exec x.1 s = .next (s.refusedBy cmdQuery m w)))
      ∧ (∀ page : Byte, page.toNat < 4 → ∃ data, queryPart [page] s.admitted = .ok data)
      ∧ (∀ n : Byte, n.toNat < 4 → ∃ data, queryCompartment [n] s.admitted = .ok data)
      ∧ (∀ n q : Byte, n.toNat < 4 → q.toNat < 2 → ∃ data, queryDoor [n, q] s.admitted = .ok data)
      ∧ queryStation [0] s.admitted
          = .ok (BitVec.ofNat 8 s.stations.entries.length :: s.stations.entries.map (·.addr))
      ∧ (∀ a : Byte, stationAddr a = true → (s.findStation a = none → queryStation [a] s.admitted = .error .noEntry)
          ∧ ∀ e, s.findStation a = some e → ∃ data, queryStation [a] s.admitted = .ok (a :: data))
      ∧ (∀ n first : Byte, 1 ≤ n.toNat → n.toNat ≤ 64 → first.toNat ≤ 31 →
          (s.findDrop n.toNat = none → queryDrop [n, first] s.admitted = .error .noEntry)
            ∧ ∀ d, s.findDrop n.toNat = some d → ∃ data, queryDrop [n, first] s.admitted = .ok (n :: data))
      ∧ (∃ data, queryStore [] s.admitted = .ok data)
      ∧ (∃ data, queryClaims [] s.admitted = .ok (BitVec.ofNat 8 s.claims.queue.length :: data))
      ∧ (∀ g : Byte, g.toNat < 7 → ∃ data, queryCounters [g] s.admitted = .ok data)

/-- PROOF_FETCH NEXT answers with the first record not yet fetched and makes its slot TAKEN, with the header of a CORRUPT one and marks it fetched, or EMPTY; by number it answers with the segment asked for and leaves the slot. A read that finds uncorrectable data makes the slot CORRUPT and begins a recovery, or enters LOCKOUT when one was under way (R156, R157, R159, R161; the segment index a CORRUPT record is answered with is left open, log entry 25). -/
def Obligations.ProofFetchReturnsRecord : Prop :=
  ∀ (s : State) (m : CmdHdr), s.takes m →
    ((∀ j ∈ s.store.fillList, unfetched (s.slot j) = false) →
        exec (.proofFetchNext m [0]) s = .next (s.doneBy cmdProofFetch m markEmpty []))
      ∧ (∀ g : Byte, g ≠ 0 → exec (.proofFetchNext m [g]) s = .next (s.refusedBy cmdProofFetch m .outOfRange))
      ∧ (∀ (before after : List (Fin 256)) (i : Fin 256) (h : RecordHeader) (reads : List Bool),
        s.store.fillList = before ++ i :: after → (∀ j ∈ before, unfetched (s.slot j) = false) →
        (∀ b, s.slot i = .filled h b → s.array.script = false :: reads →
          exec (.proofFetchNext m [0]) s = .next
            (State.recordBy { s.setSlot i (.taken h b) with array := { script := reads, count := s.array.count + 1 } } m
              (soundPayload m.seq h b 0)))
        ∧ (s.slot i = .corrupt h false →
          exec (.proofFetchNext m [0]) s
            = .next ((s.setSlot i (.corrupt h true)).recordBy m (corruptPayload m.seq h 0)))
        ∧ (∀ b, s.StoreSound → s.slot i = .filled h b → s.array.script = true :: reads → s.store.lockout = false →
          ∃ t, exec (.proofFetchNext m [0]) s = .next t
            ∧ t.slot i = .corrupt h true ∧ (∀ j, j ≠ i → s.slot j ≠ .reserved → t.slot j = s.slot j)
            ∧ t.store.fillList = s.store.fillList ∧ t.store.counts.faults = satInc max32 s.store.counts.faults
            ∧ (s.store.faultInProgress = false →
                t.store.lockout = false ∧ t.store.faultInProgress = true
                  ∧ t.store.recovery = some
                      { source := .fetch, time := s.now, slot := i, number := h.number, kind := h.kind
                        deadline := s.now + 4 }
                  ∧ t.claims = s.claims
                  ∧ t.ports.trunk.replies
                      = s.ports.trunk.replies ++ [originate m.src typProofRecord (corruptPayload m.seq h 0)])
            ∧ (s.store.faultInProgress = true →
                t.store.lockout = true ∧ t.store.recovery = none ∧ t.claims.queue = [])))
      ∧ (∀ (n1 n0 g : Byte) (i : Fin 256) (h : RecordHeader) (b : RecordBody) (reads : List Bool),
        s.findRecord (n1.toNat * 256 + n0.toNat) = some i → n1 ≠ 0 ∨ n0 ≠ 0 →
        s.slot i = .filled h b ∨ s.slot i = .taken h b → s.array.script = false :: reads →
        (g.toNat < segmentCount b → exec (.proofFetchNumber m [n1, n0, g]) s = .next
            (State.recordBy { s with array := { script := reads, count := s.array.count + 1 } } m (soundPayload m.seq h b g.toNat)))
        ∧ (segmentCount b ≤ g.toNat →
          exec (.proofFetchNumber m [n1, n0, g]) s = .next (s.refusedBy cmdProofFetch m .outOfRange)))
      ∧ (∀ g : Byte, exec (.proofFetchNumber m [0, 0, g]) s = .next (s.refusedBy cmdProofFetch m .outOfRange))
      ∧ (∀ n1 n0 g : Byte, n1 ≠ 0 ∨ n0 ≠ 0 → s.findRecord (n1.toNat * 256 + n0.toNat) = none →
        exec (.proofFetchNumber m [n1, n0, g]) s = .next (s.refusedBy cmdProofFetch m .noEntry))

/-- PROOF_RELEASE up to a record frees the slots of that record and of those filled before it that have been fetched, answers with their number, and leaves every other slot and the order of the rest; a record the store does not hold is refused with NO_ENTRY, number 0 with OUT_OF_RANGE, and a payload of another length with MALFORMED (R158; that the number of slots freed takes two bytes is the model's choice, log entry 11). -/
def Obligations.ProofReleaseFreesFetched : Prop :=
  ∀ (s : State) (m : CmdHdr) (n1 n0 : Byte), s.takes m →
    (∀ ops : List Byte, ops.length ≠ 2 → ops.length ≤ 239 →
        exec (.proofRelease m ops) s = .next (s.refusedBy cmdProofRelease m .malformed))
      ∧ (n1 = 0 → n0 = 0 → exec (.proofRelease m [n1, n0]) s = .next (s.refusedBy cmdProofRelease m .outOfRange))
      ∧ (n1 ≠ 0 ∨ n0 ≠ 0 → s.findRecord (n1.toNat * 256 + n0.toNat) = none →
        exec (.proofRelease m [n1, n0]) s = .next (s.refusedBy cmdProofRelease m .noEntry))
      ∧ ∀ (before after freed : List (Fin 256)) (i : Fin 256) (h : RecordHeader),
        s.store.fillList = before ++ i :: after → (s.slot i).header? = some h →
        h.number = n1.toNat * 256 + n0.toNat → h.number ≠ 0 →
        (∀ j ∈ before, ∀ h', (s.slot j).header? = some h' → h'.number ≠ h.number) →
        freed = (before ++ [i]).filter (fun j => releasable (s.slot j)) →
        ∃ t : State, exec (.proofRelease m [n1, n0]) s = .next (t.doneBy cmdProofRelease m 0 (beBytes 2 freed.length))
          ∧ (∀ j, (j ∈ freed → t.slot j = .free) ∧ (j ∉ freed → t.slot j = s.slot j))
          ∧ t.store.fillList = s.store.fillList.filter (fun j => j ∉ freed)
          ∧ t = { s with store := { s.store with
                    slots := t.store.slots
                    fillList := t.store.fillList
                    counts := { s.store.counts with released := satAdd max32 s.store.counts.released freed.length } } }

/-- MONITOR_RESET off a route zeroes the alert counts, aborts every claim and hands its reservation back, and answers with their number; on a route with no stop left to settle it ends the route with close reason RESET and fills its record. An operand is MALFORMED (R118, R178, R189, R200, R201; that the numbers of claims aborted and of drops completed take one byte is the model's choice, log entry 11). -/
def Obligations.MonitorResetEndsRoute : Prop :=
  ∀ (s : State) (m : CmdHdr), s.serves m →
    (∀ ops : List Byte, ops ≠ [] → ops.length ≤ 239 →
        exec (.monitorReset m ops) s = .next (s.refusedBy cmdMonitorReset m .malformed))
      ∧ (s.route.state = .noRoute →
        ∃ t, exec (.monitorReset m []) s = .next t
          ∧ (∀ i : Fin 21, t.alerts.table[i] = { s.alerts.table[i] with raises := 0, pending := 0 })
          ∧ t.claims.queue = [] ∧ (∀ k ∈ s.claims.queue, t.slot k.reservation = .free)
          ∧ (∀ i, (∀ k ∈ s.claims.queue, k.reservation ≠ i) → t.slot i = s.slot i)
          ∧ t.ports.trunk.replies.getLast?
              = some (originate m.src typMgmtReply ([cmdMonitorReset, m.seq, 0, 0] ++ beBytes 1 s.claims.queue.length))
          ∧ t.comps = s.comps ∧ t.stations = s.stations ∧ t.classes = s.classes ∧ t.route = s.route ∧ t.drops = s.drops
          ∧ t.contexts = s.contexts ∧ t.config = s.config ∧ t.clock = s.clock ∧ t.pass = s.pass
          ∧ t.store.fillList = s.store.fillList ∧ t.store.nextNumber = s.store.nextNumber)
      ∧ (∀ (i : Fin 256) (reads : List Bool), s.route.state = .opened → s.contexts = [] → s.liveDrop = none →
        s.route.reservation = some i → (∀ d ∈ s.drops, d.reservation ≠ some i) →
        (∀ k ∈ s.claims.queue, k.reservation ≠ i) → s.array.script = false :: reads →
        ∃ t h b, exec (.monitorReset m []) s = .next t
          ∧ t.route.state = .noRoute ∧ t.route.closeReason = some .reset ∧ t.route.closeTime = some s.now
          ∧ t.route.reservation = none ∧ t.drops = [] ∧ t.contexts = [] ∧ t.claims.queue = []
          ∧ (∀ c, (t.comp c).window.armed = false ∧ (t.comp c).window.events = [])
          ∧ t.slot i = .filled h (.routeClose b) ∧ h.number = s.store.nextNumber ∧ b.reason = .reset ∧ b.closeTime = s.now
          ∧ t.store.fillList = s.store.fillList ++ [i] ∧ t.store.lockout = false
          ∧ t.ports.trunk.replies.getLast?
              = some (originate m.src typMgmtReply ([cmdMonitorReset, m.seq, 0, 0]
                  ++ (beBytes 4 s.now ++ [closeReasonCode .reset] ++ beBytes 1 0 ++ beBytes 2 s.store.nextNumber))))

/-- FULL_CLEAR off a route, or in LOCKOUT, is a cold start whose one frame is its DONE reply; on a route it is refused. A start of a stopped device whose check word disagrees is a cold start. The queue of commands, the power inputs, the spare mapping and the reads of the array are what a cold start does not set (R164, R202, R203, R205, R208; log entries 1, 5, 8; that the Agent's counts are 0 still after the DONE of a FULL_CLEAR is log entry 19). -/
def Obligations.ColdStartsClearEverything : Prop :=
  (∀ (s : State) (m : CmdHdr), s.takes m →
      (∀ ops : List Byte, ops ≠ [] → ops.length ≤ 239 →
        exec (.fullClear m ops) s = .next (s.refusedBy cmdFullClear m .malformed))
      ∧ (s.route.state ≠ .noRoute → s.store.lockout = false →
        exec (.fullClear m []) s = .next (s.refusedBy cmdFullClear m .lockedOnRoute))
      ∧ (s.route.state = .noRoute ∨ s.store.lockout = true →
        exec (.fullClear m []) s = .next
          { State.reset with
            pending := s.pending
            power := { s.power with checkDiff := 0, downValid := false }
            store := { State.reset.store with spareMap := s.store.spareMap }
            array := s.array
            ports := { State.reset.ports with trunk := { State.reset.ports.trunk with
              replies := [originate m.src typMgmtReply [cmdFullClear, m.seq, 0, 0]] } } }))
    ∧ (∀ (s : State) (power : Power), s.checkAgrees = false → s.powered = false →
      power = { s.power with mainPower := true, resetAsserted := false, checkDiff := 0, downValid := false } →
      (s.power.resetAsserted = false → exec (.deviceStart .mainSupply) s = .next
          { State.reset with
            pending := s.pending, power := power, array := s.array
            store := { State.reset.store with spareMap := s.store.spareMap } })
      ∧ (s.power.mainPower = true → exec (.deviceStart .resetLine) s = .next
          { State.reset with
            pending := s.pending, power := power, array := s.array
            store := { State.reset.store with spareMap := s.store.spareMap } }))

/-- A device that loses main power, or whose reset line is asserted, writes the down time, marks it valid when it can, and cuts off the frames in transmission; stopped already, it keeps the down time it wrote. A loss of the backup supply leaves the check word other than the one computed (log entries 6, 7 and 41 say what the model makes of it), and an event of a device with power that changes retained state leaves it equal. A start of a stopped device with the word in agreement is a warm resume, which empties the queues, takes the link DOWN, forgets the live doors and their openings and the staged part, raises RESUMED with the outage, restarts a recovery, and keeps every other item and count; a supply that comes while another condition lacks, or is there already, starts nothing (R6, R20, R38, R103, R160, R182, R189, R204 to R207). -/
def Obligations.PowerLossAndWarmResume : Prop :=
  (∀ s : State, s.powered = true →
      (∀ marked : Bool, exec (.powerLoss (.mainSupply marked)) s = .next
        { s with
          power := { s.power with mainPower := false, downTime := s.now, downValid := marked }
          ports := { s.ports with
            field := { s.ports.field with sending := none }, trunk := { s.ports.trunk with sending := none } } })
      ∧ exec (.powerLoss .resetLine) s = .next
        { s with
          power := { s.power with resetAsserted := true, downTime := s.now, downValid := true }
          ports := { s.ports with
            field := { s.ports.field with sending := none }, trunk := { s.ports.trunk with sending := none } } })
    ∧ (∀ s : State, s.powered = false →
      (∀ marked : Bool, exec (.powerLoss (.mainSupply marked)) s = .next { s with power := { s.power with mainPower := false } })
        ∧ exec (.powerLoss .resetLine) s = .next { s with power := { s.power with resetAsserted := true } })
    ∧ (∀ s : State, ∃ d : BitVec 32, d ≠ 0
        ∧ exec .backupSupplyLoss s = .next { s with power := { s.power with checkDiff := d } })
    ∧ (∀ s : State, s.checkAgrees = true ↔ s.checkWord = crc32 (Config.retainedBytes s.retained))
    ∧ (∀ (c : Instr) (s t : State), s.powered = true → exec c s = .next t → t.retained ≠ s.retained → t.checkAgrees = true)
    ∧ (∀ s : State,
      (s.powered = true ∨ s.power.resetAsserted = true →
          exec (.deviceStart .mainSupply) s = .next { s with power := { s.power with mainPower := true } })
        ∧ (s.powered = true ∨ s.power.mainPower = false →
          exec (.deviceStart .resetLine) s = .next { s with power := { s.power with resetAsserted := false } }))
    ∧ (∀ (s : State) (cause : StartCause), s.checkAgrees = true → s.powered = false →
      (cause = .mainSupply ∧ s.power.resetAsserted = false ∨ cause = .resetLine ∧ s.power.mainPower = true) →
      ∃ t, exec (.deviceStart cause) s = .next t
        ∧ t.working = true ∧ t.power.downValid = false ∧ t.power.downTime = s.power.downTime
        ∧ t.ports.field.replies = [] ∧ t.ports.field.forward = [] ∧ t.ports.trunk.replies = [] ∧ t.ports.trunk.forward = []
        ∧ t.ports.reserved = 0 ∧ t.ports.linkUp = false ∧ t.ports.field.sending = none ∧ t.ports.trunk.sending = none
        ∧ t.ports.field.seqCounter = s.ports.field.seqCounter ∧ t.ports.trunk.seqCounter = s.ports.trunk.seqCounter
        ∧ t.ports.field.counts = s.ports.field.counts ∧ t.ports.trunk.counts = s.ports.trunk.counts
        ∧ t.ports.alertQueue = (if s.alertForms .resumed then
            [originate broadcastAddr typAlert (alertPayload .resumed (s.alertEntry .resumed).level .part s.now
              (if s.power.downValid then some (s.now - s.power.downTime : Nat) else none)
              (satInc max16 (s.alertEntry .resumed).pending))]
          else [])
        ∧ t.route = { s.route with staged := none }
        ∧ t.stations = { s.stations with entries := s.stations.entries.map fun e => { e with doorLive := none } }
        ∧ (∀ c, t.comp c = { s.comp c with doors := (s.comp c).doors.map fun x => { x with opening := none, deadline := none } })
        ∧ t.store = { s.store with recovery := s.store.recovery.map fun r => { r with deadline := s.now + 4 } }
        ∧ t.pass = s.pass ∧ t.clock = s.clock ∧ t.config = s.config ∧ t.classes = s.classes ∧ t.drops = s.drops
        ∧ t.contexts = s.contexts ∧ t.claims = s.claims
        ∧ t.ports.mgmtDiscards = s.ports.mgmtDiscards ∧ t.ports.alertDrops = s.ports.alertDrops
        ∧ t.stopCounts = s.stopCounts ∧ t.agent = s.agent ∧ t.array = s.array
        ∧ t.alerts.mask = s.alerts.mask
        ∧ (∀ k : Fin 21, k ≠ alertIndex .resumed → t.alerts.table[k] = s.alerts.table[k])
        ∧ t.alertEntry .resumed = (if s.alertForms .resumed = true then
            { s.alertEntry .resumed with
              raises := satInc max16 (s.alertEntry .resumed).raises, pending := 0, lastFrame := some s.now }
          else
            { s.alertEntry .resumed with
              raises := satInc max16 (s.alertEntry .resumed).raises
              pending := satInc max16 (s.alertEntry .resumed).pending }))

/-- In LOCKOUT every command but QUERY, PROOF_FETCH, PROOF_RELEASE and FULL_CLEAR is refused with reason LOCKOUT and changes nothing else, whatever its operands, except that TIME_SET is judged for MALFORMED first; a CLAIM_LODGE counts the refusal in the Claim Unit as well. A code that names no command is MALFORMED at all times. A command that finds no place of the trunk reply queue is discarded and counted; a reply that finds its queue full is dropped and counted, and what was done before it stays (R14, R15, R41, R166, R180, R190, R192; that an empty payload is answered MALFORMED, with a code byte left open, is the model's choice, log entry 30). -/
def Obligations.UnservedCommandsAreRefused : Prop :=
  (∀ (s : State) (m : CmdHdr) (ops : List Byte),
      s.working = true → sourceOk m.src = true → ops.length ≤ 238 →
      4 ≤ s.ports.trunk.replies.length + s.ports.reserved →
      ∀ c ∈ commands m ops, exec c s = .next { s with ports := { s.ports with
        mgmtDiscards := satInc max32 s.ports.mgmtDiscards
        trunk := { s.ports.trunk with
          counts := { s.ports.trunk.counts with received := satInc max32 s.ports.trunk.counts.received } } } })
  ∧ (∀ (s : State) (p : Port) (f : QFrame), 4 ≤ s.replyPlacesUsed p →
      offerReply p f s = s.updPortCounts p fun n => { n with replyDrops := satInc max32 n.replyDrops })
  ∧ ∀ (s : State) (m : CmdHdr), s.takes m →
    (s.store.lockout = true → ∀ ops : List Byte, ops.length ≤ 238 →
        (∀ x ∈ gatedCommands m ops, exec x.1 s = .next (s.refusedBy x.2 m .lockout))
          ∧ (ops.length = 4 → exec (.timeSet m ops) s = .next (s.refusedBy cmdTimeSet m .lockout))
          ∧ (ops.length ≠ 4 → exec (.timeSet m ops) s = .next (s.refusedBy cmdTimeSet m .malformed))
          ∧ ∀ asFrame : Bool, exec (.claimLodge asFrame m ops) s = .next
            (State.refusedBy { s with claims := { s.claims with counts :=
              { s.claims.counts with refused := satInc max32 s.claims.counts.refused } } } cmdClaimLodge m .lockout))
      ∧ (∀ (code : Byte) (ops : List Byte), ops.length ≤ 239 → code = 0 ∨ 0x14 < code.toNat →
        exec (.unknownCommandCode m (code :: ops)) s = .next (s.refusedBy code m .malformed))
      ∧ exec (.unknownCommandCode m []) s = .next (s.refusedBy Config.emptyPayloadCode m .malformed)

/-- A command that is refused has changed nothing: the one difference to the state before is its answer and the counts. A command that is not refused is answered DONE, or by a PROOF_RECORD, by the end of its event (R190, R191). -/
def Obligations.RefusedCommandsChangeNothing : Prop :=
  ∀ (s t : State) (m : CmdHdr) (ops : List Byte) (c : Instr) (code : Byte), s.takes m → ops.length ≤ 238 →
    ((c, code) ∈ gatedCommands m ops ∧ c ≠ .manifestLoadPartTwo m ops
      ∨ (c, code) ∈ [(Instr.timeSet m ops, cmdTimeSet), (.proofFetchNext m ops, cmdProofFetch),
          (.proofFetchNumber m ops, cmdProofFetch), (.proofRelease m ops, cmdProofRelease), (.fullClear m ops, cmdFullClear)]) →
    exec c s = .next t →
    (∃ r, t = s.refusedBy code m r)
      ∨ (∃ before marks data, t.ports.trunk.replies = before
            ++ [originate m.src typMgmtReply ([code, m.seq, 0, marks] ++ data)])
      ∨ (∃ before payload, t.ports.trunk.replies = before ++ [originate m.src typProofRecord payload])

end Statements
end

