-- ==== Sys2Proof/Laws/State.lean ====
section
/-! SUPPORT. What each update of a part of the state leaves and makes, field by field; and what reading a compartment, a slot or a port gives after it. -/
namespace Sys2Proof.Machine

/-! ### setComp -/

@[simp] theorem State.setComp_pending (s : State) (c : Fin 4) (v : Comp) : (s.setComp c v).pending = s.pending := rfl
@[simp] theorem State.setComp_power (s : State) (c : Fin 4) (v : Comp) : (s.setComp c v).power = s.power := rfl
@[simp] theorem State.setComp_clock (s : State) (c : Fin 4) (v : Comp) : (s.setComp c v).clock = s.clock := rfl
@[simp] theorem State.setComp_config (s : State) (c : Fin 4) (v : Comp) : (s.setComp c v).config = s.config := rfl
@[simp] theorem State.setComp_ports (s : State) (c : Fin 4) (v : Comp) : (s.setComp c v).ports = s.ports := rfl
@[simp] theorem State.setComp_pass (s : State) (c : Fin 4) (v : Comp) : (s.setComp c v).pass = s.pass := rfl
@[simp] theorem State.setComp_stations (s : State) (c : Fin 4) (v : Comp) : (s.setComp c v).stations = s.stations := rfl
@[simp] theorem State.setComp_comps (s : State) (c : Fin 4) (v : Comp) : (s.setComp c v).comps = s.comps.set c.val v := rfl
@[simp] theorem State.setComp_classes (s : State) (c : Fin 4) (v : Comp) : (s.setComp c v).classes = s.classes := rfl
@[simp] theorem State.setComp_route (s : State) (c : Fin 4) (v : Comp) : (s.setComp c v).route = s.route := rfl
@[simp] theorem State.setComp_drops (s : State) (c : Fin 4) (v : Comp) : (s.setComp c v).drops = s.drops := rfl
@[simp] theorem State.setComp_contexts (s : State) (c : Fin 4) (v : Comp) : (s.setComp c v).contexts = s.contexts := rfl
@[simp] theorem State.setComp_stopCounts (s : State) (c : Fin 4) (v : Comp) : (s.setComp c v).stopCounts = s.stopCounts := rfl
@[simp] theorem State.setComp_store (s : State) (c : Fin 4) (v : Comp) : (s.setComp c v).store = s.store := rfl
@[simp] theorem State.setComp_claims (s : State) (c : Fin 4) (v : Comp) : (s.setComp c v).claims = s.claims := rfl
@[simp] theorem State.setComp_alerts (s : State) (c : Fin 4) (v : Comp) : (s.setComp c v).alerts = s.alerts := rfl
@[simp] theorem State.setComp_agent (s : State) (c : Fin 4) (v : Comp) : (s.setComp c v).agent = s.agent := rfl
@[simp] theorem State.setComp_array (s : State) (c : Fin 4) (v : Comp) : (s.setComp c v).array = s.array := rfl
@[simp] theorem State.setComp_completions (s : State) (c : Fin 4) (v : Comp) : (s.setComp c v).completions = s.completions := rfl

/-! ### updComp -/

@[simp] theorem State.updComp_pending (s : State) (c : Fin 4) (f : Comp → Comp) : (s.updComp c f).pending = s.pending := rfl
@[simp] theorem State.updComp_power (s : State) (c : Fin 4) (f : Comp → Comp) : (s.updComp c f).power = s.power := rfl
@[simp] theorem State.updComp_clock (s : State) (c : Fin 4) (f : Comp → Comp) : (s.updComp c f).clock = s.clock := rfl
@[simp] theorem State.updComp_config (s : State) (c : Fin 4) (f : Comp → Comp) : (s.updComp c f).config = s.config := rfl
@[simp] theorem State.updComp_ports (s : State) (c : Fin 4) (f : Comp → Comp) : (s.updComp c f).ports = s.ports := rfl
@[simp] theorem State.updComp_pass (s : State) (c : Fin 4) (f : Comp → Comp) : (s.updComp c f).pass = s.pass := rfl
@[simp] theorem State.updComp_stations (s : State) (c : Fin 4) (f : Comp → Comp) : (s.updComp c f).stations = s.stations := rfl
@[simp] theorem State.updComp_comps (s : State) (c : Fin 4) (f : Comp → Comp) : (s.updComp c f).comps = s.comps.set c.val (f (s.comp c)) := rfl
@[simp] theorem State.updComp_classes (s : State) (c : Fin 4) (f : Comp → Comp) : (s.updComp c f).classes = s.classes := rfl
@[simp] theorem State.updComp_route (s : State) (c : Fin 4) (f : Comp → Comp) : (s.updComp c f).route = s.route := rfl
@[simp] theorem State.updComp_drops (s : State) (c : Fin 4) (f : Comp → Comp) : (s.updComp c f).drops = s.drops := rfl
@[simp] theorem State.updComp_contexts (s : State) (c : Fin 4) (f : Comp → Comp) : (s.updComp c f).contexts = s.contexts := rfl
@[simp] theorem State.updComp_stopCounts (s : State) (c : Fin 4) (f : Comp → Comp) : (s.updComp c f).stopCounts = s.stopCounts := rfl
@[simp] theorem State.updComp_store (s : State) (c : Fin 4) (f : Comp → Comp) : (s.updComp c f).store = s.store := rfl
@[simp] theorem State.updComp_claims (s : State) (c : Fin 4) (f : Comp → Comp) : (s.updComp c f).claims = s.claims := rfl
@[simp] theorem State.updComp_alerts (s : State) (c : Fin 4) (f : Comp → Comp) : (s.updComp c f).alerts = s.alerts := rfl
@[simp] theorem State.updComp_agent (s : State) (c : Fin 4) (f : Comp → Comp) : (s.updComp c f).agent = s.agent := rfl
@[simp] theorem State.updComp_array (s : State) (c : Fin 4) (f : Comp → Comp) : (s.updComp c f).array = s.array := rfl
@[simp] theorem State.updComp_completions (s : State) (c : Fin 4) (f : Comp → Comp) : (s.updComp c f).completions = s.completions := rfl

/-! ### updAccount -/

@[simp] theorem State.updAccount_pending (s : State) (c : Fin 4) (f : Account → Account) : (s.updAccount c f).pending = s.pending := rfl
@[simp] theorem State.updAccount_power (s : State) (c : Fin 4) (f : Account → Account) : (s.updAccount c f).power = s.power := rfl
@[simp] theorem State.updAccount_clock (s : State) (c : Fin 4) (f : Account → Account) : (s.updAccount c f).clock = s.clock := rfl
@[simp] theorem State.updAccount_config (s : State) (c : Fin 4) (f : Account → Account) : (s.updAccount c f).config = s.config := rfl
@[simp] theorem State.updAccount_ports (s : State) (c : Fin 4) (f : Account → Account) : (s.updAccount c f).ports = s.ports := rfl
@[simp] theorem State.updAccount_pass (s : State) (c : Fin 4) (f : Account → Account) : (s.updAccount c f).pass = s.pass := rfl
@[simp] theorem State.updAccount_stations (s : State) (c : Fin 4) (f : Account → Account) : (s.updAccount c f).stations = s.stations := rfl
@[simp] theorem State.updAccount_classes (s : State) (c : Fin 4) (f : Account → Account) : (s.updAccount c f).classes = s.classes := rfl
@[simp] theorem State.updAccount_route (s : State) (c : Fin 4) (f : Account → Account) : (s.updAccount c f).route = s.route := rfl
@[simp] theorem State.updAccount_drops (s : State) (c : Fin 4) (f : Account → Account) : (s.updAccount c f).drops = s.drops := rfl
@[simp] theorem State.updAccount_contexts (s : State) (c : Fin 4) (f : Account → Account) : (s.updAccount c f).contexts = s.contexts := rfl
@[simp] theorem State.updAccount_stopCounts (s : State) (c : Fin 4) (f : Account → Account) : (s.updAccount c f).stopCounts = s.stopCounts := rfl
@[simp] theorem State.updAccount_store (s : State) (c : Fin 4) (f : Account → Account) : (s.updAccount c f).store = s.store := rfl
@[simp] theorem State.updAccount_claims (s : State) (c : Fin 4) (f : Account → Account) : (s.updAccount c f).claims = s.claims := rfl
@[simp] theorem State.updAccount_alerts (s : State) (c : Fin 4) (f : Account → Account) : (s.updAccount c f).alerts = s.alerts := rfl
@[simp] theorem State.updAccount_agent (s : State) (c : Fin 4) (f : Account → Account) : (s.updAccount c f).agent = s.agent := rfl
@[simp] theorem State.updAccount_array (s : State) (c : Fin 4) (f : Account → Account) : (s.updAccount c f).array = s.array := rfl
@[simp] theorem State.updAccount_completions (s : State) (c : Fin 4) (f : Account → Account) : (s.updAccount c f).completions = s.completions := rfl

/-! ### updWindow -/

@[simp] theorem State.updWindow_pending (s : State) (c : Fin 4) (f : Window → Window) : (s.updWindow c f).pending = s.pending := rfl
@[simp] theorem State.updWindow_power (s : State) (c : Fin 4) (f : Window → Window) : (s.updWindow c f).power = s.power := rfl
@[simp] theorem State.updWindow_clock (s : State) (c : Fin 4) (f : Window → Window) : (s.updWindow c f).clock = s.clock := rfl
@[simp] theorem State.updWindow_config (s : State) (c : Fin 4) (f : Window → Window) : (s.updWindow c f).config = s.config := rfl
@[simp] theorem State.updWindow_ports (s : State) (c : Fin 4) (f : Window → Window) : (s.updWindow c f).ports = s.ports := rfl
@[simp] theorem State.updWindow_pass (s : State) (c : Fin 4) (f : Window → Window) : (s.updWindow c f).pass = s.pass := rfl
@[simp] theorem State.updWindow_stations (s : State) (c : Fin 4) (f : Window → Window) : (s.updWindow c f).stations = s.stations := rfl
@[simp] theorem State.updWindow_classes (s : State) (c : Fin 4) (f : Window → Window) : (s.updWindow c f).classes = s.classes := rfl
@[simp] theorem State.updWindow_route (s : State) (c : Fin 4) (f : Window → Window) : (s.updWindow c f).route = s.route := rfl
@[simp] theorem State.updWindow_drops (s : State) (c : Fin 4) (f : Window → Window) : (s.updWindow c f).drops = s.drops := rfl
@[simp] theorem State.updWindow_contexts (s : State) (c : Fin 4) (f : Window → Window) : (s.updWindow c f).contexts = s.contexts := rfl
@[simp] theorem State.updWindow_stopCounts (s : State) (c : Fin 4) (f : Window → Window) : (s.updWindow c f).stopCounts = s.stopCounts := rfl
@[simp] theorem State.updWindow_store (s : State) (c : Fin 4) (f : Window → Window) : (s.updWindow c f).store = s.store := rfl
@[simp] theorem State.updWindow_claims (s : State) (c : Fin 4) (f : Window → Window) : (s.updWindow c f).claims = s.claims := rfl
@[simp] theorem State.updWindow_alerts (s : State) (c : Fin 4) (f : Window → Window) : (s.updWindow c f).alerts = s.alerts := rfl
@[simp] theorem State.updWindow_agent (s : State) (c : Fin 4) (f : Window → Window) : (s.updWindow c f).agent = s.agent := rfl
@[simp] theorem State.updWindow_array (s : State) (c : Fin 4) (f : Window → Window) : (s.updWindow c f).array = s.array := rfl
@[simp] theorem State.updWindow_completions (s : State) (c : Fin 4) (f : Window → Window) : (s.updWindow c f).completions = s.completions := rfl

/-! ### updDoor -/

@[simp] theorem State.updDoor_pending (s : State) (c : Fin 4) (p : Fin 2) (f : DoorSlot → DoorSlot) : (s.updDoor c p f).pending = s.pending := rfl
@[simp] theorem State.updDoor_power (s : State) (c : Fin 4) (p : Fin 2) (f : DoorSlot → DoorSlot) : (s.updDoor c p f).power = s.power := rfl
@[simp] theorem State.updDoor_clock (s : State) (c : Fin 4) (p : Fin 2) (f : DoorSlot → DoorSlot) : (s.updDoor c p f).clock = s.clock := rfl
@[simp] theorem State.updDoor_config (s : State) (c : Fin 4) (p : Fin 2) (f : DoorSlot → DoorSlot) : (s.updDoor c p f).config = s.config := rfl
@[simp] theorem State.updDoor_ports (s : State) (c : Fin 4) (p : Fin 2) (f : DoorSlot → DoorSlot) : (s.updDoor c p f).ports = s.ports := rfl
@[simp] theorem State.updDoor_pass (s : State) (c : Fin 4) (p : Fin 2) (f : DoorSlot → DoorSlot) : (s.updDoor c p f).pass = s.pass := rfl
@[simp] theorem State.updDoor_stations (s : State) (c : Fin 4) (p : Fin 2) (f : DoorSlot → DoorSlot) : (s.updDoor c p f).stations = s.stations := rfl
@[simp] theorem State.updDoor_classes (s : State) (c : Fin 4) (p : Fin 2) (f : DoorSlot → DoorSlot) : (s.updDoor c p f).classes = s.classes := rfl
@[simp] theorem State.updDoor_route (s : State) (c : Fin 4) (p : Fin 2) (f : DoorSlot → DoorSlot) : (s.updDoor c p f).route = s.route := rfl
@[simp] theorem State.updDoor_drops (s : State) (c : Fin 4) (p : Fin 2) (f : DoorSlot → DoorSlot) : (s.updDoor c p f).drops = s.drops := rfl
@[simp] theorem State.updDoor_contexts (s : State) (c : Fin 4) (p : Fin 2) (f : DoorSlot → DoorSlot) : (s.updDoor c p f).contexts = s.contexts := rfl
@[simp] theorem State.updDoor_stopCounts (s : State) (c : Fin 4) (p : Fin 2) (f : DoorSlot → DoorSlot) : (s.updDoor c p f).stopCounts = s.stopCounts := rfl
@[simp] theorem State.updDoor_store (s : State) (c : Fin 4) (p : Fin 2) (f : DoorSlot → DoorSlot) : (s.updDoor c p f).store = s.store := rfl
@[simp] theorem State.updDoor_claims (s : State) (c : Fin 4) (p : Fin 2) (f : DoorSlot → DoorSlot) : (s.updDoor c p f).claims = s.claims := rfl
@[simp] theorem State.updDoor_alerts (s : State) (c : Fin 4) (p : Fin 2) (f : DoorSlot → DoorSlot) : (s.updDoor c p f).alerts = s.alerts := rfl
@[simp] theorem State.updDoor_agent (s : State) (c : Fin 4) (p : Fin 2) (f : DoorSlot → DoorSlot) : (s.updDoor c p f).agent = s.agent := rfl
@[simp] theorem State.updDoor_array (s : State) (c : Fin 4) (p : Fin 2) (f : DoorSlot → DoorSlot) : (s.updDoor c p f).array = s.array := rfl
@[simp] theorem State.updDoor_completions (s : State) (c : Fin 4) (p : Fin 2) (f : DoorSlot → DoorSlot) : (s.updDoor c p f).completions = s.completions := rfl

/-! ### setCommitted -/

@[simp] theorem State.setCommitted_pending (s : State) (c : Fin 4) (t : Nat) : (s.setCommitted c t).pending = s.pending := rfl
@[simp] theorem State.setCommitted_power (s : State) (c : Fin 4) (t : Nat) : (s.setCommitted c t).power = s.power := rfl
@[simp] theorem State.setCommitted_clock (s : State) (c : Fin 4) (t : Nat) : (s.setCommitted c t).clock = s.clock := rfl
@[simp] theorem State.setCommitted_config (s : State) (c : Fin 4) (t : Nat) : (s.setCommitted c t).config = s.config := rfl
@[simp] theorem State.setCommitted_ports (s : State) (c : Fin 4) (t : Nat) : (s.setCommitted c t).ports = s.ports := rfl
@[simp] theorem State.setCommitted_pass (s : State) (c : Fin 4) (t : Nat) : (s.setCommitted c t).pass = s.pass := rfl
@[simp] theorem State.setCommitted_stations (s : State) (c : Fin 4) (t : Nat) : (s.setCommitted c t).stations = s.stations := rfl
@[simp] theorem State.setCommitted_classes (s : State) (c : Fin 4) (t : Nat) : (s.setCommitted c t).classes = s.classes := rfl
@[simp] theorem State.setCommitted_route (s : State) (c : Fin 4) (t : Nat) : (s.setCommitted c t).route = s.route := rfl
@[simp] theorem State.setCommitted_drops (s : State) (c : Fin 4) (t : Nat) : (s.setCommitted c t).drops = s.drops := rfl
@[simp] theorem State.setCommitted_contexts (s : State) (c : Fin 4) (t : Nat) : (s.setCommitted c t).contexts = s.contexts := rfl
@[simp] theorem State.setCommitted_stopCounts (s : State) (c : Fin 4) (t : Nat) : (s.setCommitted c t).stopCounts = s.stopCounts := rfl
@[simp] theorem State.setCommitted_store (s : State) (c : Fin 4) (t : Nat) : (s.setCommitted c t).store = s.store := rfl
@[simp] theorem State.setCommitted_claims (s : State) (c : Fin 4) (t : Nat) : (s.setCommitted c t).claims = s.claims := rfl
@[simp] theorem State.setCommitted_alerts (s : State) (c : Fin 4) (t : Nat) : (s.setCommitted c t).alerts = s.alerts := rfl
@[simp] theorem State.setCommitted_agent (s : State) (c : Fin 4) (t : Nat) : (s.setCommitted c t).agent = s.agent := rfl
@[simp] theorem State.setCommitted_array (s : State) (c : Fin 4) (t : Nat) : (s.setCommitted c t).array = s.array := rfl
@[simp] theorem State.setCommitted_completions (s : State) (c : Fin 4) (t : Nat) : (s.setCommitted c t).completions = s.completions := rfl

/-! ### updDrop -/

@[simp] theorem State.updDrop_pending (s : State) (n : Nat) (f : Drop → Drop) : (s.updDrop n f).pending = s.pending := rfl
@[simp] theorem State.updDrop_power (s : State) (n : Nat) (f : Drop → Drop) : (s.updDrop n f).power = s.power := rfl
@[simp] theorem State.updDrop_clock (s : State) (n : Nat) (f : Drop → Drop) : (s.updDrop n f).clock = s.clock := rfl
@[simp] theorem State.updDrop_config (s : State) (n : Nat) (f : Drop → Drop) : (s.updDrop n f).config = s.config := rfl
@[simp] theorem State.updDrop_ports (s : State) (n : Nat) (f : Drop → Drop) : (s.updDrop n f).ports = s.ports := rfl
@[simp] theorem State.updDrop_pass (s : State) (n : Nat) (f : Drop → Drop) : (s.updDrop n f).pass = s.pass := rfl
@[simp] theorem State.updDrop_stations (s : State) (n : Nat) (f : Drop → Drop) : (s.updDrop n f).stations = s.stations := rfl
@[simp] theorem State.updDrop_comps (s : State) (n : Nat) (f : Drop → Drop) : (s.updDrop n f).comps = s.comps := rfl
@[simp] theorem State.updDrop_classes (s : State) (n : Nat) (f : Drop → Drop) : (s.updDrop n f).classes = s.classes := rfl
@[simp] theorem State.updDrop_route (s : State) (n : Nat) (f : Drop → Drop) : (s.updDrop n f).route = s.route := rfl
@[simp] theorem State.updDrop_drops (s : State) (n : Nat) (f : Drop → Drop) : (s.updDrop n f).drops = s.drops.map fun d => if d.number = n then f d else d := rfl
@[simp] theorem State.updDrop_contexts (s : State) (n : Nat) (f : Drop → Drop) : (s.updDrop n f).contexts = s.contexts := rfl
@[simp] theorem State.updDrop_stopCounts (s : State) (n : Nat) (f : Drop → Drop) : (s.updDrop n f).stopCounts = s.stopCounts := rfl
@[simp] theorem State.updDrop_store (s : State) (n : Nat) (f : Drop → Drop) : (s.updDrop n f).store = s.store := rfl
@[simp] theorem State.updDrop_claims (s : State) (n : Nat) (f : Drop → Drop) : (s.updDrop n f).claims = s.claims := rfl
@[simp] theorem State.updDrop_alerts (s : State) (n : Nat) (f : Drop → Drop) : (s.updDrop n f).alerts = s.alerts := rfl
@[simp] theorem State.updDrop_agent (s : State) (n : Nat) (f : Drop → Drop) : (s.updDrop n f).agent = s.agent := rfl
@[simp] theorem State.updDrop_array (s : State) (n : Nat) (f : Drop → Drop) : (s.updDrop n f).array = s.array := rfl
@[simp] theorem State.updDrop_completions (s : State) (n : Nat) (f : Drop → Drop) : (s.updDrop n f).completions = s.completions := rfl

/-! ### updContext -/

@[simp] theorem State.updContext_pending (s : State) (n : Nat) (f : Context → Context) : (s.updContext n f).pending = s.pending := rfl
@[simp] theorem State.updContext_power (s : State) (n : Nat) (f : Context → Context) : (s.updContext n f).power = s.power := rfl
@[simp] theorem State.updContext_clock (s : State) (n : Nat) (f : Context → Context) : (s.updContext n f).clock = s.clock := rfl
@[simp] theorem State.updContext_config (s : State) (n : Nat) (f : Context → Context) : (s.updContext n f).config = s.config := rfl
@[simp] theorem State.updContext_ports (s : State) (n : Nat) (f : Context → Context) : (s.updContext n f).ports = s.ports := rfl
@[simp] theorem State.updContext_pass (s : State) (n : Nat) (f : Context → Context) : (s.updContext n f).pass = s.pass := rfl
@[simp] theorem State.updContext_stations (s : State) (n : Nat) (f : Context → Context) : (s.updContext n f).stations = s.stations := rfl
@[simp] theorem State.updContext_comps (s : State) (n : Nat) (f : Context → Context) : (s.updContext n f).comps = s.comps := rfl
@[simp] theorem State.updContext_classes (s : State) (n : Nat) (f : Context → Context) : (s.updContext n f).classes = s.classes := rfl
@[simp] theorem State.updContext_route (s : State) (n : Nat) (f : Context → Context) : (s.updContext n f).route = s.route := rfl
@[simp] theorem State.updContext_drops (s : State) (n : Nat) (f : Context → Context) : (s.updContext n f).drops = s.drops := rfl
@[simp] theorem State.updContext_contexts (s : State) (n : Nat) (f : Context → Context) : (s.updContext n f).contexts = s.contexts.map fun x => if x.drop = n then f x else x := rfl
@[simp] theorem State.updContext_stopCounts (s : State) (n : Nat) (f : Context → Context) : (s.updContext n f).stopCounts = s.stopCounts := rfl
@[simp] theorem State.updContext_store (s : State) (n : Nat) (f : Context → Context) : (s.updContext n f).store = s.store := rfl
@[simp] theorem State.updContext_claims (s : State) (n : Nat) (f : Context → Context) : (s.updContext n f).claims = s.claims := rfl
@[simp] theorem State.updContext_alerts (s : State) (n : Nat) (f : Context → Context) : (s.updContext n f).alerts = s.alerts := rfl
@[simp] theorem State.updContext_agent (s : State) (n : Nat) (f : Context → Context) : (s.updContext n f).agent = s.agent := rfl
@[simp] theorem State.updContext_array (s : State) (n : Nat) (f : Context → Context) : (s.updContext n f).array = s.array := rfl
@[simp] theorem State.updContext_completions (s : State) (n : Nat) (f : Context → Context) : (s.updContext n f).completions = s.completions := rfl

/-! ### updStation -/

@[simp] theorem State.updStation_pending (s : State) (a : Byte) (f : Station → Station) : (s.updStation a f).pending = s.pending := rfl
@[simp] theorem State.updStation_power (s : State) (a : Byte) (f : Station → Station) : (s.updStation a f).power = s.power := rfl
@[simp] theorem State.updStation_clock (s : State) (a : Byte) (f : Station → Station) : (s.updStation a f).clock = s.clock := rfl
@[simp] theorem State.updStation_config (s : State) (a : Byte) (f : Station → Station) : (s.updStation a f).config = s.config := rfl
@[simp] theorem State.updStation_ports (s : State) (a : Byte) (f : Station → Station) : (s.updStation a f).ports = s.ports := rfl
@[simp] theorem State.updStation_pass (s : State) (a : Byte) (f : Station → Station) : (s.updStation a f).pass = s.pass := rfl
@[simp] theorem State.updStation_comps (s : State) (a : Byte) (f : Station → Station) : (s.updStation a f).comps = s.comps := rfl
@[simp] theorem State.updStation_classes (s : State) (a : Byte) (f : Station → Station) : (s.updStation a f).classes = s.classes := rfl
@[simp] theorem State.updStation_route (s : State) (a : Byte) (f : Station → Station) : (s.updStation a f).route = s.route := rfl
@[simp] theorem State.updStation_drops (s : State) (a : Byte) (f : Station → Station) : (s.updStation a f).drops = s.drops := rfl
@[simp] theorem State.updStation_contexts (s : State) (a : Byte) (f : Station → Station) : (s.updStation a f).contexts = s.contexts := rfl
@[simp] theorem State.updStation_stopCounts (s : State) (a : Byte) (f : Station → Station) : (s.updStation a f).stopCounts = s.stopCounts := rfl
@[simp] theorem State.updStation_store (s : State) (a : Byte) (f : Station → Station) : (s.updStation a f).store = s.store := rfl
@[simp] theorem State.updStation_claims (s : State) (a : Byte) (f : Station → Station) : (s.updStation a f).claims = s.claims := rfl
@[simp] theorem State.updStation_alerts (s : State) (a : Byte) (f : Station → Station) : (s.updStation a f).alerts = s.alerts := rfl
@[simp] theorem State.updStation_agent (s : State) (a : Byte) (f : Station → Station) : (s.updStation a f).agent = s.agent := rfl
@[simp] theorem State.updStation_array (s : State) (a : Byte) (f : Station → Station) : (s.updStation a f).array = s.array := rfl
@[simp] theorem State.updStation_completions (s : State) (a : Byte) (f : Station → Station) : (s.updStation a f).completions = s.completions := rfl

/-! ### updStations -/

@[simp] theorem State.updStations_pending (s : State) (f : StationTable → StationTable) : (s.updStations f).pending = s.pending := rfl
@[simp] theorem State.updStations_power (s : State) (f : StationTable → StationTable) : (s.updStations f).power = s.power := rfl
@[simp] theorem State.updStations_clock (s : State) (f : StationTable → StationTable) : (s.updStations f).clock = s.clock := rfl
@[simp] theorem State.updStations_config (s : State) (f : StationTable → StationTable) : (s.updStations f).config = s.config := rfl
@[simp] theorem State.updStations_ports (s : State) (f : StationTable → StationTable) : (s.updStations f).ports = s.ports := rfl
@[simp] theorem State.updStations_pass (s : State) (f : StationTable → StationTable) : (s.updStations f).pass = s.pass := rfl
@[simp] theorem State.updStations_stations (s : State) (f : StationTable → StationTable) : (s.updStations f).stations = f s.stations := rfl
@[simp] theorem State.updStations_comps (s : State) (f : StationTable → StationTable) : (s.updStations f).comps = s.comps := rfl
@[simp] theorem State.updStations_classes (s : State) (f : StationTable → StationTable) : (s.updStations f).classes = s.classes := rfl
@[simp] theorem State.updStations_route (s : State) (f : StationTable → StationTable) : (s.updStations f).route = s.route := rfl
@[simp] theorem State.updStations_drops (s : State) (f : StationTable → StationTable) : (s.updStations f).drops = s.drops := rfl
@[simp] theorem State.updStations_contexts (s : State) (f : StationTable → StationTable) : (s.updStations f).contexts = s.contexts := rfl
@[simp] theorem State.updStations_stopCounts (s : State) (f : StationTable → StationTable) : (s.updStations f).stopCounts = s.stopCounts := rfl
@[simp] theorem State.updStations_store (s : State) (f : StationTable → StationTable) : (s.updStations f).store = s.store := rfl
@[simp] theorem State.updStations_claims (s : State) (f : StationTable → StationTable) : (s.updStations f).claims = s.claims := rfl
@[simp] theorem State.updStations_alerts (s : State) (f : StationTable → StationTable) : (s.updStations f).alerts = s.alerts := rfl
@[simp] theorem State.updStations_agent (s : State) (f : StationTable → StationTable) : (s.updStations f).agent = s.agent := rfl
@[simp] theorem State.updStations_array (s : State) (f : StationTable → StationTable) : (s.updStations f).array = s.array := rfl
@[simp] theorem State.updStations_completions (s : State) (f : StationTable → StationTable) : (s.updStations f).completions = s.completions := rfl

/-! ### updStopCounts -/

@[simp] theorem State.updStopCounts_pending (s : State) (f : StopCounts → StopCounts) : (s.updStopCounts f).pending = s.pending := rfl
@[simp] theorem State.updStopCounts_power (s : State) (f : StopCounts → StopCounts) : (s.updStopCounts f).power = s.power := rfl
@[simp] theorem State.updStopCounts_clock (s : State) (f : StopCounts → StopCounts) : (s.updStopCounts f).clock = s.clock := rfl
@[simp] theorem State.updStopCounts_config (s : State) (f : StopCounts → StopCounts) : (s.updStopCounts f).config = s.config := rfl
@[simp] theorem State.updStopCounts_ports (s : State) (f : StopCounts → StopCounts) : (s.updStopCounts f).ports = s.ports := rfl
@[simp] theorem State.updStopCounts_pass (s : State) (f : StopCounts → StopCounts) : (s.updStopCounts f).pass = s.pass := rfl
@[simp] theorem State.updStopCounts_stations (s : State) (f : StopCounts → StopCounts) : (s.updStopCounts f).stations = s.stations := rfl
@[simp] theorem State.updStopCounts_comps (s : State) (f : StopCounts → StopCounts) : (s.updStopCounts f).comps = s.comps := rfl
@[simp] theorem State.updStopCounts_classes (s : State) (f : StopCounts → StopCounts) : (s.updStopCounts f).classes = s.classes := rfl
@[simp] theorem State.updStopCounts_route (s : State) (f : StopCounts → StopCounts) : (s.updStopCounts f).route = s.route := rfl
@[simp] theorem State.updStopCounts_drops (s : State) (f : StopCounts → StopCounts) : (s.updStopCounts f).drops = s.drops := rfl
@[simp] theorem State.updStopCounts_contexts (s : State) (f : StopCounts → StopCounts) : (s.updStopCounts f).contexts = s.contexts := rfl
@[simp] theorem State.updStopCounts_stopCounts (s : State) (f : StopCounts → StopCounts) : (s.updStopCounts f).stopCounts = f s.stopCounts := rfl
@[simp] theorem State.updStopCounts_store (s : State) (f : StopCounts → StopCounts) : (s.updStopCounts f).store = s.store := rfl
@[simp] theorem State.updStopCounts_claims (s : State) (f : StopCounts → StopCounts) : (s.updStopCounts f).claims = s.claims := rfl
@[simp] theorem State.updStopCounts_alerts (s : State) (f : StopCounts → StopCounts) : (s.updStopCounts f).alerts = s.alerts := rfl
@[simp] theorem State.updStopCounts_agent (s : State) (f : StopCounts → StopCounts) : (s.updStopCounts f).agent = s.agent := rfl
@[simp] theorem State.updStopCounts_array (s : State) (f : StopCounts → StopCounts) : (s.updStopCounts f).array = s.array := rfl
@[simp] theorem State.updStopCounts_completions (s : State) (f : StopCounts → StopCounts) : (s.updStopCounts f).completions = s.completions := rfl

/-! ### updClaimCounts -/

@[simp] theorem State.updClaimCounts_pending (s : State) (f : ClaimCounts → ClaimCounts) : (s.updClaimCounts f).pending = s.pending := rfl
@[simp] theorem State.updClaimCounts_power (s : State) (f : ClaimCounts → ClaimCounts) : (s.updClaimCounts f).power = s.power := rfl
@[simp] theorem State.updClaimCounts_clock (s : State) (f : ClaimCounts → ClaimCounts) : (s.updClaimCounts f).clock = s.clock := rfl
@[simp] theorem State.updClaimCounts_config (s : State) (f : ClaimCounts → ClaimCounts) : (s.updClaimCounts f).config = s.config := rfl
@[simp] theorem State.updClaimCounts_ports (s : State) (f : ClaimCounts → ClaimCounts) : (s.updClaimCounts f).ports = s.ports := rfl
@[simp] theorem State.updClaimCounts_pass (s : State) (f : ClaimCounts → ClaimCounts) : (s.updClaimCounts f).pass = s.pass := rfl
@[simp] theorem State.updClaimCounts_stations (s : State) (f : ClaimCounts → ClaimCounts) : (s.updClaimCounts f).stations = s.stations := rfl
@[simp] theorem State.updClaimCounts_comps (s : State) (f : ClaimCounts → ClaimCounts) : (s.updClaimCounts f).comps = s.comps := rfl
@[simp] theorem State.updClaimCounts_classes (s : State) (f : ClaimCounts → ClaimCounts) : (s.updClaimCounts f).classes = s.classes := rfl
@[simp] theorem State.updClaimCounts_route (s : State) (f : ClaimCounts → ClaimCounts) : (s.updClaimCounts f).route = s.route := rfl
@[simp] theorem State.updClaimCounts_drops (s : State) (f : ClaimCounts → ClaimCounts) : (s.updClaimCounts f).drops = s.drops := rfl
@[simp] theorem State.updClaimCounts_contexts (s : State) (f : ClaimCounts → ClaimCounts) : (s.updClaimCounts f).contexts = s.contexts := rfl
@[simp] theorem State.updClaimCounts_stopCounts (s : State) (f : ClaimCounts → ClaimCounts) : (s.updClaimCounts f).stopCounts = s.stopCounts := rfl
@[simp] theorem State.updClaimCounts_store (s : State) (f : ClaimCounts → ClaimCounts) : (s.updClaimCounts f).store = s.store := rfl
@[simp] theorem State.updClaimCounts_claims (s : State) (f : ClaimCounts → ClaimCounts) : (s.updClaimCounts f).claims = { s.claims with counts := f s.claims.counts } := rfl
@[simp] theorem State.updClaimCounts_alerts (s : State) (f : ClaimCounts → ClaimCounts) : (s.updClaimCounts f).alerts = s.alerts := rfl
@[simp] theorem State.updClaimCounts_agent (s : State) (f : ClaimCounts → ClaimCounts) : (s.updClaimCounts f).agent = s.agent := rfl
@[simp] theorem State.updClaimCounts_array (s : State) (f : ClaimCounts → ClaimCounts) : (s.updClaimCounts f).array = s.array := rfl
@[simp] theorem State.updClaimCounts_completions (s : State) (f : ClaimCounts → ClaimCounts) : (s.updClaimCounts f).completions = s.completions := rfl

/-! ### updStoreCounts -/

@[simp] theorem State.updStoreCounts_pending (s : State) (f : StoreCounts → StoreCounts) : (s.updStoreCounts f).pending = s.pending := rfl
@[simp] theorem State.updStoreCounts_power (s : State) (f : StoreCounts → StoreCounts) : (s.updStoreCounts f).power = s.power := rfl
@[simp] theorem State.updStoreCounts_clock (s : State) (f : StoreCounts → StoreCounts) : (s.updStoreCounts f).clock = s.clock := rfl
@[simp] theorem State.updStoreCounts_config (s : State) (f : StoreCounts → StoreCounts) : (s.updStoreCounts f).config = s.config := rfl
@[simp] theorem State.updStoreCounts_ports (s : State) (f : StoreCounts → StoreCounts) : (s.updStoreCounts f).ports = s.ports := rfl
@[simp] theorem State.updStoreCounts_pass (s : State) (f : StoreCounts → StoreCounts) : (s.updStoreCounts f).pass = s.pass := rfl
@[simp] theorem State.updStoreCounts_stations (s : State) (f : StoreCounts → StoreCounts) : (s.updStoreCounts f).stations = s.stations := rfl
@[simp] theorem State.updStoreCounts_comps (s : State) (f : StoreCounts → StoreCounts) : (s.updStoreCounts f).comps = s.comps := rfl
@[simp] theorem State.updStoreCounts_classes (s : State) (f : StoreCounts → StoreCounts) : (s.updStoreCounts f).classes = s.classes := rfl
@[simp] theorem State.updStoreCounts_route (s : State) (f : StoreCounts → StoreCounts) : (s.updStoreCounts f).route = s.route := rfl
@[simp] theorem State.updStoreCounts_drops (s : State) (f : StoreCounts → StoreCounts) : (s.updStoreCounts f).drops = s.drops := rfl
@[simp] theorem State.updStoreCounts_contexts (s : State) (f : StoreCounts → StoreCounts) : (s.updStoreCounts f).contexts = s.contexts := rfl
@[simp] theorem State.updStoreCounts_stopCounts (s : State) (f : StoreCounts → StoreCounts) : (s.updStoreCounts f).stopCounts = s.stopCounts := rfl
@[simp] theorem State.updStoreCounts_store (s : State) (f : StoreCounts → StoreCounts) : (s.updStoreCounts f).store = { s.store with counts := f s.store.counts } := rfl
@[simp] theorem State.updStoreCounts_claims (s : State) (f : StoreCounts → StoreCounts) : (s.updStoreCounts f).claims = s.claims := rfl
@[simp] theorem State.updStoreCounts_alerts (s : State) (f : StoreCounts → StoreCounts) : (s.updStoreCounts f).alerts = s.alerts := rfl
@[simp] theorem State.updStoreCounts_agent (s : State) (f : StoreCounts → StoreCounts) : (s.updStoreCounts f).agent = s.agent := rfl
@[simp] theorem State.updStoreCounts_array (s : State) (f : StoreCounts → StoreCounts) : (s.updStoreCounts f).array = s.array := rfl
@[simp] theorem State.updStoreCounts_completions (s : State) (f : StoreCounts → StoreCounts) : (s.updStoreCounts f).completions = s.completions := rfl

/-! ### setSlot -/

@[simp] theorem State.setSlot_pending (s : State) (i : Fin 256) (v : Slot) : (s.setSlot i v).pending = s.pending := rfl
@[simp] theorem State.setSlot_power (s : State) (i : Fin 256) (v : Slot) : (s.setSlot i v).power = s.power := rfl
@[simp] theorem State.setSlot_clock (s : State) (i : Fin 256) (v : Slot) : (s.setSlot i v).clock = s.clock := rfl
@[simp] theorem State.setSlot_config (s : State) (i : Fin 256) (v : Slot) : (s.setSlot i v).config = s.config := rfl
@[simp] theorem State.setSlot_ports (s : State) (i : Fin 256) (v : Slot) : (s.setSlot i v).ports = s.ports := rfl
@[simp] theorem State.setSlot_pass (s : State) (i : Fin 256) (v : Slot) : (s.setSlot i v).pass = s.pass := rfl
@[simp] theorem State.setSlot_stations (s : State) (i : Fin 256) (v : Slot) : (s.setSlot i v).stations = s.stations := rfl
@[simp] theorem State.setSlot_comps (s : State) (i : Fin 256) (v : Slot) : (s.setSlot i v).comps = s.comps := rfl
@[simp] theorem State.setSlot_classes (s : State) (i : Fin 256) (v : Slot) : (s.setSlot i v).classes = s.classes := rfl
@[simp] theorem State.setSlot_route (s : State) (i : Fin 256) (v : Slot) : (s.setSlot i v).route = s.route := rfl
@[simp] theorem State.setSlot_drops (s : State) (i : Fin 256) (v : Slot) : (s.setSlot i v).drops = s.drops := rfl
@[simp] theorem State.setSlot_contexts (s : State) (i : Fin 256) (v : Slot) : (s.setSlot i v).contexts = s.contexts := rfl
@[simp] theorem State.setSlot_stopCounts (s : State) (i : Fin 256) (v : Slot) : (s.setSlot i v).stopCounts = s.stopCounts := rfl
@[simp] theorem State.setSlot_store (s : State) (i : Fin 256) (v : Slot) : (s.setSlot i v).store = { s.store with slots := s.store.slots.set i.val v } := rfl
@[simp] theorem State.setSlot_claims (s : State) (i : Fin 256) (v : Slot) : (s.setSlot i v).claims = s.claims := rfl
@[simp] theorem State.setSlot_alerts (s : State) (i : Fin 256) (v : Slot) : (s.setSlot i v).alerts = s.alerts := rfl
@[simp] theorem State.setSlot_agent (s : State) (i : Fin 256) (v : Slot) : (s.setSlot i v).agent = s.agent := rfl
@[simp] theorem State.setSlot_array (s : State) (i : Fin 256) (v : Slot) : (s.setSlot i v).array = s.array := rfl
@[simp] theorem State.setSlot_completions (s : State) (i : Fin 256) (v : Slot) : (s.setSlot i v).completions = s.completions := rfl

/-! ### afterRead -/

@[simp] theorem State.afterRead_pending (s : State) : (s.afterRead).pending = s.pending := rfl
@[simp] theorem State.afterRead_power (s : State) : (s.afterRead).power = s.power := rfl
@[simp] theorem State.afterRead_clock (s : State) : (s.afterRead).clock = s.clock := rfl
@[simp] theorem State.afterRead_config (s : State) : (s.afterRead).config = s.config := rfl
@[simp] theorem State.afterRead_ports (s : State) : (s.afterRead).ports = s.ports := rfl
@[simp] theorem State.afterRead_pass (s : State) : (s.afterRead).pass = s.pass := rfl
@[simp] theorem State.afterRead_stations (s : State) : (s.afterRead).stations = s.stations := rfl
@[simp] theorem State.afterRead_comps (s : State) : (s.afterRead).comps = s.comps := rfl
@[simp] theorem State.afterRead_classes (s : State) : (s.afterRead).classes = s.classes := rfl
@[simp] theorem State.afterRead_route (s : State) : (s.afterRead).route = s.route := rfl
@[simp] theorem State.afterRead_drops (s : State) : (s.afterRead).drops = s.drops := rfl
@[simp] theorem State.afterRead_contexts (s : State) : (s.afterRead).contexts = s.contexts := rfl
@[simp] theorem State.afterRead_stopCounts (s : State) : (s.afterRead).stopCounts = s.stopCounts := rfl
@[simp] theorem State.afterRead_store (s : State) : (s.afterRead).store = s.store := rfl
@[simp] theorem State.afterRead_claims (s : State) : (s.afterRead).claims = s.claims := rfl
@[simp] theorem State.afterRead_alerts (s : State) : (s.afterRead).alerts = s.alerts := rfl
@[simp] theorem State.afterRead_agent (s : State) : (s.afterRead).agent = s.agent := rfl
@[simp] theorem State.afterRead_array (s : State) : (s.afterRead).array = { script := s.array.script.tail, count := s.array.count + 1 } := rfl
@[simp] theorem State.afterRead_completions (s : State) : (s.afterRead).completions = s.completions := rfl

/-! ### updPort -/

@[simp] theorem State.updPort_pending (s : State) (p : Port) (f : PortUnit → PortUnit) : (s.updPort p f).pending = s.pending := by cases p <;> rfl
@[simp] theorem State.updPort_power (s : State) (p : Port) (f : PortUnit → PortUnit) : (s.updPort p f).power = s.power := by cases p <;> rfl
@[simp] theorem State.updPort_clock (s : State) (p : Port) (f : PortUnit → PortUnit) : (s.updPort p f).clock = s.clock := by cases p <;> rfl
@[simp] theorem State.updPort_config (s : State) (p : Port) (f : PortUnit → PortUnit) : (s.updPort p f).config = s.config := by cases p <;> rfl
@[simp] theorem State.updPort_pass (s : State) (p : Port) (f : PortUnit → PortUnit) : (s.updPort p f).pass = s.pass := by cases p <;> rfl
@[simp] theorem State.updPort_stations (s : State) (p : Port) (f : PortUnit → PortUnit) : (s.updPort p f).stations = s.stations := by cases p <;> rfl
@[simp] theorem State.updPort_comps (s : State) (p : Port) (f : PortUnit → PortUnit) : (s.updPort p f).comps = s.comps := by cases p <;> rfl
@[simp] theorem State.updPort_classes (s : State) (p : Port) (f : PortUnit → PortUnit) : (s.updPort p f).classes = s.classes := by cases p <;> rfl
@[simp] theorem State.updPort_route (s : State) (p : Port) (f : PortUnit → PortUnit) : (s.updPort p f).route = s.route := by cases p <;> rfl
@[simp] theorem State.updPort_drops (s : State) (p : Port) (f : PortUnit → PortUnit) : (s.updPort p f).drops = s.drops := by cases p <;> rfl
@[simp] theorem State.updPort_contexts (s : State) (p : Port) (f : PortUnit → PortUnit) : (s.updPort p f).contexts = s.contexts := by cases p <;> rfl
@[simp] theorem State.updPort_stopCounts (s : State) (p : Port) (f : PortUnit → PortUnit) : (s.updPort p f).stopCounts = s.stopCounts := by cases p <;> rfl
@[simp] theorem State.updPort_store (s : State) (p : Port) (f : PortUnit → PortUnit) : (s.updPort p f).store = s.store := by cases p <;> rfl
@[simp] theorem State.updPort_claims (s : State) (p : Port) (f : PortUnit → PortUnit) : (s.updPort p f).claims = s.claims := by cases p <;> rfl
@[simp] theorem State.updPort_alerts (s : State) (p : Port) (f : PortUnit → PortUnit) : (s.updPort p f).alerts = s.alerts := by cases p <;> rfl
@[simp] theorem State.updPort_agent (s : State) (p : Port) (f : PortUnit → PortUnit) : (s.updPort p f).agent = s.agent := by cases p <;> rfl
@[simp] theorem State.updPort_array (s : State) (p : Port) (f : PortUnit → PortUnit) : (s.updPort p f).array = s.array := by cases p <;> rfl
@[simp] theorem State.updPort_completions (s : State) (p : Port) (f : PortUnit → PortUnit) : (s.updPort p f).completions = s.completions := by cases p <;> rfl

/-! ### updPortCounts -/

@[simp] theorem State.updPortCounts_pending (s : State) (p : Port) (f : PortCounts → PortCounts) : (s.updPortCounts p f).pending = s.pending := by cases p <;> rfl
@[simp] theorem State.updPortCounts_power (s : State) (p : Port) (f : PortCounts → PortCounts) : (s.updPortCounts p f).power = s.power := by cases p <;> rfl
@[simp] theorem State.updPortCounts_clock (s : State) (p : Port) (f : PortCounts → PortCounts) : (s.updPortCounts p f).clock = s.clock := by cases p <;> rfl
@[simp] theorem State.updPortCounts_config (s : State) (p : Port) (f : PortCounts → PortCounts) : (s.updPortCounts p f).config = s.config := by cases p <;> rfl
@[simp] theorem State.updPortCounts_pass (s : State) (p : Port) (f : PortCounts → PortCounts) : (s.updPortCounts p f).pass = s.pass := by cases p <;> rfl
@[simp] theorem State.updPortCounts_stations (s : State) (p : Port) (f : PortCounts → PortCounts) : (s.updPortCounts p f).stations = s.stations := by cases p <;> rfl
@[simp] theorem State.updPortCounts_comps (s : State) (p : Port) (f : PortCounts → PortCounts) : (s.updPortCounts p f).comps = s.comps := by cases p <;> rfl
@[simp] theorem State.updPortCounts_classes (s : State) (p : Port) (f : PortCounts → PortCounts) : (s.updPortCounts p f).classes = s.classes := by cases p <;> rfl
@[simp] theorem State.updPortCounts_route (s : State) (p : Port) (f : PortCounts → PortCounts) : (s.updPortCounts p f).route = s.route := by cases p <;> rfl
@[simp] theorem State.updPortCounts_drops (s : State) (p : Port) (f : PortCounts → PortCounts) : (s.updPortCounts p f).drops = s.drops := by cases p <;> rfl
@[simp] theorem State.updPortCounts_contexts (s : State) (p : Port) (f : PortCounts → PortCounts) : (s.updPortCounts p f).contexts = s.contexts := by cases p <;> rfl
@[simp] theorem State.updPortCounts_stopCounts (s : State) (p : Port) (f : PortCounts → PortCounts) : (s.updPortCounts p f).stopCounts = s.stopCounts := by cases p <;> rfl
@[simp] theorem State.updPortCounts_store (s : State) (p : Port) (f : PortCounts → PortCounts) : (s.updPortCounts p f).store = s.store := by cases p <;> rfl
@[simp] theorem State.updPortCounts_claims (s : State) (p : Port) (f : PortCounts → PortCounts) : (s.updPortCounts p f).claims = s.claims := by cases p <;> rfl
@[simp] theorem State.updPortCounts_alerts (s : State) (p : Port) (f : PortCounts → PortCounts) : (s.updPortCounts p f).alerts = s.alerts := by cases p <;> rfl
@[simp] theorem State.updPortCounts_agent (s : State) (p : Port) (f : PortCounts → PortCounts) : (s.updPortCounts p f).agent = s.agent := by cases p <;> rfl
@[simp] theorem State.updPortCounts_array (s : State) (p : Port) (f : PortCounts → PortCounts) : (s.updPortCounts p f).array = s.array := by cases p <;> rfl
@[simp] theorem State.updPortCounts_completions (s : State) (p : Port) (f : PortCounts → PortCounts) : (s.updPortCounts p f).completions = s.completions := by cases p <;> rfl

/-! ### freshCheck -/

@[simp] theorem State.freshCheck_pending (s : State) : (s.freshCheck).pending = s.pending := rfl
@[simp] theorem State.freshCheck_power (s : State) : (s.freshCheck).power = { s.power with checkDiff := 0 } := rfl
@[simp] theorem State.freshCheck_clock (s : State) : (s.freshCheck).clock = s.clock := rfl
@[simp] theorem State.freshCheck_config (s : State) : (s.freshCheck).config = s.config := rfl
@[simp] theorem State.freshCheck_ports (s : State) : (s.freshCheck).ports = s.ports := rfl
@[simp] theorem State.freshCheck_pass (s : State) : (s.freshCheck).pass = s.pass := rfl
@[simp] theorem State.freshCheck_stations (s : State) : (s.freshCheck).stations = s.stations := rfl
@[simp] theorem State.freshCheck_comps (s : State) : (s.freshCheck).comps = s.comps := rfl
@[simp] theorem State.freshCheck_classes (s : State) : (s.freshCheck).classes = s.classes := rfl
@[simp] theorem State.freshCheck_route (s : State) : (s.freshCheck).route = s.route := rfl
@[simp] theorem State.freshCheck_drops (s : State) : (s.freshCheck).drops = s.drops := rfl
@[simp] theorem State.freshCheck_contexts (s : State) : (s.freshCheck).contexts = s.contexts := rfl
@[simp] theorem State.freshCheck_stopCounts (s : State) : (s.freshCheck).stopCounts = s.stopCounts := rfl
@[simp] theorem State.freshCheck_store (s : State) : (s.freshCheck).store = s.store := rfl
@[simp] theorem State.freshCheck_claims (s : State) : (s.freshCheck).claims = s.claims := rfl
@[simp] theorem State.freshCheck_alerts (s : State) : (s.freshCheck).alerts = s.alerts := rfl
@[simp] theorem State.freshCheck_agent (s : State) : (s.freshCheck).agent = s.agent := rfl
@[simp] theorem State.freshCheck_array (s : State) : (s.freshCheck).array = s.array := rfl
@[simp] theorem State.freshCheck_completions (s : State) : (s.freshCheck).completions = s.completions := rfl

/-! ### updDirCounts -/

@[simp] theorem State.updDirCounts_pending (s : State) (d : Direction) (f : DirCounts → DirCounts) : (s.updDirCounts d f).pending = s.pending := by cases d <;> rfl
@[simp] theorem State.updDirCounts_power (s : State) (d : Direction) (f : DirCounts → DirCounts) : (s.updDirCounts d f).power = s.power := by cases d <;> rfl
@[simp] theorem State.updDirCounts_clock (s : State) (d : Direction) (f : DirCounts → DirCounts) : (s.updDirCounts d f).clock = s.clock := by cases d <;> rfl
@[simp] theorem State.updDirCounts_config (s : State) (d : Direction) (f : DirCounts → DirCounts) : (s.updDirCounts d f).config = s.config := by cases d <;> rfl
@[simp] theorem State.updDirCounts_ports (s : State) (d : Direction) (f : DirCounts → DirCounts) : (s.updDirCounts d f).ports = s.ports := by cases d <;> rfl
@[simp] theorem State.updDirCounts_stations (s : State) (d : Direction) (f : DirCounts → DirCounts) : (s.updDirCounts d f).stations = s.stations := by cases d <;> rfl
@[simp] theorem State.updDirCounts_comps (s : State) (d : Direction) (f : DirCounts → DirCounts) : (s.updDirCounts d f).comps = s.comps := by cases d <;> rfl
@[simp] theorem State.updDirCounts_classes (s : State) (d : Direction) (f : DirCounts → DirCounts) : (s.updDirCounts d f).classes = s.classes := by cases d <;> rfl
@[simp] theorem State.updDirCounts_route (s : State) (d : Direction) (f : DirCounts → DirCounts) : (s.updDirCounts d f).route = s.route := by cases d <;> rfl
@[simp] theorem State.updDirCounts_drops (s : State) (d : Direction) (f : DirCounts → DirCounts) : (s.updDirCounts d f).drops = s.drops := by cases d <;> rfl
@[simp] theorem State.updDirCounts_contexts (s : State) (d : Direction) (f : DirCounts → DirCounts) : (s.updDirCounts d f).contexts = s.contexts := by cases d <;> rfl
@[simp] theorem State.updDirCounts_stopCounts (s : State) (d : Direction) (f : DirCounts → DirCounts) : (s.updDirCounts d f).stopCounts = s.stopCounts := by cases d <;> rfl
@[simp] theorem State.updDirCounts_store (s : State) (d : Direction) (f : DirCounts → DirCounts) : (s.updDirCounts d f).store = s.store := by cases d <;> rfl
@[simp] theorem State.updDirCounts_claims (s : State) (d : Direction) (f : DirCounts → DirCounts) : (s.updDirCounts d f).claims = s.claims := by cases d <;> rfl
@[simp] theorem State.updDirCounts_alerts (s : State) (d : Direction) (f : DirCounts → DirCounts) : (s.updDirCounts d f).alerts = s.alerts := by cases d <;> rfl
@[simp] theorem State.updDirCounts_agent (s : State) (d : Direction) (f : DirCounts → DirCounts) : (s.updDirCounts d f).agent = s.agent := by cases d <;> rfl
@[simp] theorem State.updDirCounts_array (s : State) (d : Direction) (f : DirCounts → DirCounts) : (s.updDirCounts d f).array = s.array := by cases d <;> rfl
@[simp] theorem State.updDirCounts_completions (s : State) (d : Direction) (f : DirCounts → DirCounts) : (s.updDirCounts d f).completions = s.completions := by cases d <;> rfl

/-! ### Raising an alert -/

@[simp] theorem raise_pending (k : AlertCode) (x : Subject) (v : Option Int) (s : State) : (raise k x v s).pending = s.pending := rfl
@[simp] theorem raise_power (k : AlertCode) (x : Subject) (v : Option Int) (s : State) : (raise k x v s).power = s.power := rfl
@[simp] theorem raise_clock (k : AlertCode) (x : Subject) (v : Option Int) (s : State) : (raise k x v s).clock = s.clock := rfl
@[simp] theorem raise_config (k : AlertCode) (x : Subject) (v : Option Int) (s : State) : (raise k x v s).config = s.config := rfl
@[simp] theorem raise_pass (k : AlertCode) (x : Subject) (v : Option Int) (s : State) : (raise k x v s).pass = s.pass := rfl
@[simp] theorem raise_stations (k : AlertCode) (x : Subject) (v : Option Int) (s : State) : (raise k x v s).stations = s.stations := rfl
@[simp] theorem raise_comps (k : AlertCode) (x : Subject) (v : Option Int) (s : State) : (raise k x v s).comps = s.comps := rfl
@[simp] theorem raise_classes (k : AlertCode) (x : Subject) (v : Option Int) (s : State) : (raise k x v s).classes = s.classes := rfl
@[simp] theorem raise_route (k : AlertCode) (x : Subject) (v : Option Int) (s : State) : (raise k x v s).route = s.route := rfl
@[simp] theorem raise_drops (k : AlertCode) (x : Subject) (v : Option Int) (s : State) : (raise k x v s).drops = s.drops := rfl
@[simp] theorem raise_contexts (k : AlertCode) (x : Subject) (v : Option Int) (s : State) : (raise k x v s).contexts = s.contexts := rfl
@[simp] theorem raise_stopCounts (k : AlertCode) (x : Subject) (v : Option Int) (s : State) : (raise k x v s).stopCounts = s.stopCounts := rfl
@[simp] theorem raise_store (k : AlertCode) (x : Subject) (v : Option Int) (s : State) : (raise k x v s).store = s.store := rfl
@[simp] theorem raise_claims (k : AlertCode) (x : Subject) (v : Option Int) (s : State) : (raise k x v s).claims = s.claims := rfl
@[simp] theorem raise_agent (k : AlertCode) (x : Subject) (v : Option Int) (s : State) : (raise k x v s).agent = s.agent := rfl
@[simp] theorem raise_array (k : AlertCode) (x : Subject) (v : Option Int) (s : State) : (raise k x v s).array = s.array := rfl
@[simp] theorem raise_completions (k : AlertCode) (x : Subject) (v : Option Int) (s : State) : (raise k x v s).completions = s.completions := rfl
@[simp] theorem raise_ports_field (k : AlertCode) (x : Subject) (v : Option Int) (s : State) : (raise k x v s).ports.field = s.ports.field := rfl
@[simp] theorem raise_ports_trunk (k : AlertCode) (x : Subject) (v : Option Int) (s : State) : (raise k x v s).ports.trunk = s.ports.trunk := rfl
@[simp] theorem raise_ports_reserved (k : AlertCode) (x : Subject) (v : Option Int) (s : State) : (raise k x v s).ports.reserved = s.ports.reserved := rfl
@[simp] theorem raise_ports_linkUp (k : AlertCode) (x : Subject) (v : Option Int) (s : State) : (raise k x v s).ports.linkUp = s.ports.linkUp := rfl
@[simp] theorem raise_ports_mgmtDiscards (k : AlertCode) (x : Subject) (v : Option Int) (s : State) : (raise k x v s).ports.mgmtDiscards = s.ports.mgmtDiscards := rfl
@[simp] theorem raise_alerts_mask (k : AlertCode) (x : Subject) (v : Option Int) (s : State) : (raise k x v s).alerts.mask = s.alerts.mask := rfl
/-! ### Readings after a change elsewhere -/

@[simp] theorem State.setComp_read_slot (s : State) (c : Fin 4) (v : Comp) (j : Fin 256) : (s.setComp c v).slot j = s.slot j := rfl
@[simp] theorem State.setComp_read_now (s : State) (c : Fin 4) (v : Comp) : (s.setComp c v).now = s.now := rfl
@[simp] theorem State.setComp_read_lockedOut (s : State) (c : Fin 4) (v : Comp) : (s.setComp c v).lockedOut = s.lockedOut := rfl
@[simp] theorem State.setComp_read_onRoute (s : State) (c : Fin 4) (v : Comp) : (s.setComp c v).onRoute = s.onRoute := rfl
@[simp] theorem State.setComp_read_findDrop (s : State) (c : Fin 4) (v : Comp) (m : Nat) : (s.setComp c v).findDrop m = s.findDrop m := rfl
@[simp] theorem State.setComp_read_findContext (s : State) (c : Fin 4) (v : Comp) (m : Nat) : (s.setComp c v).findContext m = s.findContext m := rfl
@[simp] theorem State.setComp_read_findStation (s : State) (c : Fin 4) (v : Comp) (x : Byte) : (s.setComp c v).findStation x = s.findStation x := rfl
@[simp] theorem State.setComp_read_liveDrop (s : State) (c : Fin 4) (v : Comp) : (s.setComp c v).liveDrop = s.liveDrop := rfl
@[simp] theorem State.updComp_read_slot (s : State) (c : Fin 4) (f : Comp → Comp) (j : Fin 256) : (s.updComp c f).slot j = s.slot j := rfl
@[simp] theorem State.updComp_read_now (s : State) (c : Fin 4) (f : Comp → Comp) : (s.updComp c f).now = s.now := rfl
@[simp] theorem State.updComp_read_lockedOut (s : State) (c : Fin 4) (f : Comp → Comp) : (s.updComp c f).lockedOut = s.lockedOut := rfl
@[simp] theorem State.updComp_read_onRoute (s : State) (c : Fin 4) (f : Comp → Comp) : (s.updComp c f).onRoute = s.onRoute := rfl
@[simp] theorem State.updComp_read_findDrop (s : State) (c : Fin 4) (f : Comp → Comp) (m : Nat) : (s.updComp c f).findDrop m = s.findDrop m := rfl
@[simp] theorem State.updComp_read_findContext (s : State) (c : Fin 4) (f : Comp → Comp) (m : Nat) : (s.updComp c f).findContext m = s.findContext m := rfl
@[simp] theorem State.updComp_read_findStation (s : State) (c : Fin 4) (f : Comp → Comp) (x : Byte) : (s.updComp c f).findStation x = s.findStation x := rfl
@[simp] theorem State.updComp_read_liveDrop (s : State) (c : Fin 4) (f : Comp → Comp) : (s.updComp c f).liveDrop = s.liveDrop := rfl
@[simp] theorem State.updAccount_read_slot (s : State) (c : Fin 4) (f : Account → Account) (j : Fin 256) : (s.updAccount c f).slot j = s.slot j := rfl
@[simp] theorem State.updAccount_read_now (s : State) (c : Fin 4) (f : Account → Account) : (s.updAccount c f).now = s.now := rfl
@[simp] theorem State.updAccount_read_lockedOut (s : State) (c : Fin 4) (f : Account → Account) : (s.updAccount c f).lockedOut = s.lockedOut := rfl
@[simp] theorem State.updAccount_read_onRoute (s : State) (c : Fin 4) (f : Account → Account) : (s.updAccount c f).onRoute = s.onRoute := rfl
@[simp] theorem State.updAccount_read_findDrop (s : State) (c : Fin 4) (f : Account → Account) (m : Nat) : (s.updAccount c f).findDrop m = s.findDrop m := rfl
@[simp] theorem State.updAccount_read_findContext (s : State) (c : Fin 4) (f : Account → Account) (m : Nat) : (s.updAccount c f).findContext m = s.findContext m := rfl
@[simp] theorem State.updAccount_read_findStation (s : State) (c : Fin 4) (f : Account → Account) (x : Byte) : (s.updAccount c f).findStation x = s.findStation x := rfl
@[simp] theorem State.updAccount_read_liveDrop (s : State) (c : Fin 4) (f : Account → Account) : (s.updAccount c f).liveDrop = s.liveDrop := rfl
@[simp] theorem State.updWindow_read_slot (s : State) (c : Fin 4) (f : Window → Window) (j : Fin 256) : (s.updWindow c f).slot j = s.slot j := rfl
@[simp] theorem State.updWindow_read_now (s : State) (c : Fin 4) (f : Window → Window) : (s.updWindow c f).now = s.now := rfl
@[simp] theorem State.updWindow_read_lockedOut (s : State) (c : Fin 4) (f : Window → Window) : (s.updWindow c f).lockedOut = s.lockedOut := rfl
@[simp] theorem State.updWindow_read_onRoute (s : State) (c : Fin 4) (f : Window → Window) : (s.updWindow c f).onRoute = s.onRoute := rfl
@[simp] theorem State.updWindow_read_findDrop (s : State) (c : Fin 4) (f : Window → Window) (m : Nat) : (s.updWindow c f).findDrop m = s.findDrop m := rfl
@[simp] theorem State.updWindow_read_findContext (s : State) (c : Fin 4) (f : Window → Window) (m : Nat) : (s.updWindow c f).findContext m = s.findContext m := rfl
@[simp] theorem State.updWindow_read_findStation (s : State) (c : Fin 4) (f : Window → Window) (x : Byte) : (s.updWindow c f).findStation x = s.findStation x := rfl
@[simp] theorem State.updWindow_read_liveDrop (s : State) (c : Fin 4) (f : Window → Window) : (s.updWindow c f).liveDrop = s.liveDrop := rfl
@[simp] theorem State.updDoor_read_slot (s : State) (c : Fin 4) (p : Fin 2) (f : DoorSlot → DoorSlot) (j : Fin 256) : (s.updDoor c p f).slot j = s.slot j := rfl
@[simp] theorem State.updDoor_read_now (s : State) (c : Fin 4) (p : Fin 2) (f : DoorSlot → DoorSlot) : (s.updDoor c p f).now = s.now := rfl
@[simp] theorem State.updDoor_read_lockedOut (s : State) (c : Fin 4) (p : Fin 2) (f : DoorSlot → DoorSlot) : (s.updDoor c p f).lockedOut = s.lockedOut := rfl
@[simp] theorem State.updDoor_read_onRoute (s : State) (c : Fin 4) (p : Fin 2) (f : DoorSlot → DoorSlot) : (s.updDoor c p f).onRoute = s.onRoute := rfl
@[simp] theorem State.updDoor_read_findDrop (s : State) (c : Fin 4) (p : Fin 2) (f : DoorSlot → DoorSlot) (m : Nat) : (s.updDoor c p f).findDrop m = s.findDrop m := rfl
@[simp] theorem State.updDoor_read_findContext (s : State) (c : Fin 4) (p : Fin 2) (f : DoorSlot → DoorSlot) (m : Nat) : (s.updDoor c p f).findContext m = s.findContext m := rfl
@[simp] theorem State.updDoor_read_findStation (s : State) (c : Fin 4) (p : Fin 2) (f : DoorSlot → DoorSlot) (x : Byte) : (s.updDoor c p f).findStation x = s.findStation x := rfl
@[simp] theorem State.updDoor_read_liveDrop (s : State) (c : Fin 4) (p : Fin 2) (f : DoorSlot → DoorSlot) : (s.updDoor c p f).liveDrop = s.liveDrop := rfl
@[simp] theorem State.setCommitted_read_slot (s : State) (c : Fin 4) (t : Nat) (j : Fin 256) : (s.setCommitted c t).slot j = s.slot j := rfl
@[simp] theorem State.setCommitted_read_now (s : State) (c : Fin 4) (t : Nat) : (s.setCommitted c t).now = s.now := rfl
@[simp] theorem State.setCommitted_read_lockedOut (s : State) (c : Fin 4) (t : Nat) : (s.setCommitted c t).lockedOut = s.lockedOut := rfl
@[simp] theorem State.setCommitted_read_onRoute (s : State) (c : Fin 4) (t : Nat) : (s.setCommitted c t).onRoute = s.onRoute := rfl
@[simp] theorem State.setCommitted_read_findDrop (s : State) (c : Fin 4) (t : Nat) (m : Nat) : (s.setCommitted c t).findDrop m = s.findDrop m := rfl
@[simp] theorem State.setCommitted_read_findContext (s : State) (c : Fin 4) (t : Nat) (m : Nat) : (s.setCommitted c t).findContext m = s.findContext m := rfl
@[simp] theorem State.setCommitted_read_findStation (s : State) (c : Fin 4) (t : Nat) (x : Byte) : (s.setCommitted c t).findStation x = s.findStation x := rfl
@[simp] theorem State.setCommitted_read_liveDrop (s : State) (c : Fin 4) (t : Nat) : (s.setCommitted c t).liveDrop = s.liveDrop := rfl
@[simp] theorem State.updDrop_read_comp (s : State) (n : Nat) (f : Drop → Drop) (k : Fin 4) : (s.updDrop n f).comp k = s.comp k := rfl
@[simp] theorem State.updDrop_read_slot (s : State) (n : Nat) (f : Drop → Drop) (j : Fin 256) : (s.updDrop n f).slot j = s.slot j := rfl
@[simp] theorem State.updDrop_read_now (s : State) (n : Nat) (f : Drop → Drop) : (s.updDrop n f).now = s.now := rfl
@[simp] theorem State.updDrop_read_lockedOut (s : State) (n : Nat) (f : Drop → Drop) : (s.updDrop n f).lockedOut = s.lockedOut := rfl
@[simp] theorem State.updDrop_read_onRoute (s : State) (n : Nat) (f : Drop → Drop) : (s.updDrop n f).onRoute = s.onRoute := rfl
@[simp] theorem State.updDrop_read_findContext (s : State) (n : Nat) (f : Drop → Drop) (m : Nat) : (s.updDrop n f).findContext m = s.findContext m := rfl
@[simp] theorem State.updDrop_read_findStation (s : State) (n : Nat) (f : Drop → Drop) (x : Byte) : (s.updDrop n f).findStation x = s.findStation x := rfl
@[simp] theorem State.updContext_read_comp (s : State) (n : Nat) (f : Context → Context) (k : Fin 4) : (s.updContext n f).comp k = s.comp k := rfl
@[simp] theorem State.updContext_read_slot (s : State) (n : Nat) (f : Context → Context) (j : Fin 256) : (s.updContext n f).slot j = s.slot j := rfl
@[simp] theorem State.updContext_read_now (s : State) (n : Nat) (f : Context → Context) : (s.updContext n f).now = s.now := rfl
@[simp] theorem State.updContext_read_lockedOut (s : State) (n : Nat) (f : Context → Context) : (s.updContext n f).lockedOut = s.lockedOut := rfl
@[simp] theorem State.updContext_read_onRoute (s : State) (n : Nat) (f : Context → Context) : (s.updContext n f).onRoute = s.onRoute := rfl
@[simp] theorem State.updContext_read_findDrop (s : State) (n : Nat) (f : Context → Context) (m : Nat) : (s.updContext n f).findDrop m = s.findDrop m := rfl
@[simp] theorem State.updContext_read_findStation (s : State) (n : Nat) (f : Context → Context) (x : Byte) : (s.updContext n f).findStation x = s.findStation x := rfl
@[simp] theorem State.updContext_read_liveDrop (s : State) (n : Nat) (f : Context → Context) : (s.updContext n f).liveDrop = s.liveDrop := rfl
@[simp] theorem State.updStation_read_comp (s : State) (a : Byte) (f : Station → Station) (k : Fin 4) : (s.updStation a f).comp k = s.comp k := rfl
@[simp] theorem State.updStation_read_slot (s : State) (a : Byte) (f : Station → Station) (j : Fin 256) : (s.updStation a f).slot j = s.slot j := rfl
@[simp] theorem State.updStation_read_now (s : State) (a : Byte) (f : Station → Station) : (s.updStation a f).now = s.now := rfl
@[simp] theorem State.updStation_read_lockedOut (s : State) (a : Byte) (f : Station → Station) : (s.updStation a f).lockedOut = s.lockedOut := rfl
@[simp] theorem State.updStation_read_onRoute (s : State) (a : Byte) (f : Station → Station) : (s.updStation a f).onRoute = s.onRoute := rfl
@[simp] theorem State.updStation_read_findDrop (s : State) (a : Byte) (f : Station → Station) (m : Nat) : (s.updStation a f).findDrop m = s.findDrop m := rfl
@[simp] theorem State.updStation_read_findContext (s : State) (a : Byte) (f : Station → Station) (m : Nat) : (s.updStation a f).findContext m = s.findContext m := rfl
@[simp] theorem State.updStation_read_liveDrop (s : State) (a : Byte) (f : Station → Station) : (s.updStation a f).liveDrop = s.liveDrop := rfl
@[simp] theorem State.updStations_read_comp (s : State) (f : StationTable → StationTable) (k : Fin 4) : (s.updStations f).comp k = s.comp k := rfl
@[simp] theorem State.updStations_read_slot (s : State) (f : StationTable → StationTable) (j : Fin 256) : (s.updStations f).slot j = s.slot j := rfl
@[simp] theorem State.updStations_read_now (s : State) (f : StationTable → StationTable) : (s.updStations f).now = s.now := rfl
@[simp] theorem State.updStations_read_lockedOut (s : State) (f : StationTable → StationTable) : (s.updStations f).lockedOut = s.lockedOut := rfl
@[simp] theorem State.updStations_read_onRoute (s : State) (f : StationTable → StationTable) : (s.updStations f).onRoute = s.onRoute := rfl
@[simp] theorem State.updStations_read_findDrop (s : State) (f : StationTable → StationTable) (m : Nat) : (s.updStations f).findDrop m = s.findDrop m := rfl
@[simp] theorem State.updStations_read_findContext (s : State) (f : StationTable → StationTable) (m : Nat) : (s.updStations f).findContext m = s.findContext m := rfl
@[simp] theorem State.updStations_read_liveDrop (s : State) (f : StationTable → StationTable) : (s.updStations f).liveDrop = s.liveDrop := rfl
@[simp] theorem State.updStopCounts_read_comp (s : State) (f : StopCounts → StopCounts) (k : Fin 4) : (s.updStopCounts f).comp k = s.comp k := rfl
@[simp] theorem State.updStopCounts_read_slot (s : State) (f : StopCounts → StopCounts) (j : Fin 256) : (s.updStopCounts f).slot j = s.slot j := rfl
@[simp] theorem State.updStopCounts_read_now (s : State) (f : StopCounts → StopCounts) : (s.updStopCounts f).now = s.now := rfl
@[simp] theorem State.updStopCounts_read_lockedOut (s : State) (f : StopCounts → StopCounts) : (s.updStopCounts f).lockedOut = s.lockedOut := rfl
@[simp] theorem State.updStopCounts_read_onRoute (s : State) (f : StopCounts → StopCounts) : (s.updStopCounts f).onRoute = s.onRoute := rfl
@[simp] theorem State.updStopCounts_read_findDrop (s : State) (f : StopCounts → StopCounts) (m : Nat) : (s.updStopCounts f).findDrop m = s.findDrop m := rfl
@[simp] theorem State.updStopCounts_read_findContext (s : State) (f : StopCounts → StopCounts) (m : Nat) : (s.updStopCounts f).findContext m = s.findContext m := rfl
@[simp] theorem State.updStopCounts_read_findStation (s : State) (f : StopCounts → StopCounts) (x : Byte) : (s.updStopCounts f).findStation x = s.findStation x := rfl
@[simp] theorem State.updStopCounts_read_liveDrop (s : State) (f : StopCounts → StopCounts) : (s.updStopCounts f).liveDrop = s.liveDrop := rfl
@[simp] theorem State.updClaimCounts_read_comp (s : State) (f : ClaimCounts → ClaimCounts) (k : Fin 4) : (s.updClaimCounts f).comp k = s.comp k := rfl
@[simp] theorem State.updClaimCounts_read_slot (s : State) (f : ClaimCounts → ClaimCounts) (j : Fin 256) : (s.updClaimCounts f).slot j = s.slot j := rfl
@[simp] theorem State.updClaimCounts_read_now (s : State) (f : ClaimCounts → ClaimCounts) : (s.updClaimCounts f).now = s.now := rfl
@[simp] theorem State.updClaimCounts_read_lockedOut (s : State) (f : ClaimCounts → ClaimCounts) : (s.updClaimCounts f).lockedOut = s.lockedOut := rfl
@[simp] theorem State.updClaimCounts_read_onRoute (s : State) (f : ClaimCounts → ClaimCounts) : (s.updClaimCounts f).onRoute = s.onRoute := rfl
@[simp] theorem State.updClaimCounts_read_findDrop (s : State) (f : ClaimCounts → ClaimCounts) (m : Nat) : (s.updClaimCounts f).findDrop m = s.findDrop m := rfl
@[simp] theorem State.updClaimCounts_read_findContext (s : State) (f : ClaimCounts → ClaimCounts) (m : Nat) : (s.updClaimCounts f).findContext m = s.findContext m := rfl
@[simp] theorem State.updClaimCounts_read_findStation (s : State) (f : ClaimCounts → ClaimCounts) (x : Byte) : (s.updClaimCounts f).findStation x = s.findStation x := rfl
@[simp] theorem State.updClaimCounts_read_liveDrop (s : State) (f : ClaimCounts → ClaimCounts) : (s.updClaimCounts f).liveDrop = s.liveDrop := rfl
@[simp] theorem State.updStoreCounts_read_comp (s : State) (f : StoreCounts → StoreCounts) (k : Fin 4) : (s.updStoreCounts f).comp k = s.comp k := rfl
@[simp] theorem State.updStoreCounts_read_now (s : State) (f : StoreCounts → StoreCounts) : (s.updStoreCounts f).now = s.now := rfl
@[simp] theorem State.updStoreCounts_read_onRoute (s : State) (f : StoreCounts → StoreCounts) : (s.updStoreCounts f).onRoute = s.onRoute := rfl
@[simp] theorem State.updStoreCounts_read_findDrop (s : State) (f : StoreCounts → StoreCounts) (m : Nat) : (s.updStoreCounts f).findDrop m = s.findDrop m := rfl
@[simp] theorem State.updStoreCounts_read_findContext (s : State) (f : StoreCounts → StoreCounts) (m : Nat) : (s.updStoreCounts f).findContext m = s.findContext m := rfl
@[simp] theorem State.updStoreCounts_read_findStation (s : State) (f : StoreCounts → StoreCounts) (x : Byte) : (s.updStoreCounts f).findStation x = s.findStation x := rfl
@[simp] theorem State.updStoreCounts_read_liveDrop (s : State) (f : StoreCounts → StoreCounts) : (s.updStoreCounts f).liveDrop = s.liveDrop := rfl
@[simp] theorem State.setSlot_read_comp (s : State) (i : Fin 256) (v : Slot) (k : Fin 4) : (s.setSlot i v).comp k = s.comp k := rfl
@[simp] theorem State.setSlot_read_now (s : State) (i : Fin 256) (v : Slot) : (s.setSlot i v).now = s.now := rfl
@[simp] theorem State.setSlot_read_onRoute (s : State) (i : Fin 256) (v : Slot) : (s.setSlot i v).onRoute = s.onRoute := rfl
@[simp] theorem State.setSlot_read_findDrop (s : State) (i : Fin 256) (v : Slot) (m : Nat) : (s.setSlot i v).findDrop m = s.findDrop m := rfl
@[simp] theorem State.setSlot_read_findContext (s : State) (i : Fin 256) (v : Slot) (m : Nat) : (s.setSlot i v).findContext m = s.findContext m := rfl
@[simp] theorem State.setSlot_read_findStation (s : State) (i : Fin 256) (v : Slot) (x : Byte) : (s.setSlot i v).findStation x = s.findStation x := rfl
@[simp] theorem State.setSlot_read_liveDrop (s : State) (i : Fin 256) (v : Slot) : (s.setSlot i v).liveDrop = s.liveDrop := rfl
@[simp] theorem State.afterRead_read_comp (s : State) (k : Fin 4) : (s.afterRead).comp k = s.comp k := rfl
@[simp] theorem State.afterRead_read_slot (s : State) (j : Fin 256) : (s.afterRead).slot j = s.slot j := rfl
@[simp] theorem State.afterRead_read_now (s : State) : (s.afterRead).now = s.now := rfl
@[simp] theorem State.afterRead_read_lockedOut (s : State) : (s.afterRead).lockedOut = s.lockedOut := rfl
@[simp] theorem State.afterRead_read_onRoute (s : State) : (s.afterRead).onRoute = s.onRoute := rfl
@[simp] theorem State.afterRead_read_findDrop (s : State) (m : Nat) : (s.afterRead).findDrop m = s.findDrop m := rfl
@[simp] theorem State.afterRead_read_findContext (s : State) (m : Nat) : (s.afterRead).findContext m = s.findContext m := rfl
@[simp] theorem State.afterRead_read_findStation (s : State) (x : Byte) : (s.afterRead).findStation x = s.findStation x := rfl
@[simp] theorem State.afterRead_read_liveDrop (s : State) : (s.afterRead).liveDrop = s.liveDrop := rfl
@[simp] theorem State.updPort_read_comp (s : State) (p : Port) (f : PortUnit → PortUnit) (k : Fin 4) : (s.updPort p f).comp k = s.comp k := by cases p <;> rfl
@[simp] theorem State.updPort_read_slot (s : State) (p : Port) (f : PortUnit → PortUnit) (j : Fin 256) : (s.updPort p f).slot j = s.slot j := by cases p <;> rfl
@[simp] theorem State.updPort_read_now (s : State) (p : Port) (f : PortUnit → PortUnit) : (s.updPort p f).now = s.now := by cases p <;> rfl
@[simp] theorem State.updPort_read_lockedOut (s : State) (p : Port) (f : PortUnit → PortUnit) : (s.updPort p f).lockedOut = s.lockedOut := by cases p <;> rfl
@[simp] theorem State.updPort_read_onRoute (s : State) (p : Port) (f : PortUnit → PortUnit) : (s.updPort p f).onRoute = s.onRoute := by cases p <;> rfl
@[simp] theorem State.updPort_read_findDrop (s : State) (p : Port) (f : PortUnit → PortUnit) (m : Nat) : (s.updPort p f).findDrop m = s.findDrop m := by cases p <;> rfl
@[simp] theorem State.updPort_read_findContext (s : State) (p : Port) (f : PortUnit → PortUnit) (m : Nat) : (s.updPort p f).findContext m = s.findContext m := by cases p <;> rfl
@[simp] theorem State.updPort_read_findStation (s : State) (p : Port) (f : PortUnit → PortUnit) (x : Byte) : (s.updPort p f).findStation x = s.findStation x := by cases p <;> rfl
@[simp] theorem State.updPort_read_liveDrop (s : State) (p : Port) (f : PortUnit → PortUnit) : (s.updPort p f).liveDrop = s.liveDrop := by cases p <;> rfl
@[simp] theorem State.updPortCounts_read_comp (s : State) (p : Port) (f : PortCounts → PortCounts) (k : Fin 4) : (s.updPortCounts p f).comp k = s.comp k := by cases p <;> rfl
@[simp] theorem State.updPortCounts_read_slot (s : State) (p : Port) (f : PortCounts → PortCounts) (j : Fin 256) : (s.updPortCounts p f).slot j = s.slot j := by cases p <;> rfl
@[simp] theorem State.updPortCounts_read_now (s : State) (p : Port) (f : PortCounts → PortCounts) : (s.updPortCounts p f).now = s.now := by cases p <;> rfl
@[simp] theorem State.updPortCounts_read_lockedOut (s : State) (p : Port) (f : PortCounts → PortCounts) : (s.updPortCounts p f).lockedOut = s.lockedOut := by cases p <;> rfl
@[simp] theorem State.updPortCounts_read_onRoute (s : State) (p : Port) (f : PortCounts → PortCounts) : (s.updPortCounts p f).onRoute = s.onRoute := by cases p <;> rfl
@[simp] theorem State.updPortCounts_read_findDrop (s : State) (p : Port) (f : PortCounts → PortCounts) (m : Nat) : (s.updPortCounts p f).findDrop m = s.findDrop m := by cases p <;> rfl
@[simp] theorem State.updPortCounts_read_findContext (s : State) (p : Port) (f : PortCounts → PortCounts) (m : Nat) : (s.updPortCounts p f).findContext m = s.findContext m := by cases p <;> rfl
@[simp] theorem State.updPortCounts_read_findStation (s : State) (p : Port) (f : PortCounts → PortCounts) (x : Byte) : (s.updPortCounts p f).findStation x = s.findStation x := by cases p <;> rfl
@[simp] theorem State.updPortCounts_read_liveDrop (s : State) (p : Port) (f : PortCounts → PortCounts) : (s.updPortCounts p f).liveDrop = s.liveDrop := by cases p <;> rfl
@[simp] theorem State.freshCheck_read_comp (s : State) (k : Fin 4) : (s.freshCheck).comp k = s.comp k := rfl
@[simp] theorem State.freshCheck_read_slot (s : State) (j : Fin 256) : (s.freshCheck).slot j = s.slot j := rfl
@[simp] theorem State.freshCheck_read_now (s : State) : (s.freshCheck).now = s.now := rfl
@[simp] theorem State.freshCheck_read_lockedOut (s : State) : (s.freshCheck).lockedOut = s.lockedOut := rfl
@[simp] theorem State.freshCheck_read_onRoute (s : State) : (s.freshCheck).onRoute = s.onRoute := rfl
@[simp] theorem State.freshCheck_read_findDrop (s : State) (m : Nat) : (s.freshCheck).findDrop m = s.findDrop m := rfl
@[simp] theorem State.freshCheck_read_findContext (s : State) (m : Nat) : (s.freshCheck).findContext m = s.findContext m := rfl
@[simp] theorem State.freshCheck_read_findStation (s : State) (x : Byte) : (s.freshCheck).findStation x = s.findStation x := rfl
@[simp] theorem State.freshCheck_read_liveDrop (s : State) : (s.freshCheck).liveDrop = s.liveDrop := rfl
@[simp] theorem State.updDirCounts_read_comp (s : State) (d : Direction) (f : DirCounts → DirCounts) (k : Fin 4) : (s.updDirCounts d f).comp k = s.comp k := by cases d <;> rfl
@[simp] theorem State.updDirCounts_read_slot (s : State) (d : Direction) (f : DirCounts → DirCounts) (j : Fin 256) : (s.updDirCounts d f).slot j = s.slot j := by cases d <;> rfl
@[simp] theorem State.updDirCounts_read_now (s : State) (d : Direction) (f : DirCounts → DirCounts) : (s.updDirCounts d f).now = s.now := by cases d <;> rfl
@[simp] theorem State.updDirCounts_read_lockedOut (s : State) (d : Direction) (f : DirCounts → DirCounts) : (s.updDirCounts d f).lockedOut = s.lockedOut := by cases d <;> rfl
@[simp] theorem State.updDirCounts_read_onRoute (s : State) (d : Direction) (f : DirCounts → DirCounts) : (s.updDirCounts d f).onRoute = s.onRoute := by cases d <;> rfl
@[simp] theorem State.updDirCounts_read_findDrop (s : State) (d : Direction) (f : DirCounts → DirCounts) (m : Nat) : (s.updDirCounts d f).findDrop m = s.findDrop m := by cases d <;> rfl
@[simp] theorem State.updDirCounts_read_findContext (s : State) (d : Direction) (f : DirCounts → DirCounts) (m : Nat) : (s.updDirCounts d f).findContext m = s.findContext m := by cases d <;> rfl
@[simp] theorem State.updDirCounts_read_findStation (s : State) (d : Direction) (f : DirCounts → DirCounts) (x : Byte) : (s.updDirCounts d f).findStation x = s.findStation x := by cases d <;> rfl
@[simp] theorem State.updDirCounts_read_liveDrop (s : State) (d : Direction) (f : DirCounts → DirCounts) : (s.updDirCounts d f).liveDrop = s.liveDrop := by cases d <;> rfl
@[simp] theorem State.setSlot_read_lockedOut (s : State) (i : Fin 256) (v : Slot) : (s.setSlot i v).lockedOut = s.lockedOut := rfl
@[simp] theorem State.updStoreCounts_read_lockedOut (s : State) (f : StoreCounts → StoreCounts) : (s.updStoreCounts f).lockedOut = s.lockedOut := rfl
@[simp] theorem State.updStoreCounts_read_slot (s : State) (f : StoreCounts → StoreCounts) (j : Fin 256) : (s.updStoreCounts f).slot j = s.slot j := rfl
@[simp] theorem raise_onRoute (k : AlertCode) (y : Subject) (v : Option Int) (s : State) : (raise k y v s).onRoute = s.onRoute := rfl
@[simp] theorem raise_findDrop (k : AlertCode) (y : Subject) (v : Option Int) (s : State) (m : Nat) : (raise k y v s).findDrop m = s.findDrop m := rfl
@[simp] theorem raise_findContext (k : AlertCode) (y : Subject) (v : Option Int) (s : State) (m : Nat) : (raise k y v s).findContext m = s.findContext m := rfl
@[simp] theorem raise_findStation (k : AlertCode) (y : Subject) (v : Option Int) (s : State) (x : Byte) : (raise k y v s).findStation x = s.findStation x := rfl
@[simp] theorem raise_liveDrop (k : AlertCode) (y : Subject) (v : Option Int) (s : State) : (raise k y v s).liveDrop = s.liveDrop := rfl

/-! ### Readings that a change elsewhere does not move -/

/-- Reading a compartment depends on the compartments alone. -/
theorem State.comp_congr {s t : State} (h : t.comps = s.comps) (c : Fin 4) : t.comp c = s.comp c := by
  simp only [State.comp, h]

/-- Reading a slot depends on the slots alone. -/
theorem State.slot_congr {s t : State} (h : t.store.slots = s.store.slots) (i : Fin 256) : t.slot i = s.slot i := by
  simp only [State.slot, h]

/-- The compartment written is read back, and the others stay. -/
theorem State.setComp_comp (s : State) (c k : Fin 4) (v : Comp) : (s.setComp c v).comp k = if k = c then v else s.comp k := by
  simp only [State.comp, State.setComp, Fin.getElem_fin]
  rw [Vector.getElem_set]
  by_cases h : k = c
  · subst h; simp
  · have h' : c.val ≠ k.val := fun e => h (Fin.ext e.symm)
    simp [h, h']

@[simp] theorem State.setComp_comp_self (s : State) (c : Fin 4) (v : Comp) : (s.setComp c v).comp c = v := by
  simp [State.setComp_comp]

/-- The compartment changed is read back changed, and the others stay. -/
theorem State.updComp_comp (s : State) (c k : Fin 4) (f : Comp → Comp) :
    (s.updComp c f).comp k = if k = c then f (s.comp c) else s.comp k := by
  simp only [State.updComp, State.setComp_comp]

@[simp] theorem State.updComp_comp_self (s : State) (c : Fin 4) (f : Comp → Comp) : (s.updComp c f).comp c = f (s.comp c) := by
  simp [State.updComp_comp]

/-- The slot written is read back, and the others stay. -/
theorem State.setSlot_slot (s : State) (i j : Fin 256) (v : Slot) : (s.setSlot i v).slot j = if j = i then v else s.slot j := by
  simp only [State.slot, State.setSlot, Fin.getElem_fin]
  rw [Vector.getElem_set]
  by_cases h : j = i
  · subst h; simp
  · have h' : i.val ≠ j.val := fun e => h (Fin.ext e.symm)
    simp [h, h']

@[simp] theorem State.setSlot_slot_self (s : State) (i : Fin 256) (v : Slot) : (s.setSlot i v).slot i = v := by
  simp [State.setSlot_slot]

@[simp] theorem raise_comp (k : AlertCode) (x : Subject) (v : Option Int) (s : State) (c : Fin 4) :
    (raise k x v s).comp c = s.comp c := rfl
@[simp] theorem raise_slot (k : AlertCode) (x : Subject) (v : Option Int) (s : State) (i : Fin 256) :
    (raise k x v s).slot i = s.slot i := rfl
@[simp] theorem raise_now (k : AlertCode) (x : Subject) (v : Option Int) (s : State) : (raise k x v s).now = s.now := rfl
@[simp] theorem raise_lockedOut (k : AlertCode) (x : Subject) (v : Option Int) (s : State) :
    (raise k x v s).lockedOut = s.lockedOut := rfl

end Sys2Proof.Machine
end

