-- ==== Sys2Proof/Laws/Frames.lean ====
section
/-! SUPPORT. What the Proof Store's and the Claim Unit's operations leave alone and keep, said once for each. -/
namespace Sys2Proof.Machine

/-- The bounds of the reply and alert queues that hold inside a command as well, its reply place reserved. -/
def State.RepliesFit (s : State) : Prop :=
  s.ports.field.replies.length ≤ Config.replyPlaces
    ∧ s.ports.trunk.replies.length + s.ports.reserved ≤ Config.replyPlaces
    ∧ s.ports.alertQueue.length ≤ Config.alertPlaces

/-- The ranges of the Alert Unit. -/
def State.AlertsInRange (s : State) : Prop :=
  s.alerts.mask ≤ 7 ∧ ∀ i : Fin 21, s.alerts.table[i].level ≤ 7 ∧ s.alerts.table[i].raises ≤ max16 ∧ s.alerts.table[i].pending ≤ max16

/-- What no operation of accounting, filling or answering changes, and what it keeps: lines, tables, time, and the limits of the queues. -/
structure Quiet (s t : State) : Prop where
  pending : t.pending = s.pending
  power : t.power = s.power
  clock : t.clock = s.clock
  config : t.config = s.config
  pass : t.pass = s.pass
  stations : t.stations = s.stations
  classes : t.classes = s.classes
  agent : t.agent = s.agent
  reserved : t.ports.reserved = s.ports.reserved
  linkUp : t.ports.linkUp = s.ports.linkUp
  fieldForward : t.ports.field.forward = s.ports.field.forward
  trunkForward : t.ports.trunk.forward = s.ports.trunk.forward
  levels : ∀ i : Fin 21, t.alerts.table[i].level = s.alerts.table[i].level
  mask : t.alerts.mask = s.alerts.mask
  lockout : s.store.lockout = true → t.store.lockout = true
  replies : s.RepliesFit → t.RepliesFit
  alertRange : s.AlertsInRange → t.AlertsInRange
  numbers : 1 ≤ s.store.nextNumber ∧ s.store.nextNumber ≤ 65535 → 1 ≤ t.store.nextNumber ∧ t.store.nextNumber ≤ 65535

theorem Quiet.refl (s : State) : Quiet s s :=
  ⟨rfl, rfl, rfl, rfl, rfl, rfl, rfl, rfl, rfl, rfl, rfl, rfl, fun _ => rfl, rfl, id, id, id, id⟩

theorem Quiet.trans {s t u : State} (h : Quiet s t) (k : Quiet t u) : Quiet s u where
  pending := k.pending.trans h.pending
  power := k.power.trans h.power
  clock := k.clock.trans h.clock
  config := k.config.trans h.config
  pass := k.pass.trans h.pass
  stations := k.stations.trans h.stations
  classes := k.classes.trans h.classes
  agent := k.agent.trans h.agent
  reserved := k.reserved.trans h.reserved
  linkUp := k.linkUp.trans h.linkUp
  fieldForward := k.fieldForward.trans h.fieldForward
  trunkForward := k.trunkForward.trans h.trunkForward
  levels i := (k.levels i).trans (h.levels i)
  mask := k.mask.trans h.mask
  lockout := k.lockout ∘ h.lockout
  replies := k.replies ∘ h.replies
  alertRange := k.alertRange ∘ h.alertRange
  numbers := k.numbers ∘ h.numbers

/-- What filling a record, a detection and the work on claims leave alone besides: the accounts, the route, the manifest, the stops, the settlements counted. -/
structure StoreFrame (s t : State) : Prop extends Quiet s t where
  comps : t.comps = s.comps
  route : t.route = s.route
  drops : t.drops = s.drops
  contexts : t.contexts = s.contexts
  stopCounts : t.stopCounts = s.stopCounts
  completions : t.completions = s.completions

theorem StoreFrame.refl (s : State) : StoreFrame s s := ⟨Quiet.refl s, rfl, rfl, rfl, rfl, rfl, rfl⟩

theorem StoreFrame.trans {s t u : State} (h : StoreFrame s t) (k : StoreFrame t u) : StoreFrame s u :=
  ⟨h.toQuiet.trans k.toQuiet, k.comps.trans h.comps, k.route.trans h.route, k.drops.trans h.drops,
    k.contexts.trans h.contexts, k.stopCounts.trans h.stopCounts, k.completions.trans h.completions⟩

/-- Two changes of the store, the claims and the array that leave the ports and the alerts are frames. -/
theorem StoreFrame.of_data {s t : State} (h : t = { s with store := t.store, claims := t.claims, array := t.array })
    (hl : s.store.lockout = true → t.store.lockout = true)
    (hn : 1 ≤ s.store.nextNumber ∧ s.store.nextNumber ≤ 65535 → 1 ≤ t.store.nextNumber ∧ t.store.nextNumber ≤ 65535) :
    StoreFrame s t := by
  refine ⟨⟨?_, ?_, ?_, ?_, ?_, ?_, ?_, ?_, ?_, ?_, ?_, ?_, ?_, ?_, hl, ?_, ?_, hn⟩, ?_, ?_, ?_, ?_, ?_, ?_⟩ <;>
    first
    | (rw [h]; done)
    | (intro i; rw [h]; done)
    | (rw [h]; exact id)

theorem satInc_le (max n : Nat) : satInc max n ≤ max := by
  simp only [satInc, satAdd]; omega

theorem satAdd_le (max n k : Nat) : satAdd max n k ≤ max := by
  simp only [satAdd]; omega

/-- A raise. -/
theorem raise_frame (k : AlertCode) (x : Subject) (v : Option Int) (s : State) : StoreFrame s (raise k x v s) where
  pending := rfl
  power := rfl
  clock := rfl
  config := rfl
  pass := rfl
  stations := rfl
  classes := rfl
  agent := rfl
  reserved := rfl
  linkUp := rfl
  fieldForward := rfl
  trunkForward := rfl
  levels i := by
    simp only [raise, Fin.getElem_fin, Vector.getElem_set]
    split
    · next h =>
      have : i = alertIndex k := Fin.ext h.symm
      subst this
      simp only [State.alertEntryAfter, State.alertEntry]
      split <;> rfl
    · rfl
  mask := rfl
  lockout := id
  replies h := by
    obtain ⟨h1, h2, h3⟩ := h
    refine ⟨h1, h2, ?_⟩
    simp only [raise]
    split
    · next hc =>
      simp only [Bool.and_eq_true, State.alertRoom, decide_eq_true_eq] at hc
      have := hc.2
      simp only [List.length_append, List.length_singleton]
      omega
    · exact h3
  alertRange h := by
    obtain ⟨h1, h2⟩ := h
    refine ⟨h1, fun i => ?_⟩
    simp only [raise, Fin.getElem_fin, Vector.getElem_set]
    split
    · next hi =>
      have : i = alertIndex k := Fin.ext hi.symm
      subst this
      have h3 := (h2 (alertIndex k)).1
      simp only [State.alertEntryAfter, State.alertEntry]
      split
      · exact ⟨h3, satInc_le _ _, Nat.zero_le _⟩
      · exact ⟨h3, satInc_le _ _, satInc_le _ _⟩
    · exact h2 i
  numbers := id
  comps := rfl
  route := rfl
  drops := rfl
  contexts := rfl
  stopCounts := rfl
  completions := rfl

/-- A reply offered. -/
theorem offerReply_frame (p : Port) (f : QFrame) (s : State) : StoreFrame s (offerReply p f s) := by
  cases p
  · refine ⟨⟨rfl, rfl, rfl, rfl, rfl, rfl, rfl, rfl, rfl, rfl, ?_, rfl, fun _ => rfl, rfl, id, ?_, id, id⟩, rfl, rfl, rfl, rfl, rfl, rfl⟩
    · simp only [offerReply, State.updPort]; split <;> rfl
    · rintro ⟨h1, h2, h3⟩
      refine ⟨?_, h2, h3⟩
      simp only [offerReply, State.updPort]
      by_cases hc : s.replyPlacesUsed .field < Config.replyPlaces
      · rw [if_pos hc]
        have h4 : s.ports.field.replies.length < Config.replyPlaces := hc
        simp only [List.length_append, List.length_singleton]; omega
      · rw [if_neg hc]; exact h1
  · refine ⟨⟨rfl, rfl, rfl, rfl, rfl, rfl, rfl, rfl, rfl, rfl, rfl, ?_, fun _ => rfl, rfl, id, ?_, id, id⟩, rfl, rfl, rfl, rfl, rfl, rfl⟩
    · simp only [offerReply, State.updPort]; split <;> rfl
    · rintro ⟨h1, h2, h3⟩
      refine ⟨h1, ?_, h3⟩
      simp only [offerReply, State.updPort]
      by_cases hc : s.replyPlacesUsed .trunk < Config.replyPlaces
      · rw [if_pos hc]
        have h4 : s.ports.trunk.replies.length + s.ports.reserved < Config.replyPlaces := hc
        simp only [List.length_append, List.length_singleton]; omega
      · rw [if_neg hc]; exact h2

/-- A reply offered changes the ports alone. -/
theorem offerReply_only (p : Port) (f : QFrame) (s : State) : offerReply p f s = { s with ports := (offerReply p f s).ports } := by
  cases p <;> rfl

theorem setSlot_frame (i : Fin 256) (v : Slot) (s : State) : StoreFrame s (s.setSlot i v) := .of_data rfl id id
theorem handBack_frame (i : Fin 256) (s : State) : StoreFrame s (handBack i s) := .of_data rfl id id
theorem afterRead_frame (s : State) : StoreFrame s s.afterRead := .of_data rfl id id
theorem updStoreCounts_frame (f : StoreCounts → StoreCounts) (s : State) : StoreFrame s (s.updStoreCounts f) := .of_data rfl id id
theorem updClaimCounts_frame (f : ClaimCounts → ClaimCounts) (s : State) : StoreFrame s (s.updClaimCounts f) := .of_data rfl id id

theorem storeLowCheck_frame (s : State) : StoreFrame s (storeLowCheck s) := by
  unfold storeLowCheck; split
  · exact raise_frame _ _ _ _
  · exact .refl s

theorem reserveSlot_frame (i : Fin 256) (s : State) : StoreFrame s (reserveSlot i s) :=
  (setSlot_frame _ _ s).trans (storeLowCheck_frame _)

/-! ### Aborting claims -/

theorem sendClaimAnswer_frame (k : Claim) (p : List Byte) (s : State) : StoreFrame s (sendClaimAnswer k p s) :=
  offerReply_frame _ _ s

theorem abortClaim_frame (k : Claim) (s : State) : StoreFrame s (abortClaim k s) := by
  unfold abortClaim
  dsimp only
  refine .trans ?_ (updClaimCounts_frame _ _)
  refine .trans ?_ (sendClaimAnswer_frame _ _ _)
  exact .of_data rfl id id

theorem foldl_frame {α : Type} {f : State → α → State} (h : ∀ s a, StoreFrame s (f s a)) (l : List α) (s : State) :
    StoreFrame s (l.foldl f s) := by
  induction l generalizing s with
  | nil => exact .refl s
  | cons a l ih => exact (h s a).trans (ih _)

theorem abortClaims_frame (s : State) : StoreFrame s (abortClaims s) := foldl_frame (fun s k => abortClaim_frame k s) _ s

theorem sweepClaims_frame (s : State) : StoreFrame s (sweepClaims s) := by
  unfold sweepClaims; split
  · exact abortClaims_frame s
  · exact .refl s

/-! ### Detections and fills -/

theorem enterLockout_frame (src : FaultSource) (s : State) : StoreFrame s (enterLockout src s) := by
  unfold enterLockout
  refine .trans ?_ (raise_frame _ _ _ _)
  exact .of_data rfl (fun _ => rfl) id

theorem beginRecovery_frame (src : FaultSource) (i : Fin 256) (n : Nat) (k : RecordKind) (s : State) :
    StoreFrame s (beginRecovery src i n k s) := .of_data rfl id id

theorem detectFault_frame (src : FaultSource) (i : Fin 256) (n : Nat) (k : RecordKind) (s : State) :
    StoreFrame s (detectFault src i n k s) := by
  have h := (raise_frame .storeFault (.slot i) (some (sourceCode src).toNat) s).trans (updStoreCounts_frame (countFault src) _)
  unfold detectFault
  dsimp only
  split
  · exact h
  · split
    · exact h.trans (enterLockout_frame _ _)
    · exact h.trans (beginRecovery_frame _ _ _ _ _)

theorem nextNumber_range {n : Nat} (h : 1 ≤ n ∧ n ≤ 65535) : 1 ≤ nextNumber n ∧ nextNumber n ≤ 65535 := by
  unfold nextNumber; split <;> omega

theorem writeRecord_frame (i : Fin 256) (b : RecordBody) (s : State) : StoreFrame s (writeRecord i b s) :=
  .of_data rfl id nextNumber_range

theorem verifyFill_frame (i : Fin 256) (h : RecordHeader) (s : State) : StoreFrame s (verifyFill i h s) := by
  unfold verifyFill; split
  · exact ((afterRead_frame s).trans ((setSlot_frame _ _ _).trans (updStoreCounts_frame _ _))).trans (detectFault_frame _ _ _ _ _)
  · exact afterRead_frame s

theorem fillCore_frame (i : Fin 256) (b : RecordBody) (s : State) : StoreFrame s (fillCore i b s) :=
  (writeRecord_frame i b s).trans (verifyFill_frame _ _ _)

theorem fillReserved_frame (i : Fin 256) (b : RecordBody) (s : State) : StoreFrame s (fillReserved i b s) :=
  (fillCore_frame i b s).trans (sweepClaims_frame _)

theorem fillFree_frame (i : Fin 256) (b : RecordBody) (s : State) : StoreFrame s (fillFree i b s) :=
  ((writeRecord_frame i b s).trans ((storeLowCheck_frame _).trans (verifyFill_frame _ _ _))).trans (sweepClaims_frame _)

theorem endRecovery_frame (r : Recovery) (s : State) : StoreFrame s (endRecovery r s) := by
  unfold endRecovery; split
  · exact .of_data rfl id id
  · dsimp only
    split
    · exact fillFree_frame _ _ _
    · exact (fillFree_frame _ _ _).trans (.of_data rfl id id)

theorem recoveryDue_frame (s : State) : StoreFrame s (recoveryDue s) := by
  unfold recoveryDue; split
  · split
    · exact endRecovery_frame _ _
    · exact .refl s
  · exact .refl s

theorem afterClaimRead_frame (n : Nat) (s : State) : StoreFrame s (afterClaimRead n s) := by
  have h : ∀ (i : Fin 256) (hd : RecordHeader) (f : Bool),
      StoreFrame s (sweepClaims (detectFault .claim i hd.number hd.kind (s.afterRead.setSlot i (.corrupt hd f)))) :=
    fun i hd f => ((afterRead_frame s).trans (setSlot_frame _ _ _)).trans ((detectFault_frame _ _ _ _ _).trans (sweepClaims_frame _))
  unfold afterClaimRead; split
  · exact .refl s
  · split
    · split
      · exact h _ _ _
      · exact afterRead_frame s
    · split
      · exact h _ _ _
      · exact afterRead_frame s
    · exact .refl s

/-! ### Claims -/

theorem evaluateAt_frame (i : Nat) (s : State) : StoreFrame s (evaluateAt i s) := by
  unfold evaluateAt; split
  · exact .refl s
  · split
    · dsimp only
      split
      · exact afterClaimRead_frame _ _
      · exact (afterClaimRead_frame _ s).trans (.of_data rfl id id)
    · exact .refl s

theorem answerJudged_frame (k : Claim) (j : Judgement) (n : Nat) (s : State) : StoreFrame s (answerJudged k j n s) := by
  unfold answerJudged; split
  · exact sendClaimAnswer_frame _ _ _
  · exact (sendClaimAnswer_frame _ _ _).trans (sendClaimAnswer_frame _ _ _)

theorem raiseSupported_frame (d : Nat) (v : VerdictEntry) (s : State) : StoreFrame s (raiseSupported d v s) := by
  unfold raiseSupported; split
  · exact (raise_frame _ _ _ _).trans (updClaimCounts_frame _ _)
  · exact .refl s

theorem releaseClaim_frame (k : Claim) (j : Judgement) (s : State) : StoreFrame s (releaseClaim k j s) := by
  unfold releaseClaim
  dsimp only
  refine .trans ?_ (sweepClaims_frame _)
  refine .trans ?_ (updClaimCounts_frame _ _)
  refine .trans ?_ (foldl_frame (fun s v => raiseSupported_frame _ v s) _ _)
  refine .trans ?_ (answerJudged_frame _ _ _ _)
  exact (fillCore_frame k.reservation (claimVerdictBody k j) s).trans (.of_data rfl id id)

theorem releaseLoop_frame (n : Nat) (s : State) : StoreFrame s (releaseLoop n s) := by
  induction n generalizing s with
  | zero => exact .refl s
  | succ n ih =>
    unfold releaseLoop; split
    · exact .refl s
    · split
      · exact .refl s
      · exact (releaseClaim_frame _ _ s).trans (ih _)

theorem releaseClaims_frame (s : State) : StoreFrame s (releaseClaims s) := releaseLoop_frame _ s

theorem tellClaims_frame (d n : Nat) (s : State) : StoreFrame s (tellClaims d n s) := by
  unfold tellClaims
  dsimp only
  refine .trans ?_ (releaseClaims_frame _)
  refine .trans ?_ (foldl_frame (fun s i => evaluateAt_frame i s) _ _)
  exact .of_data rfl id id

theorem joinClaim_frame (i : Fin 256) (p : Port) (a : Byte) (o : LodgeOps) (s : State) : StoreFrame s (joinClaim i p a o s) := by
  unfold joinClaim
  exact (reserveSlot_frame i s).trans (.of_data rfl id id)

theorem settleLodging_frame (s : State) : StoreFrame s (settleLodging s) :=
  (evaluateAt_frame _ s).trans (releaseClaims_frame _)

end Sys2Proof.Machine
end

