-- ==== Sys2Proof/Laws/Account.lean ====
section
/-! SUPPORT. What charging, settlement and retirement change and keep, said once for each operation. -/
namespace Sys2Proof.Machine

/-- The figures of an account that grow alone during a route. -/
structure AccountGrows (a b : Account) : Prop where
  e : a.e ≤ b.e
  h : a.h ≤ b.h
  gap : a.gap ≤ b.gap
  severeCount : a.severeCount ≤ b.severeCount
  late : a.late ≤ b.late
  lateWarm : a.lateWarm ≤ b.lateWarm
  satFlag : a.satFlag = true → b.satFlag = true
  budgetFlag : a.budgetFlag = true → b.budgetFlag = true

theorem AccountGrows.refl (a : Account) : AccountGrows a a :=
  ⟨Nat.le_refl _, Nat.le_refl _, Nat.le_refl _, Nat.le_refl _, Nat.le_refl _, Nat.le_refl _, id, id⟩

theorem AccountGrows.trans {a b c : Account} (h : AccountGrows a b) (k : AccountGrows b c) : AccountGrows a c :=
  ⟨Nat.le_trans h.e k.e, Nat.le_trans h.h k.h, Nat.le_trans h.gap k.gap, Nat.le_trans h.severeCount k.severeCount,
    Nat.le_trans h.late k.late, Nat.le_trans h.lateWarm k.lateWarm, k.satFlag ∘ h.satFlag, k.budgetFlag ∘ h.budgetFlag⟩

/-- What accounting does to an account under a profile. -/
structure AccountStep (q : Profile) (a b : Account) : Prop where
  range : accountInRange a → accountInRange b
  grows : accountInRange a → AccountGrows a b
  grade : gradeAgrees q a → gradeAgrees q b

theorem AccountStep.refl (q : Profile) (a : Account) : AccountStep q a a := ⟨id, fun _ => .refl a, id⟩

theorem AccountStep.trans {q : Profile} {a b c : Account} (h : AccountStep q a b) (k : AccountStep q b c) : AccountStep q a c :=
  ⟨k.range ∘ h.range, fun r => (h.grows r).trans (k.grows (h.range r)), k.grade ∘ h.grade⟩

/-- What accounting does to a compartment: the profile and the live items of the doors stay, the committed time moves forward alone, the account steps. -/
structure CompStep (k l : Comp) : Prop where
  profile : l.profile = k.profile
  armed : l.window.armed = k.window.armed
  committed : k.window.committed ≤ l.window.committed
  live : ∀ p : Fin 2, l.doors[p].opening = k.doors[p].opening ∧ l.doors[p].deadline = k.doors[p].deadline
  account : AccountStep k.profile k.account l.account

theorem CompStep.refl (k : Comp) : CompStep k k := ⟨rfl, rfl, Nat.le_refl _, fun _ => ⟨rfl, rfl⟩, .refl _ _⟩

theorem CompStep.trans {k l m : Comp} (h : CompStep k l) (g : CompStep l m) : CompStep k m where
  profile := g.profile.trans h.profile
  armed := g.armed.trans h.armed
  committed := Nat.le_trans h.committed g.committed
  live p := ⟨(g.live p).1.trans (h.live p).1, (g.live p).2.trans (h.live p).2⟩
  account := h.account.trans (h.profile ▸ g.account)

/-- What accounting leaves alone and keeps in the whole state. -/
structure AccountFrame (s t : State) : Prop extends Quiet s t where
  route : t.route = s.route
  comps : ∀ k, CompStep (s.comp k) (t.comp k)
  drops : t.drops.map (fun d => (d.number, d.items.length)) = s.drops.map (fun d => (d.number, d.items.length))
  contexts : t.contexts.length ≤ s.contexts.length
  completions : s.completions ≤ t.completions

theorem AccountFrame.refl (s : State) : AccountFrame s s := ⟨.refl s, rfl, fun _ => .refl _, rfl, Nat.le_refl _, Nat.le_refl _⟩

theorem AccountFrame.trans {s t u : State} (h : AccountFrame s t) (k : AccountFrame t u) : AccountFrame s u :=
  ⟨h.toQuiet.trans k.toQuiet, k.route.trans h.route, fun c => (h.comps c).trans (k.comps c), k.drops.trans h.drops,
    Nat.le_trans k.contexts h.contexts, Nat.le_trans h.completions k.completions⟩

/-- What settling and charging leave alone besides: the windows, their committed times among them. -/
structure SettleFrame (s t : State) : Prop extends AccountFrame s t where
  windows : ∀ k, (t.comp k).window = (s.comp k).window

theorem SettleFrame.refl (s : State) : SettleFrame s s := ⟨.refl s, fun _ => rfl⟩

theorem SettleFrame.trans {s t u : State} (h : SettleFrame s t) (k : SettleFrame t u) : SettleFrame s u :=
  ⟨h.toAccountFrame.trans k.toAccountFrame, fun c => (k.windows c).trans (h.windows c)⟩

theorem StoreFrame.account {s t : State} (h : StoreFrame s t) : AccountFrame s t :=
  ⟨h.toQuiet, h.route, fun c => by rw [State.comp_congr h.comps]; exact .refl _, by rw [h.drops], by simp [h.contexts],
    Nat.le_of_eq h.completions.symm⟩

theorem StoreFrame.settle {s t : State} (h : StoreFrame s t) : SettleFrame s t :=
  ⟨h.account, fun c => by rw [State.comp_congr h.comps]⟩

/-- A change of the compartments, the drops, the contexts and the counts of stops alone is quiet. -/
theorem Quiet.of_accounts {s t : State}
    (h : t = { s with comps := t.comps, drops := t.drops, contexts := t.contexts, stopCounts := t.stopCounts, completions := t.completions }) : Quiet s t := by
  refine ⟨?_, ?_, ?_, ?_, ?_, ?_, ?_, ?_, ?_, ?_, ?_, ?_, ?_, ?_, ?_, ?_, ?_, ?_⟩ <;>
    first
    | (rw [h]; done)
    | (intro i; rw [h]; done)
    | (rw [h]; exact id)

/-- A change of one compartment. -/
theorem updComp_frame {s : State} {c : Fin 4} {f : Comp → Comp} (h : CompStep (s.comp c) (f (s.comp c))) :
    AccountFrame s (s.updComp c f) :=
  ⟨.of_accounts rfl, rfl, fun k => by
    rw [State.updComp_comp]; split
    · next e => subst e; exact h
    · exact .refl _, rfl, Nat.le_refl _, Nat.le_refl _⟩

/-- A change of one compartment's account. -/
theorem updAccount_frame {s : State} {c : Fin 4} {f : Account → Account}
    (h : AccountStep (s.comp c).profile (s.comp c).account (f (s.comp c).account)) : SettleFrame s (s.updAccount c f) :=
  ⟨updComp_frame ⟨rfl, rfl, Nat.le_refl _, fun _ => ⟨rfl, rfl⟩, h⟩, fun k => by
    simp only [State.updAccount, State.updComp_comp]; split
    · next e => subst e; rfl
    · rfl⟩

/-- A change of one context. -/
theorem updContext_frame (s : State) (n : Nat) (f : Context → Context) : SettleFrame s (s.updContext n f) :=
  ⟨⟨.of_accounts rfl, rfl, fun _ => .refl _, rfl, by simp [State.updContext], Nat.le_refl _⟩, fun _ => rfl⟩

/-- A change of one drop that keeps its number and its number of items. -/
theorem updDrop_frame (s : State) (n : Nat) {f : Drop → Drop}
    (h : ∀ d, (f d).number = d.number ∧ (f d).items.length = d.items.length) : SettleFrame s (s.updDrop n f) :=
  ⟨⟨.of_accounts rfl, rfl, fun _ => .refl _, by
    simp only [State.updDrop, List.map_map]
    apply List.map_congr_left
    intro d _
    simp only [Function.comp]
    split
    · rw [(h d).1, (h d).2]
    · rfl, Nat.le_refl _, Nat.le_refl _⟩, fun _ => rfl⟩

/-! ### Governing temperature and thermal state -/

/-- The temperatures a thermal state allows. -/
def gradeFits (q : Profile) (t : Int) (g : Grade) : Prop :=
  match g with
  | .inLimit => t ≤ q.limit
  | .excursion => q.limit - q.hysteresis < t ∧ t ≤ q.severe
  | .severe => q.severe - q.hysteresis < t

theorem gradeAgrees_some {q : Profile} {a : Account} {t : Int} {g : Grade} (ht : a.tg = some t) (hg : a.thermal = some g) :
    gradeAgrees q a ↔ gradeFits q t g := by
  unfold gradeAgrees; rw [ht, hg]; cases g <;> rfl

theorem gradeAgrees_none {q : Profile} {a : Account} (ht : a.tg = none) (hg : a.thermal = none) : gradeAgrees q a := by
  unfold gradeAgrees; rw [ht, hg]; trivial

theorem classify_fits (q : Profile) (t : Int) : gradeFits q t (classify q t) := by
  unfold classify
  split
  · assumption
  · split
    · exact ⟨by omega, by omega⟩
    · simp only [gradeFits]; omega

/-- The state the hysteresis gives is one its Tg allows, whatever the state before. -/
theorem moveGrade_fits (q : Profile) (g : Grade) (t : Int) : gradeFits q t (moveGrade q g t) := by
  cases g
  · exact classify_fits q t
  · simp only [moveGrade]
    split
    · simp only [gradeFits]; omega
    · split
      · exact ⟨by omega, by omega⟩
      · simp only [gradeFits]; omega
  · simp only [moveGrade]
    split
    · simp only [gradeFits]; omega
    · split
      · exact ⟨by omega, by omega⟩
      · simp only [gradeFits]; omega

theorem nextGrade_fits (q : Profile) (a : Account) (t : Int) : gradeFits q t (nextGrade q a t) := by
  unfold nextGrade; split
  · exact moveGrade_fits q _ t
  · exact classify_fits q t

theorem le_satInc {max n : Nat} (h : n ≤ max) : n ≤ satInc max n := by
  simp only [satInc, satAdd]; omega

theorem le_satAdd {max n : Nat} (k : Nat) (h : n ≤ max) : n ≤ satAdd max n k := by
  simp only [satAdd]; omega

theorem accountTgValue_step (q : Profile) (a : Account) (t : Int) (x : Nat) : AccountStep q a (accountTgValue q a t x) where
  range := by
    rintro ⟨h1, h2, h3, h4, h5, h6, h7⟩
    refine ⟨h1, h2, h3, h4, ?_, h6, h7⟩
    simp only [accountTgValue]; split
    · exact satInc_le _ _
    · exact h5
  grows := by
    rintro ⟨h1, h2, h3, h4, h5, h6, h7⟩
    refine ⟨Nat.le_refl _, Nat.le_refl _, Nat.le_refl _, ?_, Nat.le_refl _, Nat.le_refl _, id, id⟩
    simp only [accountTgValue]; split
    · exact le_satInc h5
    · exact Nat.le_refl _
  grade _ := (gradeAgrees_some (t := t) rfl rfl).2 (nextGrade_fits q a t)

theorem accountTgNone_step (q : Profile) (a : Account) : AccountStep q a (accountTgNone a) :=
  ⟨id, fun _ => ⟨Nat.le_refl _, Nat.le_refl _, Nat.le_refl _, Nat.le_refl _, Nat.le_refl _, Nat.le_refl _, id, id⟩,
    fun _ => gradeAgrees_none rfl rfl⟩

theorem setTg_frame (c : Fin 4) (x : Nat) (new : Option Int) (s : State) : SettleFrame s (setTg c x new s) := by
  unfold setTg
  dsimp only
  split
  · split
    · exact updAccount_frame (accountTgValue_step _ _ _ _)
    · exact (updAccount_frame (accountTgValue_step _ _ _ _)).trans (raise_frame _ _ _ _).settle
  · exact (updAccount_frame (accountTgNone_step _ _)).trans (raise_frame _ _ _ _).settle

theorem evalTg_frame (c : Fin 4) (x : Nat) (s : State) : SettleFrame s (evalTg c x s) := by
  unfold evalTg
  dsimp only
  split
  · exact .refl s
  · exact setTg_frame _ _ _ _

/-! ### Charging -/

theorem addToE_step (q : Profile) (a : Account) (x : Nat) : AccountStep q a (addToE a x) :=
  ⟨fun ⟨_, h2, h3, h4, h5, h6, h7⟩ => ⟨satAdd_le _ _ _, h2, h3, h4, h5, h6, h7⟩,
    fun h => ⟨le_satAdd x h.1, Nat.le_refl _, Nat.le_refl _, Nat.le_refl _, Nat.le_refl _, Nat.le_refl _,
      fun hs => by simp [addToE, hs], id⟩, id⟩

theorem addToP_step (q : Profile) (a : Account) (x : Nat) : AccountStep q a (addToP a x) :=
  ⟨fun ⟨h1, _, h3, h4, h5, h6, h7⟩ => ⟨h1, satAdd_le _ _ _, h3, h4, h5, h6, h7⟩,
    fun _ => ⟨Nat.le_refl _, Nat.le_refl _, Nat.le_refl _, Nat.le_refl _, Nat.le_refl _, Nat.le_refl _,
      fun hs => by simp [addToP, hs], id⟩, id⟩

theorem addToH_step (q : Profile) (a : Account) (x : Nat) : AccountStep q a (addToH a x) :=
  ⟨fun ⟨h1, h2, _, h4, h5, h6, h7⟩ => ⟨h1, h2, satAdd_le _ _ _, h4, h5, h6, h7⟩,
    fun h => ⟨Nat.le_refl _, le_satAdd x h.2.2.1, Nat.le_refl _, Nat.le_refl _, Nat.le_refl _, Nat.le_refl _,
      fun hs => by simp [addToH, hs], id⟩, id⟩

theorem gap_step (q : Profile) (a : Account) (x : Nat) : AccountStep q a { a with gap := satAdd max32 a.gap x } :=
  ⟨fun ⟨h1, h2, h3, _, h5, h6, h7⟩ => ⟨h1, h2, h3, satAdd_le _ _ _, h5, h6, h7⟩,
    fun h => ⟨Nat.le_refl _, Nat.le_refl _, le_satAdd x h.2.2.2.1, Nat.le_refl _, Nat.le_refl _, Nat.le_refl _, id, id⟩, id⟩

theorem budgetFlag_step (q : Profile) (a : Account) : AccountStep q a { a with budgetFlag := true } :=
  ⟨id, fun _ => ⟨Nat.le_refl _, Nat.le_refl _, Nat.le_refl _, Nat.le_refl _, Nat.le_refl _, Nat.le_refl _, id, fun _ => rfl⟩, id⟩

theorem addBreach_frame (c : Fin 4) (x : Nat) (s : State) : SettleFrame s (addBreach c x s) := by
  unfold addBreach
  dsimp only
  have h : SettleFrame s (s.updAccount c fun a => addToE a x) := updAccount_frame (addToE_step _ _ _)
  split
  · exact (h.trans (updAccount_frame (budgetFlag_step _ _))).trans (raise_frame _ _ _ _).settle
  · exact h

theorem chargeTicks_frame (c : Fin 4) (m n : Nat) (s : State) : SettleFrame s (chargeTicks c m n s) := by
  unfold chargeTicks
  dsimp only
  split
  · exact updAccount_frame (gap_step _ _ _)
  · exact (updAccount_frame (addToP_step _ _ _)).trans (addBreach_frame _ _ _)

theorem growTotals_frame (c : Fin 4) (t m n : Nat) (s : State) : SettleFrame s (growTotals c t m n s) := by
  unfold growTotals
  dsimp only
  split
  · have h : SettleFrame s
        (s.updComp c fun k => { k with totals := { k.totals with openTicks := satAdd max32 k.totals.openTicks n } }) :=
      ⟨updComp_frame ⟨rfl, rfl, Nat.le_refl _, fun _ => ⟨rfl, rfl⟩, .refl _ _⟩, fun k => by
        simp only [State.updComp_comp]; split
        · next e => subst e; rfl
        · rfl⟩
    split
    · exact h
    · exact h.trans (updContext_frame _ _ _)
  · exact .refl s

/-- A piece is charged by the ticks it has, the totals grow, and the committed time becomes its end. -/
theorem chargePiece_frame (c : Fin 4) (p : Nat) (s : State) (hp : (s.comp c).window.committed ≤ p) :
    AccountFrame s (chargePiece c p s) := by
  have h : SettleFrame s _ := (chargeTicks_frame c (s.allowanceTicks c (s.comp c).window.committed (p - (s.comp c).window.committed))
    (p - (s.comp c).window.committed - s.allowanceTicks c (s.comp c).window.committed (p - (s.comp c).window.committed)) s).trans
    (growTotals_frame c (s.comp c).window.committed
      (s.allowanceTicks c (s.comp c).window.committed (p - (s.comp c).window.committed)) (p - (s.comp c).window.committed) _)
  unfold chargePiece
  dsimp only
  refine h.toAccountFrame.trans (updComp_frame ⟨rfl, rfl, ?_, fun _ => ⟨rfl, rfl⟩, .refl _ _⟩)
  rw [h.windows]; exact hp

/-- After a piece, the windows are as they were but for the committed time of the compartment charged. -/
theorem chargePiece_window (c k : Fin 4) (p : Nat) (s : State) :
    ((chargePiece c p s).comp k).window
      = if k = c then { (s.comp c).window with committed := p } else (s.comp k).window := by
  have h : SettleFrame s _ := (chargeTicks_frame c (s.allowanceTicks c (s.comp c).window.committed (p - (s.comp c).window.committed))
    (p - (s.comp c).window.committed - s.allowanceTicks c (s.comp c).window.committed (p - (s.comp c).window.committed)) s).trans
    (growTotals_frame c (s.comp c).window.committed
      (s.allowanceTicks c (s.comp c).window.committed (p - (s.comp c).window.committed)) (p - (s.comp c).window.committed) _)
  unfold chargePiece
  dsimp only
  simp only [State.setCommitted, State.updComp_comp]
  split
  · next e => subst e; simp only [h.windows]
  · rw [h.windows]

/-! ### Settlement -/

theorem moveProvisional_frame (c : Fin 4) (o : Option StopOutcome) (s : State) : SettleFrame s (moveProvisional c o s) := by
  have hz : ∀ (q : Profile) (a : Account), AccountStep q a { a with p := 0 } := fun q a =>
    ⟨fun ⟨h1, _, h3⟩ => ⟨h1, Nat.zero_le _, h3⟩,
      fun _ => ⟨Nat.le_refl _, Nat.le_refl _, Nat.le_refl _, Nat.le_refl _, Nat.le_refl _, Nat.le_refl _, id, id⟩, id⟩
  unfold moveProvisional
  dsimp only
  split
  · exact (addBreach_frame _ _ _).trans (updAccount_frame (hz _ _))
  · exact (updAccount_frame (addToH_step _ _ _)).trans (updAccount_frame (hz _ _))

theorem fillOutcome_frame (d : Drop) (x : Context) (s : State) : StoreFrame s (fillOutcome d x s) := by
  unfold fillOutcome; split
  · exact fillReserved_frame _ _ _
  · exact .refl s

/-- Contexts that end leave everything else. -/
theorem dropContext_frame (p : Context → Bool) (s : State) : SettleFrame s { s with contexts := s.contexts.filter p } :=
  ⟨⟨.of_accounts rfl, rfl, fun _ => .refl _, rfl, List.length_filter_le _ _, Nat.le_refl _⟩, fun _ => rfl⟩

/-- The model's own count of settlements leaves everything else. -/
theorem countCompletion_frame (s : State) : SettleFrame s (countCompletion s) := by
  unfold countCompletion; split
  · exact .refl s
  · exact ⟨⟨.of_accounts rfl, rfl, fun _ => .refl _, rfl, Nat.le_refl _, Nat.le_succ _⟩, fun _ => rfl⟩

theorem completeSettlement_frame (x : Context) (s : State) : SettleFrame s (completeSettlement x s) := by
  unfold completeSettlement
  dsimp only
  have h : SettleFrame s (s.updDrop x.drop fun d => { d with items := d.items.map (autoVerdict s.classes x) }) :=
    updDrop_frame _ _ fun d => ⟨rfl, by simp⟩
  split
  · exact h
  · refine .trans ?_ (tellClaims_frame _ _ _).settle
    refine .trans ?_ (dropContext_frame _ _)
    refine .trans ?_ (updDrop_frame _ _ fun d => ⟨rfl, rfl⟩)
    exact (h.trans (fillOutcome_frame _ _ _).settle).trans (countCompletion_frame _)

theorem resolveComp_frame (c : Fin 4) (d : Nat) (s : State) : SettleFrame s (resolveComp c d s) := by
  unfold resolveComp
  split
  · exact .refl s
  · split
    · exact .refl s
    · dsimp only
      have h := (moveProvisional_frame c (Context.outcome ‹_›) s)
      split
      · exact h.trans (updContext_frame _ _ _)
      · split
        · exact (h.trans (updContext_frame _ _ _)).trans (completeSettlement_frame _ _)
        · exact h.trans (updContext_frame _ _ _)

theorem foldl_settle {α : Type} {f : State → α → State} (h : ∀ s a, SettleFrame s (f s a)) (l : List α) (s : State) :
    SettleFrame s (l.foldl f s) := by
  induction l generalizing s with
  | nil => exact .refl s
  | cons a l ih => exact (h s a).trans (ih _)

theorem resolveAt_frame (c : Fin 4) (t : Nat) (s : State) : SettleFrame s (resolveAt c t s) := by
  unfold resolveAt
  refine foldl_settle (fun s d => ?_) _ s
  split
  · exact .refl s
  · exact resolveComp_frame _ _ _

/-! ### Charging through the pieces of an interval -/

/-- The pieces end in rising order, all within the interval. -/
theorem insertPoint_rises (p : Nat) (l : List Nat) (h : l.Pairwise (· < ·)) :
    (insertPoint p l).Pairwise (· < ·) ∧ ∀ x, x ∈ insertPoint p l ↔ x = p ∨ x ∈ l := by
  induction l with
  | nil => simp [insertPoint]
  | cons q qs ih =>
    obtain ⟨h1, h2⟩ := List.pairwise_cons.1 h
    obtain ⟨ih1, ih2⟩ := ih h2
    unfold insertPoint
    split
    · next hpq =>
      refine ⟨List.pairwise_cons.2 ⟨fun x hx => ?_, h⟩, fun x => by simp⟩
      rcases List.mem_cons.1 hx with rfl | hx
      · exact hpq
      · exact Nat.lt_trans hpq (h1 x hx)
    · split
      · next hpq => subst hpq; exact ⟨h, fun x => by simp⟩
      · refine ⟨List.pairwise_cons.2 ⟨fun x hx => ?_, ih1⟩, fun x => by simp only [List.mem_cons, ih2]; exact or_left_comm⟩
        rcases (ih2 x).1 hx with rfl | hx
        · omega
        · exact h1 x hx

theorem pieceEnds_rises (points : List Nat) (a b : Nat) :
    (pieceEnds points a b).Pairwise (· < ·) ∧ ∀ x ∈ pieceEnds points a b, a < x ∧ x ≤ b := by
  unfold pieceEnds
  split
  · next hab =>
    have key : ∀ l : List Nat, (∀ x ∈ l, a < x ∧ x < b) →
        (l.foldr insertPoint [b]).Pairwise (· < ·) ∧ ∀ x, x ∈ l.foldr insertPoint [b] ↔ x = b ∨ x ∈ l := by
      intro l; induction l with
      | nil => intro _; simp
      | cons y l ih =>
        intro hl
        obtain ⟨i1, i2⟩ := ih fun x hx => hl x (List.mem_cons_of_mem _ hx)
        obtain ⟨j1, j2⟩ := insertPoint_rises y _ i1
        exact ⟨j1, fun x => by simp only [List.foldr_cons, j2, i2, List.mem_cons]; exact or_left_comm⟩
    have hf : ∀ x ∈ points.filter (fun p => a < p && p < b), a < x ∧ x < b := by
      intro x hx; simpa using (List.mem_filter.1 hx).2
    obtain ⟨k1, k2⟩ := key _ hf
    refine ⟨k1, fun x hx => ?_⟩
    rcases (k2 x).1 hx with rfl | hx
    · exact ⟨hab, Nat.le_refl _⟩
    · exact ⟨(hf x hx).1, Nat.le_of_lt (hf x hx).2⟩
  · simp

theorem pieceEnds_last (points : List Nat) {a b : Nat} (h : a < b) : b ∈ pieceEnds points a b := by
  unfold pieceEnds
  rw [if_pos h]
  have : ∀ l : List Nat, b ∈ l.foldr insertPoint [b] := by
    intro l; induction l with
    | nil => simp
    | cons y l ih =>
      have hp : ∀ (m : List Nat) (y : Nat), b ∈ m → b ∈ insertPoint y m := by
        intro m; induction m with
        | nil => intro y hm; simp at hm
        | cons q qs ihq =>
          intro y hm
          unfold insertPoint
          split
          · exact List.mem_cons_of_mem _ hm
          · split
            · exact hm
            · rcases List.mem_cons.1 hm with rfl | hm
              · exact List.mem_cons_self
              · exact List.mem_cons_of_mem _ (ihq y hm)
      exact hp _ _ ih
  exact this _

/-- What charging through an interval makes of the windows: the compartment charged stands between where it stood and the bound, at the bound unless LOCKOUT cut it off; nothing else of any window moves. -/
structure ChargeFrame (c : Fin 4) (b : Nat) (s t : State) : Prop extends AccountFrame s t where
  others : ∀ k, k ≠ c → (t.comp k).window = (s.comp k).window
  window : (t.comp c).window = { (s.comp c).window with committed := (t.comp c).window.committed }
  bound : (t.comp c).window.committed ≤ max (s.comp c).window.committed b

theorem chargeThrough_frame (c : Fin 4) (b : Nat) (ps : List Nat) (s : State) (hr : ps.Pairwise (· < ·))
    (hb : ∀ p ∈ ps, (s.comp c).window.committed ≤ p ∧ p ≤ b) : ChargeFrame c b s (chargeThrough c ps s) := by
  induction ps generalizing s with
  | nil => exact ⟨.refl s, fun _ _ => rfl, rfl, Nat.le_max_left _ _⟩
  | cons p ps ih =>
    unfold chargeThrough
    split
    · exact ⟨.refl s, fun _ _ => rfl, rfl, Nat.le_max_left _ _⟩
    · obtain ⟨hp1, hp2⟩ := hb p List.mem_cons_self
      obtain ⟨hr1, hr2⟩ := List.pairwise_cons.1 hr
      have h1 := chargePiece_frame c p s hp1
      have h2 := (resolveAt_frame c p (chargePiece c p s)).trans (evalTg_frame c p _)
      have hw : ∀ k, ((evalTg c p (resolveAt c p (chargePiece c p s))).comp k).window
          = if k = c then { (s.comp c).window with committed := p } else (s.comp k).window := by
        intro k; rw [h2.windows, chargePiece_window]
      have hc : ((evalTg c p (resolveAt c p (chargePiece c p s))).comp c).window.committed = p := by
        rw [hw, if_pos rfl]
      have h3 := ih (evalTg c p (resolveAt c p (chargePiece c p s))) hr2 fun x hx => by
        rw [hc]; exact ⟨Nat.le_of_lt (hr1 x hx), (hb x (List.mem_cons_of_mem _ hx)).2⟩
      refine ⟨(h1.trans h2.toAccountFrame).trans h3.toAccountFrame, fun k hk => ?_, ?_, ?_⟩
      · rw [h3.others k hk, hw, if_neg hk]
      · have := h3.window
        rw [hw c, if_pos rfl] at this
        exact this
      · have := h3.bound
        rw [hc] at this
        omega

theorem chargeTo_frame (c : Fin 4) (b : Nat) (s : State) : ChargeFrame c b s (chargeTo c b s) := by
  obtain ⟨h1, h2⟩ := pieceEnds_rises (s.splitPoints c) (s.comp c).window.committed b
  exact chargeThrough_frame c b _ s h1 fun p hp => ⟨Nat.le_of_lt (h2 p hp).1, (h2 p hp).2⟩

theorem le_foldr_max {l : List Nat} {y : Nat} (h : y ∈ l) : y ≤ l.foldr max 0 := by
  induction l with
  | nil => simp at h
  | cons z l ih =>
    simp only [List.foldr_cons]
    rcases List.mem_cons.1 h with rfl | h
    · exact Nat.le_max_left _ _
    · exact Nat.le_trans (ih h) (Nat.le_max_right _ _)

/-- Charging that LOCKOUT does not cut off reaches the last of the pieces. -/
theorem chargeThrough_reaches (c : Fin 4) (ps : List Nat) (s : State) (hr : ps.Pairwise (· < ·))
    (hb : ∀ p ∈ ps, (s.comp c).window.committed ≤ p) (hl : (chargeThrough c ps s).store.lockout = false) :
    ∀ p ∈ ps, p ≤ ((chargeThrough c ps s).comp c).window.committed := by
  induction ps generalizing s with
  | nil => simp
  | cons p ps ih =>
    obtain ⟨hr1, hr2⟩ := List.pairwise_cons.1 hr
    have hs : s.lockedOut = false := by
      cases h : s.lockedOut
      · rfl
      · have e : chargeThrough c (p :: ps) s = s := by unfold chargeThrough; rw [if_pos h]
        rw [e] at hl; exact absurd hl (by simpa [State.lockedOut] using h)
    have e : chargeThrough c (p :: ps) s = chargeThrough c ps (evalTg c p (resolveAt c p (chargePiece c p s))) := by
      rw [chargeThrough, if_neg (by simp [hs])]
    rw [e] at hl ⊢
    have h2 := (resolveAt_frame c p (chargePiece c p s)).trans (evalTg_frame c p _)
    have hc : ((evalTg c p (resolveAt c p (chargePiece c p s))).comp c).window.committed = p := by
      rw [h2.windows, chargePiece_window, if_pos rfl]
    have hb' : ∀ x ∈ ps, ((evalTg c p (resolveAt c p (chargePiece c p s))).comp c).window.committed ≤ x := fun x hx => by
      rw [hc]; exact Nat.le_of_lt (hr1 x hx)
    intro x hx
    rcases List.mem_cons.1 hx with rfl | hx
    · obtain ⟨b, hb2⟩ : ∃ b, ∀ y ∈ ps, y ≤ b := ⟨ps.foldr max 0, fun y hy => le_foldr_max hy⟩
      have h3 := chargeThrough_frame c b ps _ hr2 fun y hy => ⟨hb' y hy, hb2 y hy⟩
      have := (h3.comps c).committed
      rw [hc] at this; exact this
    · exact ih _ hr2 hb' hl x hx

end Sys2Proof.Machine
end

