-- ==== Sys2Proof/Laws/Retention.lean ====
section
/-! SUPPORT. The check word and its upkeep: when it agrees, and what an event makes of it. -/
namespace Sys2Proof.Machine

/-- The check word held agrees with the one computed just when their difference is 0. -/
theorem State.checkAgrees_iff (s : State) : s.checkAgrees = true ↔ s.checkWord = s.computedCheck := by
  simp only [State.checkAgrees, State.checkWord, beq_iff_eq]
  constructor
  · intro h; rw [h]; simp
  · intro h
    have h1 := congrArg (s.computedCheck ^^^ ·) h
    simpa [← BitVec.xor_assoc] using h1

/-- A device that works has power, and its check word agrees. -/
theorem State.working_iff (s : State) : s.working = true ↔ s.powered = true ∧ s.checkAgrees = true := by
  simp [State.working]

/-- A loss of the backup supply leaves a word that does not agree. -/
theorem State.lostDiff_ne_zero (s : State) : s.lostDiff ≠ 0 := by
  intro h
  have h1 := congrArg BitVec.toNat h
  have h2 : (Config.lostWord s.retained).toNat % (2 ^ 32 - 1) < 2 ^ 32 - 1 := Nat.mod_lt _ (by decide)
  simp only [State.lostDiff, BitVec.toNat_ofNat, BitVec.ofNat_eq_ofNat] at h1
  omega

@[simp] theorem State.freshCheck_checkAgrees (s : State) : s.freshCheck.checkAgrees = true := rfl
@[simp] theorem State.freshCheck_retained (s : State) : s.freshCheck.retained = s.retained := rfl
@[simp] theorem State.freshCheck_powered (s : State) : s.freshCheck.powered = s.powered := rfl

/-- The upkeep of the check word leaves the event's result, or makes its check word agree. -/
theorem keepCheckWord_cases (old new : State) :
    keepCheckWord old new = new ∨ keepCheckWord old new = new.freshCheck := by
  unfold keepCheckWord; split
  · exact .inl rfl
  · exact .inr rfl

/-- The upkeep of the check word changes the check word alone. -/
theorem keepCheckWord_only (old new : State) :
    keepCheckWord old new = { new with power := { new.power with checkDiff := (keepCheckWord old new).power.checkDiff } } := by
  rcases keepCheckWord_cases old new with h | h <;> rw [h] <;> rfl

@[simp] theorem keepCheckWord_pending (old new : State) : (keepCheckWord old new).pending = new.pending := by
  rw [keepCheckWord_only]
@[simp] theorem keepCheckWord_clock (old new : State) : (keepCheckWord old new).clock = new.clock := by
  rw [keepCheckWord_only]
@[simp] theorem keepCheckWord_config (old new : State) : (keepCheckWord old new).config = new.config := by
  rw [keepCheckWord_only]
@[simp] theorem keepCheckWord_ports (old new : State) : (keepCheckWord old new).ports = new.ports := by
  rw [keepCheckWord_only]
@[simp] theorem keepCheckWord_pass (old new : State) : (keepCheckWord old new).pass = new.pass := by
  rw [keepCheckWord_only]
@[simp] theorem keepCheckWord_stations (old new : State) : (keepCheckWord old new).stations = new.stations := by
  rw [keepCheckWord_only]
@[simp] theorem keepCheckWord_comps (old new : State) : (keepCheckWord old new).comps = new.comps := by
  rw [keepCheckWord_only]
@[simp] theorem keepCheckWord_classes (old new : State) : (keepCheckWord old new).classes = new.classes := by
  rw [keepCheckWord_only]
@[simp] theorem keepCheckWord_route (old new : State) : (keepCheckWord old new).route = new.route := by
  rw [keepCheckWord_only]
@[simp] theorem keepCheckWord_drops (old new : State) : (keepCheckWord old new).drops = new.drops := by
  rw [keepCheckWord_only]
@[simp] theorem keepCheckWord_contexts (old new : State) : (keepCheckWord old new).contexts = new.contexts := by
  rw [keepCheckWord_only]
@[simp] theorem keepCheckWord_stopCounts (old new : State) : (keepCheckWord old new).stopCounts = new.stopCounts := by
  rw [keepCheckWord_only]
@[simp] theorem keepCheckWord_store (old new : State) : (keepCheckWord old new).store = new.store := by
  rw [keepCheckWord_only]
@[simp] theorem keepCheckWord_claims (old new : State) : (keepCheckWord old new).claims = new.claims := by
  rw [keepCheckWord_only]
@[simp] theorem keepCheckWord_alerts (old new : State) : (keepCheckWord old new).alerts = new.alerts := by
  rw [keepCheckWord_only]
@[simp] theorem keepCheckWord_agent (old new : State) : (keepCheckWord old new).agent = new.agent := by
  rw [keepCheckWord_only]
@[simp] theorem keepCheckWord_array (old new : State) : (keepCheckWord old new).array = new.array := by
  rw [keepCheckWord_only]
@[simp] theorem keepCheckWord_completions (old new : State) : (keepCheckWord old new).completions = new.completions := by
  rw [keepCheckWord_only]
@[simp] theorem keepCheckWord_powered (old new : State) : (keepCheckWord old new).powered = new.powered := by
  rw [keepCheckWord_only]; rfl

/-- An event whose result agrees needs no upkeep. -/
@[simp] theorem keepCheckWord_of_agrees {old new : State} (h : new.checkAgrees = true) : keepCheckWord old new = new := by
  simp [keepCheckWord, h]

/-- An event that changes retained state ends with the check word in agreement (R204). -/
theorem keepCheckWord_changed {old new : State} (h : new.retained ≠ old.retained) :
    (keepCheckWord old new).checkAgrees = true := by
  unfold keepCheckWord; split
  · next hc => simpa [h] using hc
  · rfl

/-- What an event makes of a working device, when it leaves power and its inputs alone: the event's result itself. -/
theorem whileWorking_working {f : State → State} {s : State} (h : s.working = true) (hp : (f s).power = s.power) :
    whileWorking f s = f s := by
  obtain ⟨h1, h2⟩ := (State.working_iff s).mp h
  have h3 : (f s).checkAgrees = true := by simpa only [State.checkAgrees, hp] using h2
  simp only [whileWorking, h1, if_true, keepCheckWord_of_agrees h3]

/-- What an event makes of a device with power (R204). -/
theorem whileWorking_powered {f : State → State} {s : State} (h : s.powered = true) :
    whileWorking f s = keepCheckWord s (f s) := by
  simp only [whileWorking, h, if_true]

/-- A stopped device takes no event but those of power and time. -/
theorem whileWorking_stopped {f : State → State} {s : State} (h : s.powered = false) : whileWorking f s = s := by
  simp [whileWorking, h]

end Sys2Proof.Machine
end

