-- ==== Sys2Proof/Laws/Commands.lean ====
section
/-! SUPPORT. How a management command and a field frame arrive: the steps before a command's own meaning, said once. -/
namespace Sys2Proof.Machine

/-- A frame from a valid source with a payload that fits passes the tests of R3 on the trunk. -/
theorem frameFailure_command {m : CmdHdr} {payload : List Byte} (hs : sourceOk m.src = true) (hp : payload.length ≤ 240) :
    frameFailure .trunk (mgmtFrame m payload) = none := by
  simp only [sourceOk, Bool.and_eq_true, decide_eq_true_eq] at hs
  obtain ⟨h1, h2⟩ := hs
  have h3 : ¬ 240 < payload.length := by omega
  have h4 : addressesValid deviceAddr m.src = true := by
    simp only [addressesValid, Bool.and_eq_true, decide_eq_true_eq]
    exact ⟨⟨h1, h2⟩, by decide⟩
  simp only [frameFailure, mgmtFrame, h4]
  simp [trailerLength, annotated, h3]

@[simp] theorem whileListening_trunk (f : State → State) (s : State) : whileListening .trunk f s = f s := rfl

/-- A command that is taken runs on the state with its frame, itself and its reply place counted; its run leaves the power inputs alone. -/
theorem commandArrives_takes {s : State} {m : CmdHdr} {payload : List Byte} (h : s.takes m) (hp : payload.length ≤ 240)
    {run : State → State} (hr : (run s.admitted).power = s.power) : commandArrives m payload run s = run s.admitted := by
  obtain ⟨h1, h2, h3⟩ := h
  have h4 : (countReceived .trunk s).replyPlacesUsed .trunk < Config.replyPlaces := h3
  have h5 : arrives .trunk (mgmtFrame m payload) (admitCommand run) s = run s.admitted := by
    simp only [arrives, whileListening_trunk, frameFailure_command h2 hp, admitCommand, h4, if_true]
    rfl
  rw [commandArrives, whileWorking_working h1 (by rw [h5]; exact hr), h5]

/-- The frame form of CLAIM_LODGE arrives as a command does. -/
theorem lodgeArrives_takes {s : State} {m : CmdHdr} {payload : List Byte} (h : s.takes m) (hp : payload.length ≤ 240)
    {run : State → State} (hr : (run s.admitted).power = s.power) :
    whileWorking (arrives .trunk (lodgeFrame m payload) (admitCommand run)) s = run s.admitted :=
  commandArrives_takes h hp hr

/-- An answer fills the reserved place: the reservation and the reply come and go together. -/
theorem answer_admitted_done (code : Byte) (m : CmdHdr) (marks : Byte) (data : List Byte) (s : State) :
    answer code m (.done marks data) s.admitted = s.doneBy code m marks data := rfl

theorem answer_admitted_refused (code : Byte) (m : CmdHdr) (r : MgmtReason) (s : State) :
    answer code m (.refused r) s.admitted = s.refusedBy code m r := rfl

theorem answer_admitted_busy (code : Byte) (m : CmdHdr) (s : State) :
    answer code m .busy s.admitted
      = s.replied m typMgmtReply [code, m.seq, 1, Config.busyFourthByte] countBusy := rfl

@[simp] theorem State.admitted_lockedOut (s : State) : s.admitted.lockedOut = s.store.lockout := rfl
@[simp] theorem State.admitted_store (s : State) : s.admitted.store = s.store := rfl
@[simp] theorem State.admitted_comps (s : State) : s.admitted.comps = s.comps := rfl
@[simp] theorem State.admitted_route (s : State) : s.admitted.route = s.route := rfl
@[simp] theorem State.admitted_drops (s : State) : s.admitted.drops = s.drops := rfl
@[simp] theorem State.admitted_stations (s : State) : s.admitted.stations = s.stations := rfl
@[simp] theorem State.admitted_config (s : State) : s.admitted.config = s.config := rfl
@[simp] theorem State.admitted_clock (s : State) : s.admitted.clock = s.clock := rfl

/-- A gated command outside LOCKOUT is answered as its judgement says. -/
theorem runGated_serves {s : State} (hl : s.store.lockout = false) (code : Byte) (m : CmdHdr) (judge : State → Judged) :
    runGated code m judge s.admitted = settle code m (judge s.admitted) s.admitted := by
  simp [runGated, gated, hl]

/-- A gated command in LOCKOUT is refused with LOCKOUT. -/
theorem gated_lockout {s : State} (hl : s.store.lockout = true) (code : Byte) (m : CmdHdr) (run : State → State) :
    gated code m run s.admitted = s.refusedBy code m .lockout := by
  simp [gated, hl, answer_admitted_refused]

/-- A valid field frame passes the tests of R3. -/
theorem frameFailure_field {dst typ : Byte} {h : Hdr} {payload : List Byte} (hs : sourceOk h.src = true)
    (hf : h.flags.getLsbD 0 = false) (hd : dst ≠ 0) (hp : payload.length ≤ 240) :
    frameFailure .field (fieldFrame dst typ h payload) = none := by
  simp only [sourceOk, Bool.and_eq_true, decide_eq_true_eq] at hs
  obtain ⟨h1, h2⟩ := hs
  have h3 : ¬ 240 < payload.length := by omega
  have h4 : addressesValid dst h.src = true := by
    simp only [addressesValid, Bool.and_eq_true, decide_eq_true_eq, bne_iff_ne]
    exact ⟨⟨h1, h2⟩, hd⟩
  have h5 : annotated h.flags = false := hf
  simp [frameFailure, fieldFrame, trailerLength, h5, h3, h4]

/-- A valid field frame that arrives at a working device while it listens is counted and handed on. -/
theorem fieldArrives {s : State} {dst typ : Byte} {h : Hdr} {payload : List Byte} (hw : s.working = true)
    (hq : s.ports.field.sending = none) (hs : sourceOk h.src = true) (hf : h.flags.getLsbD 0 = false) (hd : dst ≠ 0) (hp : payload.length ≤ 240)
    {run : State → State} (hr : (run (countReceived .field s)).power = s.power) :
    whileWorking (arrives .field (fieldFrame dst typ h payload) run) s = run (countReceived .field s) := by
  have h1 : arrives .field (fieldFrame dst typ h payload) run s = run (countReceived .field s) := by
    simp [arrives, whileListening, State.listens, hq, frameFailure_field hs hf hd hp]
  rw [whileWorking_working hw (by rw [h1]; exact hr), h1]

/-- A frame from a known station that is no repeat is taken from it. -/
theorem stationFirst_hears {s : State} {h : Hdr} {e : Station} {dst typ : Byte} {payload : List Byte} (hh : s.hears h e)
    (unknown : State → State) (known : Station → State → State) :
    stationFirst (fieldFrame dst typ h payload) unknown known (countReceived .field s) = known e (s.heard h) := by
  obtain ⟨-, -, -, -, h4, h5⟩ := hh
  have h6 : (countReceived .field s).findStation h.src = some e := h4
  have h7 : isRepeat e (fieldFrame dst typ h payload) = false := h5
  simp only [stationFirst, fieldFrame] at *
  rw [h6]
  simp only [h7, Bool.false_eq_true, if_false]
  rfl

end Sys2Proof.Machine
end

