-- ==== Sys2Proof/Laws/PerInstr.lean ====
section
/-! SUPPORT. Laws of the commands as syntax, one lemma for each constructor. -/
namespace Sys2Proof.Laws

/-- The arrival of a well-formed command takes at most the 258 bytes of the longest frame on the line (R1). -/
def Bounded.Statement (i : Instr) : Prop := i.wellFormed = true → i.frameBytes ≤ 258

/-- A field frame's payload is one that a frame can hold. -/
theorem fieldOk_length {h : Hdr} {payload : List Byte} (w : fieldOk h payload = true) : payload.length ≤ 240 := by
  simp [fieldOk] at w; omega

/-- A trunk frame's payload and trailer are ones that a frame can hold. -/
theorem trunkOk_length {h : Hdr} {payload trailer : List Byte} (w : trunkOk h payload trailer = true) :
    payload.length + trailer.length ≤ 248 := by
  simp only [trunkOk, trailerOk, Bool.and_eq_true, decide_eq_true_eq] at w
  obtain ⟨⟨_, h1⟩, h2⟩ := w
  split at h2 <;> omega

/-- A command's payload is one that a frame can hold. -/
theorem commandOk_length {m : CmdHdr} {n : Nat} {ops : List Byte} (w : commandOk m n ops = true) : n + ops.length ≤ 240 := by
  simp [commandOk] at w; omega

/-- The bound for an event that is no frame's arrival. -/
theorem Bounded.event {i : Instr} (h : i.frameBytes = 0) : Bounded.Statement i := fun _ => by omega

/-- The bound for a field frame to the device. -/
theorem Bounded.field {i : Instr} {h : Hdr} {payload : List Byte} (w : i.wellFormed = fieldOk h payload)
    (b : i.frameBytes = 10 + payload.length) : Bounded.Statement i := fun k => by
  have := fieldOk_length (w ▸ k); omega

/-- The bound for a command with n payload bytes before its operands. -/
theorem Bounded.command {i : Instr} {m : CmdHdr} {n : Nat} {ops : List Byte} (w : i.wellFormed = commandOk m n ops)
    (b : i.frameBytes = 10 + n + ops.length) : Bounded.Statement i := fun k => by
  have := commandOk_length (w ▸ k); omega

theorem Bounded.tick : Bounded.Statement .tick := Bounded.event rfl

theorem Bounded.horizonRetire (c : Fin 4) : Bounded.Statement (.horizonRetire c) := Bounded.event rfl

theorem Bounded.stopEndAdvance (drop : Nat) : Bounded.Statement (.stopEndAdvance drop) := Bounded.event rfl

theorem Bounded.closeAdvance : Bounded.Statement .closeAdvance := Bounded.event rfl

theorem Bounded.idleDeadlineExpiry : Bounded.Statement .idleDeadlineExpiry := Bounded.event rfl

theorem Bounded.departureDeadlineExpiry : Bounded.Statement .departureDeadlineExpiry := Bounded.event rfl

theorem Bounded.openingDeadlineExpiry (c : Fin 4) (p : Fin 2) : Bounded.Statement (.openingDeadlineExpiry c p) := Bounded.event rfl

theorem Bounded.recoveryEnd : Bounded.Statement .recoveryEnd := Bounded.event rfl

theorem Bounded.linkUp : Bounded.Statement .linkUp := Bounded.event rfl

theorem Bounded.linkDown (receiving : Bool) : Bounded.Statement (.linkDown receiving) := Bounded.event rfl

theorem Bounded.transmitStart (p : Port) : Bounded.Statement (.transmitStart p) := Bounded.event rfl

theorem Bounded.transmitDone (p : Port) : Bounded.Statement (.transmitDone p) := Bounded.event rfl

theorem Bounded.receiveError (p : Port) (bytes : List Byte) : Bounded.Statement (.receiveError p bytes) := Bounded.event rfl

theorem Bounded.sample (dst : Byte) (h : Hdr) (payload : List Byte) : Bounded.Statement (.sample dst h payload) := fun k => by
  have := fieldOk_length (Bool.and_eq_true _ _ ▸ k : _ ∧ _).2
  simp only [Instr.frameBytes]; omega

theorem Bounded.doorState (dst : Byte) (h : Hdr) (payload : List Byte) : Bounded.Statement (.doorState dst h payload) := fun k => by
  have := fieldOk_length (Bool.and_eq_true _ _ ▸ k : _ ∧ _).2
  simp only [Instr.frameBytes]; omega

theorem Bounded.fieldFramePassUp (dst : Byte) (typ : Byte) (h : Hdr) (payload : List Byte) : Bounded.Statement (.fieldFramePassUp dst typ h payload) := fun k => by
  have := fieldOk_length (Bool.and_eq_true _ _ ▸ k : _ ∧ _).2
  simp only [Instr.frameBytes]; omega

theorem Bounded.unhandledFrame (p : Port) (typ : Byte) (h : Hdr) (payload : List Byte) (trailer : List Byte) : Bounded.Statement (.unhandledFrame p typ h payload trailer) := fun k => by
  simp only [Instr.frameBytes]
  cases p
  · simp only [Instr.wellFormed, Bool.and_eq_true, List.isEmpty_iff] at k
    have := fieldOk_length k.1.2
    simp only [k.2, List.length_nil]; omega
  · simp only [Instr.wellFormed, Bool.and_eq_true] at k
    have := trunkOk_length k.2; omega

theorem Bounded.trunkFramePassDown (dst : Byte) (typ : Byte) (h : Hdr) (payload : List Byte) (trailer : List Byte) : Bounded.Statement (.trunkFramePassDown dst typ h payload trailer) := fun k => by
  have := trunkOk_length (Bool.and_eq_true _ _ ▸ k : _ ∧ _).2
  simp only [Instr.frameBytes]; omega

theorem Bounded.stopArrive (h : Hdr) (payload : List Byte) : Bounded.Statement (.stopArrive h payload) := Bounded.field rfl rfl

theorem Bounded.stopDepart (h : Hdr) (payload : List Byte) : Bounded.Statement (.stopDepart h payload) := Bounded.field rfl rfl

theorem Bounded.handoverOpen (h : Hdr) (payload : List Byte) : Bounded.Statement (.handoverOpen h payload) := Bounded.field rfl rfl

theorem Bounded.itemConfirm (h : Hdr) (payload : List Byte) : Bounded.Statement (.itemConfirm h payload) := Bounded.field rfl rfl

theorem Bounded.handoverClose (h : Hdr) (payload : List Byte) : Bounded.Statement (.handoverClose h payload) := Bounded.field rfl rfl

theorem Bounded.handoverAbort (h : Hdr) (payload : List Byte) : Bounded.Statement (.handoverAbort h payload) := Bounded.field rfl rfl

theorem Bounded.terminalClaimLodge (h : Hdr) (payload : List Byte) : Bounded.Statement (.terminalClaimLodge h payload) := Bounded.field rfl rfl

theorem Bounded.stationWrite (m : CmdHdr) (ops : List Byte) : Bounded.Statement (.stationWrite m ops) := Bounded.command rfl rfl

theorem Bounded.stationClear (m : CmdHdr) (ops : List Byte) : Bounded.Statement (.stationClear m ops) := Bounded.command rfl rfl

theorem Bounded.compartmentWrite (m : CmdHdr) (ops : List Byte) : Bounded.Statement (.compartmentWrite m ops) := Bounded.command rfl rfl

theorem Bounded.classWrite (m : CmdHdr) (ops : List Byte) : Bounded.Statement (.classWrite m ops) := Bounded.command rfl rfl

theorem Bounded.frameClassWrite (m : CmdHdr) (ops : List Byte) : Bounded.Statement (.frameClassWrite m ops) := Bounded.command rfl rfl

theorem Bounded.passMaskSet (m : CmdHdr) (ops : List Byte) : Bounded.Statement (.passMaskSet m ops) := Bounded.command rfl rfl

theorem Bounded.alertLevelWrite (m : CmdHdr) (ops : List Byte) : Bounded.Statement (.alertLevelWrite m ops) := Bounded.command rfl rfl

theorem Bounded.alertMaskSet (m : CmdHdr) (ops : List Byte) : Bounded.Statement (.alertMaskSet m ops) := Bounded.command rfl rfl

theorem Bounded.configWrite (m : CmdHdr) (ops : List Byte) : Bounded.Statement (.configWrite m ops) := Bounded.command rfl rfl

theorem Bounded.timeSet (m : CmdHdr) (ops : List Byte) : Bounded.Statement (.timeSet m ops) := Bounded.command rfl rfl

theorem Bounded.manifestLoadSingle (m : CmdHdr) (ops : List Byte) : Bounded.Statement (.manifestLoadSingle m ops) := Bounded.command rfl rfl

theorem Bounded.manifestLoadPartOne (m : CmdHdr) (ops : List Byte) : Bounded.Statement (.manifestLoadPartOne m ops) := Bounded.command rfl rfl

theorem Bounded.manifestLoadPartTwo (m : CmdHdr) (ops : List Byte) : Bounded.Statement (.manifestLoadPartTwo m ops) := Bounded.command rfl rfl

theorem Bounded.manifestDelete (m : CmdHdr) (ops : List Byte) : Bounded.Statement (.manifestDelete m ops) := Bounded.command rfl rfl

theorem Bounded.routeOpen (m : CmdHdr) (ops : List Byte) : Bounded.Statement (.routeOpen m ops) := Bounded.command rfl rfl

theorem Bounded.routeClose (m : CmdHdr) (ops : List Byte) : Bounded.Statement (.routeClose m ops) := Bounded.command rfl rfl

theorem Bounded.queryPart (m : CmdHdr) (ops : List Byte) : Bounded.Statement (.queryPart m ops) := Bounded.command rfl rfl

theorem Bounded.queryCompartment (m : CmdHdr) (ops : List Byte) : Bounded.Statement (.queryCompartment m ops) := Bounded.command rfl rfl

theorem Bounded.queryDoor (m : CmdHdr) (ops : List Byte) : Bounded.Statement (.queryDoor m ops) := Bounded.command rfl rfl

theorem Bounded.queryStation (m : CmdHdr) (ops : List Byte) : Bounded.Statement (.queryStation m ops) := Bounded.command rfl rfl

theorem Bounded.queryDrop (m : CmdHdr) (ops : List Byte) : Bounded.Statement (.queryDrop m ops) := Bounded.command rfl rfl

theorem Bounded.queryStore (m : CmdHdr) (ops : List Byte) : Bounded.Statement (.queryStore m ops) := Bounded.command rfl rfl

theorem Bounded.queryClaims (m : CmdHdr) (ops : List Byte) : Bounded.Statement (.queryClaims m ops) := Bounded.command rfl rfl

theorem Bounded.queryCounters (m : CmdHdr) (ops : List Byte) : Bounded.Statement (.queryCounters m ops) := Bounded.command rfl rfl

theorem Bounded.proofFetchNext (m : CmdHdr) (ops : List Byte) : Bounded.Statement (.proofFetchNext m ops) := Bounded.command rfl rfl

theorem Bounded.proofFetchNumber (m : CmdHdr) (ops : List Byte) : Bounded.Statement (.proofFetchNumber m ops) := Bounded.command rfl rfl

theorem Bounded.proofRelease (m : CmdHdr) (ops : List Byte) : Bounded.Statement (.proofRelease m ops) := Bounded.command rfl rfl

theorem Bounded.claimLodge (asFrame : Bool) (m : CmdHdr) (ops : List Byte) : Bounded.Statement (.claimLodge asFrame m ops) := by
  cases asFrame
  · exact Bounded.command rfl rfl
  · exact Bounded.command rfl rfl

theorem Bounded.monitorReset (m : CmdHdr) (ops : List Byte) : Bounded.Statement (.monitorReset m ops) := Bounded.command rfl rfl

theorem Bounded.fullClear (m : CmdHdr) (ops : List Byte) : Bounded.Statement (.fullClear m ops) := Bounded.command rfl rfl

theorem Bounded.powerLoss (cause : StopCause) : Bounded.Statement (.powerLoss cause) := Bounded.event rfl

theorem Bounded.backupSupplyLoss : Bounded.Statement .backupSupplyLoss := Bounded.event rfl

theorem Bounded.deviceStart (cause : StartCause) : Bounded.Statement (.deviceStart cause) := Bounded.event rfl

theorem Bounded.unknownCommandCode (m : CmdHdr) (payload : List Byte) : Bounded.Statement (.unknownCommandCode m payload) := fun k => by
  have := commandOk_length (Bool.and_eq_true _ _ ▸ k : _ ∧ _).1
  simp only [Instr.frameBytes]; omega

end Sys2Proof.Laws
end

