-- ==== Sys2Proof/Tests/Slice0.lean ====
section
/-! SUPPORT. Tests: ill-formed commands, the worked sequences of the manual, and a state for the hypotheses of each statement. -/
namespace Sys2Proof.Tests

-- One theorem after another: each thread of a parallel elaboration claims a gigabyte of address space.
set_option Elab.async false

open Sys2Proof.Machine

/-! ### States and commands to test with -/

/-- The state a command leaves. -/
def after (c : Instr) (s : State) : State :=
  match exec c s with
  | .next t => t
  | .fault _ => s
  | .refused _ => s

/-- A header from a station: not annotated. -/
def hdr (src : Byte) (seq : Byte := 1) (age : BitVec 16 := 0) : Hdr := { src := src, flags := 0, seq := seq, age := age }

/-- A command from the telematics unit. -/
def cmd : CmdHdr := { src := 0x80, seq := 7 }

/-- A working device at a part time, with nothing loaded. -/
def dev (now : Nat) : State := { State.reset with clock := { partTime := now, timeSet := true } }

/-- The profile of the worked sequences of chapter 4: -18.0 °C, -12.0 °C, weight 4, freshness 60 s, alarm budget 5 °C·min. -/
def frozen : Profile := { enabled := true, limit := -288, severe := -192, hysteresis := 16, weight := 4, freshness := 240, openLimit := 240, budget := 5 }

/-- Probes 0x21 and 0x22 at positions 0 and 1 of compartment 0, a contact at its door 0, and two terminals. -/
def stations : StationTable :=
  { entries := [{ addr := 0x21, binding := .probe 0 0 3, override := none }, { addr := 0x22, binding := .probe 0 1 0, override := none },
                { addr := 0x31, binding := .door 0 0, override := none }, { addr := 0x40, binding := .terminal, override := none },
                { addr := 0x41, binding := .terminal, override := none }] }

/-- A device with its tables written, off a route. -/
def tabled (now : Nat) : State :=
  { dev now with
    stations := stations
    comps := State.reset.comps.set 0 { profile := frozen }
    classes := State.reset.classes.set 2 (some { budget := 5, gapTolerance := 120, receiptLimit := -240, shockSensitive := false }) }

/-- An open route with compartment 0 under account at a committed time; slot 0 is the route's. -/
def route (now committed : Nat) : State :=
  { tabled now with
    route := { state := .opened, id := 4407, openTime := 100, reservation := some 0 }
    store := { State.reset.store with slots := State.reset.store.slots.set 0 .reserved }
    comps := State.reset.comps.set 0 { profile := frozen, window := { armed := true, committed := committed } } }

/-- Three items of class 2 in compartment 0. -/
def items : List Item :=
  [{ product := 1, lot := 1, cls := 2, comp := 0, planned := 12 }, { product := 2, lot := 1, cls := 2, comp := 0, planned := 6 },
   { product := 3, lot := 1, cls := 2, comp := 0, planned := 4 }]

/-- Drop 23 in a state, of compartment 0, with slot 1 for its record. -/
def drop (st : DropState) (owner : Option Byte) : Drop :=
  { number := 23, site := 9, mask := 1, allowance := 160, items := items, state := st, reservation := some 1, owner := owner }

/-- The context of drop 23. -/
def context : Context := { drop := 23, arrival := 60200, comps := [{ comp := 0, start := 60180, allowance := 160 }] }

/-- A route with drop 23 in a state, owned by terminal 0x41, and with or without its context. -/
def stopped (now committed : Nat) (st : DropState) (contexts : List Context) : State :=
  { (route now committed).setSlot 1 .reserved with drops := [drop st (some 0x41)], contexts := contexts }

/-- A record's header and body, for slots. -/
def record (n : Nat) : RecordHeader := { number := n, kind := .storeFault, routeId := 4407, fillTime := 10, chain := 0 }
def body : RecordBody := .storeFault { source := .fetch, time := 10, slot := 3, number := 1, kind := .routeOpen, faults := 1, free := 200 }

/-- A store that holds records 90 (FILLED) and 91 (TAKEN) and the header of 92 (CORRUPT). -/
def stored (now : Nat) : State :=
  { (((dev now).setSlot 20 (.filled (record 90) body)).setSlot 21 (.taken (record 91) body)).setSlot 22 (.corrupt (record 92) false) with
    store := { (((dev now).setSlot 20 (.filled (record 90) body)).setSlot 21 (.taken (record 91) body)).setSlot 22 (.corrupt (record 92) false) |>.store
               with fillList := [20, 21, 22], nextNumber := 93 } }

/-- s whose next read of the array is sound, or not. -/
def reads (fails : Bool) (s : State) : State := { s with array := { script := [fails], count := 0 } }

/-- s in LOCKOUT. -/
def locked (s : State) : State := { s with store := { s.store with lockout := true, faultInProgress := true } }

/-- s stopped: main power is lost. -/
def unpowered (s : State) : State := { s with power := { s.power with mainPower := false, downTime := 70150, downValid := true } }

/-- s with a check word that does not agree. -/
def lost (s : State) : State := { s with power := { s.power with checkDiff := 1 } }

/-- The payloads of the frames in a port's reply queue. -/
def replyPayloads (p : Port) (s : State) : List (List Byte) := (s.port p).replies.map (·.frame.payload)

/-- The payloads of the queued ALERT frames. -/
def alertPayloads (s : State) : List (List Byte) := s.ports.alertQueue.map (·.frame.payload)

/-! ### Ill-formed commands -/

theorem test_wf_source_zero : (Instr.stopArrive (hdr 0) [1]).wellFormed = false := by decide
theorem test_wf_source_device : (Instr.stopArrive (hdr 0xFE) [1]).wellFormed = false := by decide
theorem test_wf_field_annotated : (Instr.stopArrive { hdr 0x40 with flags := 1 } [1]).wellFormed = false := by decide
theorem test_wf_payload_long : (Instr.stopArrive (hdr 0x40) (List.replicate 241 0)).wellFormed = false := by decide +kernel
theorem test_wf_destination_zero : (Instr.sample 0 (hdr 0x21) [0, 0]).wellFormed = false := by decide
theorem test_wf_destination_zero_door : (Instr.doorState 0 (hdr 0x31) [0]).wellFormed = false := by decide
theorem test_wf_pass_up_to_device : (Instr.fieldFramePassUp 0xFE 0x60 (hdr 0x21) []).wellFormed = false := by decide
theorem test_wf_pass_up_broadcast_sample : (Instr.fieldFramePassUp 0xFF 0x10 (hdr 0x21) [0, 0]).wellFormed = false := by decide
theorem test_wf_pass_down_to_device : (Instr.trunkFramePassDown 0xFE 0x60 (hdr 0x80) [] []).wellFormed = false := by decide
theorem test_wf_trailer_missing : (Instr.trunkFramePassDown 0x21 0x60 { hdr 0x80 with flags := 1 } [] []).wellFormed = false := by decide
theorem test_wf_trailer_unannounced : (Instr.trunkFramePassDown 0x21 0x60 (hdr 0x80) [] (List.replicate 8 0)).wellFormed = false := by decide
theorem test_wf_handled_type_field : (Instr.unhandledFrame .field 0x10 (hdr 0x21) [] []).wellFormed = false := by decide
theorem test_wf_handled_type_trunk : (Instr.unhandledFrame .trunk 0x40 (hdr 0x80) [] []).wellFormed = false := by decide
theorem test_wf_field_trailer : (Instr.unhandledFrame .field 0x60 (hdr 0x21) [] [0]).wellFormed = false := by decide
theorem test_wf_command_source : (Instr.routeClose { src := 0xFF, seq := 0 } []).wellFormed = false := by decide
theorem test_wf_command_long : (Instr.routeClose cmd (List.replicate 240 0)).wellFormed = false := by decide +kernel
theorem test_wf_command_longest : (Instr.routeClose cmd (List.replicate 239 0)).wellFormed = true := by decide +kernel
theorem test_wf_code_known : (Instr.unknownCommandCode cmd [0x14]).wellFormed = false := by decide
theorem test_wf_code_unknown : (Instr.unknownCommandCode cmd [0x15]).wellFormed = true := by decide
theorem test_wf_drop_zero : (Instr.stopEndAdvance 0).wellFormed = false := by decide
theorem test_wf_drop_above : (Instr.stopEndAdvance 65).wellFormed = false := by decide
theorem test_no_word_spells_a_command : decodeTableWord 16 0x1234 = none := rfl

/-! ### Checksums and reports -/

/-- The published check value of the CRC with polynomial 0x1021, start 0xFFFF, unreflected, no final XOR, over "123456789" (R2's parameters). -/
theorem test_crc16 : crc16 [0x31, 0x32, 0x33, 0x34, 0x35, 0x36, 0x37, 0x38, 0x39] = 0x29B1 := by decide +kernel
/-- The published check value of the CRC with polynomial 0x04C11DB7, start 0xFFFFFFFF, unreflected, no final XOR (R150's parameters). -/
theorem test_crc32 : crc32 [0x31, 0x32, 0x33, 0x34, 0x35, 0x36, 0x37, 0x38, 0x39] = 0x0376E6E7 := by decide +kernel
/-- Worked sequence of chapter 4: 25,280 EU are 6 and 149/256, and 12,320 EU are 3 and 53/256. -/
theorem test_report : euReport 25280 = (6, 149) ∧ euReport 12320 = (3, 53) ∧ euReport 12160 = (3, 42) := by decide

/-! ### One step of each command -/

/-- R39: part time stays at its largest value. -/
theorem test_tick_saturates : (after .tick (dev 4294967295)).now = 4294967295 ∧ (after .tick (dev 7)).now = 8 := by decide

/-- The window of 3.9 at part time 30,010, its compartment taken as 0: A retires, 15 ticks are charged, B and C wait. -/
def window39 : State :=
  (route 30010 29935).updComp 0 fun k =>
    { k with
      window := { k.window with events := [⟨29950, 101, .probe 0 (-290)⟩, ⟨29958, 102, .door 0 .opened⟩, ⟨29958, 103, .probe 1 (-284)⟩] }
      account := { k.account with tg := some (-280), thermal := some .excursion, readings := #v[some (-280, 29900), none, none, none] } }

/-- 3.9, part time 30,010; 15 ticks at 8 above the limit are 120 EU (R71). -/
theorem test_horizonRetire :
    ((after (.horizonRetire 0) window39).comp 0).window.committed = 29950
      ∧ ((after (.horizonRetire 0) window39).comp 0).window.events.length = 2
      ∧ ((after (.horizonRetire 0) window39).comp 0).account.e = 120
      ∧ ((after (.horizonRetire 0) window39).comp 0).account.tg = some (-290) := by decide

/-- The stop of the worked sequence of chapter 4 before part time 5,440: the last piece [5,300, 5,380) is to be charged. -/
def stop4 : State :=
  reads false
    ((stopped 5440 5300 .settling
        [{ drop := 23, arrival := 5000, endTime := some 5380, outcome := some .delivered
           comps := [{ comp := 0, start := 5000, allowance := 100, used := 100 }] }]).updComp 0 fun k =>
      { k with
        doors := k.doors.set 0 { settled := .opened, since := 5020 }
        account := { k.account with e := 4160, p := 800, h := 11520, gap := 50, tg := some (-150), thermal := some .severe
                                    readings := #v[some (-150, 5300), some (-300, 5010), none, none] } })

/-- Chapter 4, advance-to at 5,380: 21,120 EU to E, P's 800 to H, the budget flag, BUDGET_EXCEEDED with value 6. -/
theorem test_stopEndAdvance :
    ((after (.stopEndAdvance 23) stop4).comp 0).account.e = 25280 ∧ ((after (.stopEndAdvance 23) stop4).comp 0).account.p = 0
      ∧ ((after (.stopEndAdvance 23) stop4).comp 0).account.h = 12320
      ∧ alertPayloads (after (.stopEndAdvance 23) stop4) = [[9, 3, 1, 0, 0, 0, 0x15, 0x40, 1, 0, 0, 0, 6, 0, 1]] := by decide

/-- R140: the drop takes its outcome, and the record's number, and gives its reservation up. -/
theorem test_stopEndAdvance_settles :
    ((after (.stopEndAdvance 23) stop4).findDrop 23).map (fun d => (d.state, d.record, d.reservation))
        = some (.final .delivered, some 1, none)
      ∧ (after (.stopEndAdvance 23) stop4).contexts = [] := by decide

/-- The end of the day of chapter 6 at part time 50,060. -/
def closing : State := reads false { route 50060 49000 with route := { (route 50060 49000).route with state := .closing, closeTime := some 50000 } }

/-- Chapter 6: the route ends, with its identity and close time on report, and its record fills the reservation. -/
theorem test_closeAdvance :
    (after .closeAdvance closing).route
        = { state := .noRoute, id := 4407, openTime := 100, closeTime := some 50000, closeReason := some .closed }
      ∧ ((after .closeAdvance closing).comp 0).window.committed = 50000
      ∧ (after .closeAdvance closing).store.fillList = [0] := by decide

/-- R133: part time has reached the idle deadline 60,730 of the worked stop: the drop is ACTIVE again, HANDOVER_TIMEOUT names the owner. -/
theorem test_idleDeadline :
    (after .idleDeadlineExpiry (stopped 60730 60200 .handingOver [{ context with idleDeadline := some 60730 }])).drops.map (·.state) = [.active]
      ∧ alertPayloads (after .idleDeadlineExpiry (stopped 60730 60200 .handingOver [{ context with idleDeadline := some 60730 }]))
        = [[13, 3, 4, 23, 0, 0, 0xED, 0x3A, 1, 0, 0, 0, 0x41, 0, 1]] := by decide

/-- Chapter 12's outage: the stop closes at 71,350 as DELIVERED, and the drop is SETTLING. -/
theorem test_departureDeadline :
    (after .departureDeadlineExpiry
        (stopped 71350 70100 .handedOver [{ context with outcome := some .delivered, departDeadline := some 70480 }])).contexts.map
          (fun x => (x.endTime, x.outcome, x.departDeadline)) = [(some 71350, some .delivered, none)]
      ∧ (after .departureDeadlineExpiry
        (stopped 71350 70100 .handedOver [{ context with outcome := some .delivered, departDeadline := some 70480 }])).drops.map
          (·.state) = [.settling] := by decide

/-- Door 0 of compartment 0 live-open since 7,990, as in chapter 5. -/
def opening (now : Nat) : State := (route now 7950).updDoor 0 0 fun x => { x with opening := some 7990, deadline := some 8230 }

/-- Chapter 5, part time 8,230: DOOR_OPEN_LONG with value 240. -/
theorem test_openingDeadline :
    alertPayloads (after (.openingDeadlineExpiry 0 0) (opening 8230)) = [[10, 3, 2, 0, 0, 0, 0x20, 0x26, 1, 0, 0, 0, 240, 0, 1]]
      ∧ ((after (.openingDeadlineExpiry 0 0) (opening 8230)).comp 0).doors[0].longOpenings = 1
      ∧ ((after (.openingDeadlineExpiry 0 0) (opening 8230)).comp 0).doors[0].deadline = none := by decide

/-- A recovery from a FETCH of record 91 in slot 21, due at 1,004. -/
def recovering (now : Nat) : State :=
  { stored now with store := { (stored now).store with
      faultInProgress := true, nextNumber := 100
      recovery := some { source := .fetch, time := 1000, slot := 21, number := 91, kind := .dropOutcome, deadline := 1004 } } }

/-- Chapter 8, step 3: the STORE_FAULT record takes number 100 in the lowest FREE slot, and fault-in-progress clears. -/
theorem test_recoveryEnd :
    (after .recoveryEnd (reads false (recovering 1004))).store.fillList = [20, 21, 22, 0]
      ∧ (after .recoveryEnd (reads false (recovering 1004))).store.nextNumber = 101
      ∧ (after .recoveryEnd (reads false (recovering 1004))).store.faultInProgress = false := by decide +kernel

theorem test_linkUp : (after .linkUp (dev 5)).ports.linkUp = true := by decide

/-- R3, R6: a reception cut off by the loss of the idle pattern is a length error. -/
theorem test_linkDown :
    (after (.linkDown true) (after .linkUp (dev 5))).ports.linkUp = false
      ∧ (after (.linkDown true) (after .linkUp (dev 5))).ports.trunk.counts.lengthErrors = 1
      ∧ (after (.linkDown false) (after .linkUp (dev 5))).ports.trunk.counts.lengthErrors = 0 := by decide

/-- 1.9: the first frame on the port since cold start receives originated sequence 0, and the next 1; a reply goes ahead of an alert. -/
def queued : State :=
  { dev 10000 with ports := { (dev 10000).ports with
      linkUp := true
      alertQueue := [originate 0xFF typAlert [1]]
      trunk := { (dev 10000).ports.trunk with seqCounter := 1, replies := [originate 0x80 typMgmtReply [2]] } } }

theorem test_transmitStart :
    (after (.transmitStart .trunk) queued).ports.trunk.sending.map (fun x => (x.queue, x.wire.take 9))
        = some (.reply, [0x80, 0xFE, 0x41, 2, 1, 0, 0, 1, 2])
      ∧ (after (.transmitStart .trunk) queued).ports.trunk.seqCounter = 2 := by decide +kernel

theorem test_transmitDone :
    (after (.transmitDone .trunk) (after (.transmitStart .trunk) queued)).ports.trunk.replies = []
      ∧ (after (.transmitDone .trunk) (after (.transmitStart .trunk) queued)).ports.trunk.counts.sent = 1 := by decide +kernel

/-- R3: nine bytes are no frame. -/
theorem test_receiveError_length :
    (after (.receiveError .field (List.replicate 9 0)) (dev 5)).ports.field.counts.lengthErrors = 1 := by decide

/-- R3: bytes that would be a frame with the wrong CRC bytes. -/
theorem test_receiveError_crc :
    (after (.receiveError .field [0xFF, 0x21, 0x10, 0, 41, 0, 4, 2, 0xFE, 0xCE, 0, 0]) (dev 5)).ports.field.counts.crcErrors = 1 := by
  decide +kernel

/-- 2.14, arrival a: the reading -306 + 3 is the latest at 19,996, and joins the window of committed time 19,900. -/
theorem test_sample :
    ((after (.sample 0xFE (hdr 0x21 41 4) [0xFE, 0xCE]) (route 20000 19900)).findStation 0x21).map (fun e => (e.latest, e.lastSeq, e.taken))
        = some (some (-303, 19996), 41, 1)
      ∧ ((after (.sample 0xFE (hdr 0x21 41 4) [0xFE, 0xCE]) (route 20000 19900)).comp 0).window.events
        = [⟨19996, 0, .probe 0 (-303)⟩] := by decide

/-- 2.14, arrival c: -250 + 3 at 17,610 is LATE and warm, and its forwarded copy carries LATE and the temperature -247. -/
theorem test_sample_late :
    ((after (.sample 0xFF (hdr 0x21 12 2400) [0xFF, 0x06]) (route 20010 19900)).ports.trunk.forward.map (·.frame.trailer))
        = [[0, 0, 1, 0xFF, 0x09, 0, 0x4E, 0x2A]]
      ∧ ((after (.sample 0xFF (hdr 0x21 12 2400) [0xFF, 0x06]) (route 20010 19900)).comp 0).account.lateWarm = 1 := by decide

/-- Chapter 5, part time 7,990: a live opening with deadline 8,230, UNSCHEDULED_OPEN with value 0, and an event in the window. -/
theorem test_doorState :
    ((after (.doorState 0xFE (hdr 0x31) [1]) (route 7990 7950)).comp 0).doors[0].deadline = some 8230
      ∧ alertPayloads (after (.doorState 0xFE (hdr 0x31) [1]) (route 7990 7950)) = [[11, 3, 2, 0, 0, 0, 0x1F, 0x36, 1, 0, 0, 0, 0, 0, 1]]
      ∧ ((after (.doorState 0xFE (hdr 0x31) [1]) (route 7990 7950)).comp 0).window.events = [⟨7990, 0, .door 0 .opened⟩] := by decide

/-- 1.9, arrival 2: class 0x04 against mask 0x01 is held back. -/
theorem test_passUp :
    (after (.fieldFramePassUp 0x33 0x60 (hdr 0x40) [])
      { route 10000 9000 with pass := { (dev 0).pass with classTable := (dev 0).pass.classTable.set 0x60 0x04 } }).pass.upCounts.heldBack = 1 := by
  decide

/-- R5, R29: a type the device does not handle, from a source it does not know. -/
theorem test_unhandled :
    (after (.unhandledFrame .field 0x60 (hdr 0x5A) [] []) (dev 5)).ports.field.counts.unhandled = 1
      ∧ (after (.unhandledFrame .field 0x60 (hdr 0x5A) [] []) (dev 5)).stations.unknownSource = 1
      ∧ (after (.unhandledFrame .trunk 0x60 (hdr 0x80) [] []) (dev 5)).ports.trunk.counts.unhandled = 1 := by decide

/-- R12: a trunk frame goes down as it came. -/
theorem test_passDown :
    (after (.trunkFramePassDown 0x21 0x60 (hdr 0x80 9) [1, 2] []) (dev 5)).ports.field.forward
      = [{ frame := { dst := 0x21, src := 0x80, typ := 0x60, flags := 0, seq := 9, age := 0, payload := [1, 2], trailer := [] } }] := by decide

/-- The worked stop before part time 60,200: drop 22's context is last in the list, with end time 60,170. -/
def stop7 : State :=
  stopped 60200 60140 .planned
    [{ drop := 22, arrival := 60000, endTime := some 60170, outcome := some .delivered, comps := [{ comp := 0, start := 60000, allowance := 100 }] }]

/-- Worked stop, step a: the start for compartment 0 is 60,180, and the answer ACCEPTED with the drop ACTIVE. -/
theorem test_stopArrive :
    ((after (.stopArrive (hdr 0x40) [23]) stop7).contexts.map fun x => (x.drop, x.comps.map (·.start))) = [(22, [60000]), (23, [60180])]
      ∧ (after (.stopArrive (hdr 0x40) [23]) stop7).drops.map (fun d => (d.state, d.owner)) = [(.active, some 0x40)]
      ∧ replyPayloads .field (after (.stopArrive (hdr 0x40) [23]) stop7) = [[0x30, 23, 0, 0, 0xFF, 1]] := by decide

/-- Worked stop, step m, and before it step l: the end time is 60,424 for the owner, and another terminal is refused with NOT_OWNER. -/
theorem test_stopDepart :
    ((after (.stopDepart (hdr 0x41) [23]) (stopped 60424 60300 .handedOver [{ context with outcome := some .partlyDelivered }])).contexts.map
        (·.endTime)) = [some 60424]
      ∧ replyPayloads .field (after (.stopDepart (hdr 0x40) [23]) (stopped 60420 60300 .handedOver [{ context with outcome := some .partlyDelivered }]))
        = [[0x31, 23, 0, 2, 4, 3]] := by decide

/-- Worked stop, steps e and c: the idle deadline is 60,250 + 480; from another terminal NOT_OWNER. -/
theorem test_handoverOpen :
    ((after (.handoverOpen (hdr 0x41) [23]) (stopped 60250 60200 .active [context])).contexts.map fun x => (x.idleDeadline, x.attempts))
        = [(some 60730, 1)]
      ∧ replyPayloads .field (after (.handoverOpen (hdr 0x40) [23]) (stopped 60240 60200 .active [context])) = [[0x32, 23, 0, 2, 4, 1]] := by
  decide

/-- Worked stop, steps h and g: 2 accepted and 4 refused of 6, receipt -220, deadline 60,810; 2 and 5 are over the count. -/
theorem test_itemConfirm :
    ((after (.itemConfirm (hdr 0x41) [23, 1, 0, 2, 0, 4, 1, 0xFF, 0x24]) (stopped 60330 60200 .handingOver [context])).drops.map fun d =>
        (d.items.map fun i => (i.accepted, i.refused, i.reason, i.receipt)))
        = [[(0, 0, none, none), (2, 4, some .temperature, some (-220)), (0, 0, none, none)]]
      ∧ replyPayloads .field (after (.itemConfirm (hdr 0x41) [23, 1, 0, 2, 0, 5, 1, 0xFF, 0x24]) (stopped 60320 60200 .handingOver [context]))
        = [[0x33, 23, 1, 2, 6, 2]] := by decide

/-- The items of the worked stop at step k: items 0 and 2 accepted whole, item 1 with 2 of 6. -/
def confirmed : State :=
  { stopped 60400 60200 .handingOver [{ context with idleDeadline := some 60840 }] with
    drops := [{ drop .handingOver (some 0x41) with items := [
      { product := 1, lot := 1, cls := 2, comp := 0, planned := 12, accepted := 12 },
      { product := 2, lot := 1, cls := 2, comp := 0, planned := 6, accepted := 2, refused := 4, reason := some .temperature, receipt := some (-220) },
      { product := 3, lot := 1, cls := 2, comp := 0, planned := 4, accepted := 4 }] }] }

/-- Worked stop, step k: PARTIAL, C at 60,400, departure deadline 60,880. -/
theorem test_handoverClose :
    ((after (.handoverClose (hdr 0x41) [23, 1, 2, 3, 4, 5, 6, 7, 8]) confirmed).contexts.map fun x =>
        (x.outcome, x.handoverClose, x.idleDeadline, x.departDeadline, x.digest))
      = [(some .partlyDelivered, some 60400, none, some 60880, some 0x0102030405060708)] := by decide

/-- R133: the confirmation fields are cleared, and the drop is ACTIVE. -/
theorem test_handoverAbort :
    ((after (.handoverAbort (hdr 0x41) [23]) confirmed).drops.map fun d => (d.state, d.items.map fun i => (i.accepted, i.refused, i.receipt)))
      = [(.active, [(0, 0, none), (0, 0, none), (0, 0, none)])] := by decide

/-- Worked sequence of chapter 9, steps b and c: a claim on a SETTLING drop waits; one on an ACTIVE drop is refused with STATE. -/
theorem test_terminalClaim :
    replyPayloads .field (after (.terminalClaimLodge (hdr 0x41) [0, 9, 2, 0, 23, 0xFF, 1])
        (stopped 60610 60500 .settling [{ context with endTime := some 60600, outcome := some .delivered }]))
        = [[0x36, 23, 0, 0, 0xFF, 4]]
      ∧ replyPayloads .field (after (.terminalClaimLodge (hdr 0x41) [0, 9, 2, 0, 23, 0, 1]) (stopped 60610 60500 .active [context]))
        = [[0x36, 23, 0, 2, 3, 1]] := by decide +kernel

/-- 13.5: a PROBE entry with offset -2 and an override; and a kind code outside the four is MALFORMED. -/
theorem test_stationWrite :
    (after (.stationWrite cmd [0x30, 1, 2, 3, 0xFE, 1, 0x80]) (dev 5)).stations.entries
        = [{ addr := 0x30, binding := .probe 2 3 (-2), override := some 0x80 }]
      ∧ replyPayloads .trunk (after (.stationWrite cmd [0x30, 5, 0]) (dev 5)) = [[0x01, 7, 2, 1]] := by decide

/-- R23, check 4, and R24: an equal place is refused with CONFLICT; an entry rewritten to another kind keeps its sequence. -/
theorem test_stationWrite_conflict :
    replyPayloads .trunk (after (.stationWrite cmd [0x30, 1, 0, 0, 0, 0]) (tabled 5)) = [[0x01, 7, 2, 4]]
      ∧ ((after (.stationWrite cmd [0x21, 3, 0]) { tabled 5 with stations := { entries :=
          [{ addr := 0x21, binding := .probe 0 0 3, override := none, seqSeen := true, lastSeq := 9, taken := 4 }] } }).findStation 0x21).map
            (fun e => (e.binding, e.lastSeq, e.taken)) = some (.terminal, 9, 0) := by decide

/-- R25, R26: a bound contact is not cleared on a route; off a route its live opening ends with it. -/
theorem test_stationClear :
    replyPayloads .trunk (after (.stationClear cmd [0x31]) (route 7990 7950)) = [[0x02, 7, 2, 5]]
      ∧ ((after (.stationClear cmd [0x31]) { opening 8000 with route := {} }).comp 0).doors[0].opening = none
      ∧ (after (.stationClear cmd [0x31]) { opening 8000 with route := {} }).findStation 0x31 = none := by decide

/-- R106: an entry with L above S is out of range; a whole entry is written. -/
theorem test_compartmentWrite :
    replyPayloads .trunk (after (.compartmentWrite cmd [1, 1, 0xFF, 0x40, 0xFE, 0xE0, 16, 4, 0, 240, 0, 240, 0, 5]) (dev 5)) = [[0x03, 7, 2, 2]]
      ∧ ((after (.compartmentWrite cmd [1, 1, 0xFE, 0xE0, 0xFF, 0x40, 16, 4, 0, 240, 0, 240, 0, 5]) (dev 5)).comp 1).profile = frozen := by decide

/-- R108, 13.5: class 2 of the worked stop; UNDEFINED for a class that an item names is a CONFLICT. -/
theorem test_classWrite :
    (after (.classWrite cmd [2, 1, 0, 5, 0, 120, 0xFF, 0x10, 0]) (dev 5)).classes[2]
        = some { budget := 5, gapTolerance := 120, receiptLimit := -240, shockSensitive := false }
      ∧ replyPayloads .trunk (after (.classWrite cmd [2, 0]) { tabled 5 with drops := [drop .planned none] }) = [[0x04, 7, 2, 4]] := by decide

/-- R193: a run of two from type 0x60; a run past the end is out of range. -/
theorem test_frameClassWrite :
    (after (.frameClassWrite cmd [0x60, 2, 4, 8]) (dev 5)).pass.classTable[0x61] = 8
      ∧ (after (.frameClassWrite cmd [0x60, 2, 4, 8]) (dev 5)).pass.classTable[0x62] = 1
      ∧ replyPayloads .trunk (after (.frameClassWrite cmd [0xFF, 2, 4, 8]) (dev 5)) = [[0x05, 7, 2, 2]] := by decide +kernel

/-- R194, 13.5: name 2 is DOWN_ROUTE. -/
theorem test_passMaskSet :
    (after (.passMaskSet cmd [2, 0x55]) (dev 5)).pass.downRoute = 0x55 ∧ (after (.passMaskSet cmd [2, 0x55]) (dev 5)).pass.upRoute = 1 := by
  decide

/-- R195: code 21 is the last, and level 7 the highest. -/
theorem test_alertLevelWrite :
    ((after (.alertLevelWrite cmd [21, 7]) (dev 5)).alertEntry .resumed).level = 7
      ∧ replyPayloads .trunk (after (.alertLevelWrite cmd [22, 7]) (dev 5)) = [[0x07, 7, 2, 2]] := by decide

theorem test_alertMaskSet :
    (after (.alertMaskSet cmd [7]) (dev 5)).alerts.mask = 7
      ∧ replyPayloads .trunk (after (.alertMaskSet cmd [8]) (dev 5)) = [[0x08, 7, 2, 2]] := by decide

/-- 11.5, clamping: D 10 and holdoff 2000 come to 16, 16, 480, 480, 1200 with CLAMPED; on a route LOCKED_ON_ROUTE. -/
theorem test_configWrite :
    replyPayloads .trunk (after (.configWrite cmd [0x11, 0, 10, 0x07, 0xD0]) (dev 5))
        = [[0x09, 7, 0, 1, 0, 16, 0, 16, 0x01, 0xE0, 0x01, 0xE0, 0x04, 0xB0]]
      ∧ replyPayloads .trunk (after (.configWrite cmd [0x11, 0, 10, 0x07, 0xD0]) (route 5 0)) = [[0x09, 7, 2, 5]] := by decide

/-- R41: the value, most significant byte first, and the flag; on a route LOCKED_ON_ROUTE. -/
theorem test_timeSet :
    (after (.timeSet cmd [0, 1, 0, 2]) State.reset).clock = { partTime := 65538, timeSet := true }
      ∧ replyPayloads .trunk (after (.timeSet cmd [0, 1, 0, 2]) (route 5 0)) = [[0x0A, 7, 2, 5]] := by decide

/-- One load entry of 13.5: product 0x010203, lot 0x04050607, class 2, compartment 0, planned 12. -/
def entry : List Byte := [1, 2, 3, 4, 5, 6, 7, 0x20, 12]

/-- R111, R112, 13.5: drop 3 of site 5, mask {0}, allowance 25 s, one item; the lowest slot is reserved. -/
theorem test_manifestLoadSingle :
    (after (.manifestLoadSingle cmd ([3, 0, 0, 0, 5, 1, 0, 25, 1] ++ entry)) (tabled 5)).drops
      = [{ number := 3, site := 5, mask := 1, allowance := 100, reservation := some 0
           items := [{ product := 0x010203, lot := 0x04050607, cls := 2, comp := 0, planned := 12 }] }] := by decide +kernel

/-- R111: a part one of 25 items is STAGED; its part two completes the drop. -/
theorem test_manifestLoadPartOne :
    replyPayloads .trunk
        (after (.manifestLoadPartOne cmd ([3, 0, 0, 0, 5, 1, 0, 25, 25] ++ (List.replicate 24 entry).flatten)) (tabled 5)) = [[0x0B, 7, 0, 2]]
      ∧ replyPayloads .trunk (after (.manifestLoadPartTwo cmd (3 :: entry)) (tabled 5)) = [[0x0B, 7, 2, 1]] := by decide +kernel

theorem test_manifestLoadPartTwo :
    ((after (.manifestLoadPartTwo cmd (3 :: entry))
        (after (.manifestLoadPartOne cmd ([3, 0, 0, 0, 5, 1, 0, 25, 25] ++ (List.replicate 24 entry).flatten)) (tabled 5))).drops.map
          fun d => (d.number, d.items.length)) = [(3, 25)] := by decide +kernel

/-- R113: a PLANNED drop goes and its slot becomes FREE; one SETTLING stays. -/
theorem test_manifestDelete :
    (after (.manifestDelete cmd [23]) (stopped 60200 60000 .planned [])).drops = []
      ∧ (after (.manifestDelete cmd [23]) (stopped 60200 60000 .planned [])).slot 1 = .free
      ∧ replyPayloads .trunk (after (.manifestDelete cmd [23]) (stopped 60200 60000 .settling [context])) = [[0x0C, 7, 2, 6]] := by decide

/-- Chapter 6, part time 36,000: route 4,407 is OPEN, one slot reserved and one filled; without TIME_SET the answer is STATE. -/
theorem test_routeOpen :
    (after (.routeOpen cmd [0, 0, 0x11, 0x37]) (reads false (tabled 36000))).route
        = { state := .opened, id := 4407, openTime := 36000, reservation := some 0 }
      ∧ (after (.routeOpen cmd [0, 0, 0x11, 0x37]) (reads false (tabled 36000))).store.fillList = [1]
      ∧ replyPayloads .trunk (after (.routeOpen cmd [0, 0, 0, 1]) { tabled 5 with clock := { partTime := 5 } }) = [[0x0D, 7, 2, 6]] := by
  decide +kernel

/-- Chapter 6, part time 50,000: Z is 50,000, the stop of an ACTIVE drop closes ABANDONED; during a handover STATE. -/
theorem test_routeClose :
    replyPayloads .trunk (after (.routeClose cmd []) (stopped 50000 49000 .active [context])) = [[0x0E, 7, 0, 0, 0, 0, 0xC3, 0x50]]
      ∧ ((after (.routeClose cmd []) (stopped 50000 49000 .active [context])).contexts.map fun x => (x.endTime, x.outcome))
        = [(some 50000, some .abandoned)]
      ∧ replyPayloads .trunk (after (.routeClose cmd []) (stopped 50000 49000 .handingOver [context])) = [[0x0E, 7, 2, 6]] := by decide

/-- R198: page 2 begins with the class bytes of types 0 and 1; page 4 is out of range. -/
theorem test_queryPart :
    (replyPayloads .trunk (after (.queryPart cmd [2]) (dev 5))).map (·.take 6) = [[0x0F, 7, 0, 0, 1, 1]]
      ∧ replyPayloads .trunk (after (.queryPart cmd [4]) (dev 5)) = [[0x0F, 7, 2, 2]] := by decide +kernel

/-- R105: the entry of compartment 0 stands first. -/
theorem test_queryCompartment :
    (replyPayloads .trunk (after (.queryCompartment cmd [0]) (tabled 5))).map (·.take 17)
      = [[0x0F, 7, 0, 0, 1, 0xFE, 0xE0, 0xFF, 0x40, 16, 4, 0, 240, 0, 240, 0, 5]] := by decide +kernel

theorem test_queryDoor : replyPayloads .trunk (after (.queryDoor cmd [0, 2]) (dev 5)) = [[0x0F, 7, 2, 2]] := by decide

/-- R199: address 0 gives the number of entries and their addresses. -/
theorem test_queryStation :
    replyPayloads .trunk (after (.queryStation cmd [0]) (tabled 5)) = [[0x0F, 7, 0, 0, 5, 0x21, 0x22, 0x31, 0x40, 0x41]]
      ∧ replyPayloads .trunk (after (.queryStation cmd [0x50]) (tabled 5)) = [[0x0F, 7, 2, 3]] := by decide

/-- 13.5: the 12-byte drop part: state ACTIVE and mask {0}, 40 s and 3 items, no record, owner 0x41, a reservation, no item from index 3 on. -/
theorem test_queryDrop :
    replyPayloads .trunk (after (.queryDrop cmd [23, 3]) (stopped 60250 60200 .active [context]))
      = [[0x0F, 7, 0, 0, 23, 0, 0, 0, 9, 0x11, 0x0A, 0x03, 0, 0, 0x41, 0x80]] := by decide

/-- R210: with no fault mark the reply has 0xFF for the mark and 0x00 before its time, after the 0x00 of the latest reading. -/
theorem test_stationAbsentFields : liveBytes { addr := 0x21, binding := .probe 0 0 0, override := none } = [0, 0xFF, 0] := by
  decide

/-- R180, R210: the number of verdict entries stands behind a presence byte, 0x00 while the claim is WAITING. -/
theorem test_claimEntryCount :
    (claimBytes { tag := 1, port := .trunk, station := 0x80, reference := .drop 23, resolved := none, selector := none,
                  kind := .atReceipt, lodged := 5, reservation := 0 }).getLast? = some 0 := by decide

/-- R163: 253 FREE, none RESERVED, one each FILLED, TAKEN and CORRUPT, none fetched. -/
theorem test_queryStore :
    (replyPayloads .trunk (after (.queryStore cmd []) (stored 5))).map (·.take 18)
      = [[0x0F, 7, 0, 0, 0, 253, 0, 0, 0, 1, 0, 1, 0, 1, 0, 0, 0, 93]] := by decide +kernel

theorem test_queryClaims : replyPayloads .trunk (after (.queryClaims cmd []) (dev 5)) = [[0x0F, 7, 0, 0, 0]] := by decide

/-- R199, R203: the group AGENT counts the query itself as taken and DONE. -/
theorem test_queryCounters :
    (replyPayloads .trunk (after (.queryCounters cmd [6]) (dev 5))).map (·.take 12) = [[0x0F, 7, 0, 0, 0, 0, 0, 1, 0, 0, 0, 1]]
      ∧ replyPayloads .trunk (after (.queryCounters cmd [7]) (dev 5)) = [[0x0F, 7, 2, 2]] := by decide

/-- Chapter 8, steps 1 and 2: a sound read makes the slot TAKEN; a failed one CORRUPT, with STORE_FAULT of source FETCH. -/
theorem test_proofFetchNext :
    (after (.proofFetchNext cmd [0]) (reads false (stored 1000))).slot 20 = .taken (record 90) body
      ∧ (after (.proofFetchNext cmd [0]) (reads true (stored 1000))).slot 20 = .corrupt (record 90) true
      ∧ alertPayloads (after (.proofFetchNext cmd [0]) (reads true (stored 1000))) = [[16, 3, 5, 20, 0, 0, 0x03, 0xE8, 1, 0, 0, 0, 2, 0, 1]] := by
  decide +kernel

/-- R157, 13.6: record 91 again, its header and its body of one segment. -/
theorem test_proofFetchNumber :
    (replyPayloads .trunk (after (.proofFetchNumber cmd [0, 91, 0]) (reads false (stored 1000)))).map (·.take 15)
        = [[7, 0, 0, 1, 0, 91, 5, 0, 0, 0x11, 0x37, 0, 0, 0, 10]]
      ∧ replyPayloads .trunk (after (.proofFetchNumber cmd [0, 91, 1]) (reads false (stored 1000))) = [[0x10, 7, 2, 2]] := by decide +kernel

/-- R158: up to record 92, of the records FILLED, TAKEN and CORRUPT but not fetched, one is freed. -/
theorem test_proofRelease :
    replyPayloads .trunk (after (.proofRelease cmd [0, 92]) (stored 1000)) = [[0x11, 7, 0, 0, 0, 1]]
      ∧ (after (.proofRelease cmd [0, 92]) (stored 1000)).store.fillList = [20, 22] := by decide +kernel

/-- Chapter 9, step a: E of 17,280 and a receipt of -220 above -240 are SUPPORTED, reported as 4 and 128/256. -/
def judged : State :=
  { ((tabled 1000).setSlot 0 (.filled { number := 57, kind := .dropOutcome, routeId := 4407, fillTime := 900, chain := 0 } (.dropOutcome
      { number := 23, site := 9, mask := 1, allowance := 160, outcome := .partlyDelivered, owner := some 0x41, arrival := 100
        endTime := 500, handoverClose := some 400, digest := none, attempts := 1
        comps := [{ comp := 0, start := 90, snap :=
          { e := 17280, h := 27680, moved := 7680, toBreach := false, severeCount := 0, gap := 0, peak := none, lateWarm := 0
            unscheduled := 1, openTicks := 190, used := 160, saturated := false } }]
        items := [{ product := 1, lot := 1, cls := 2, comp := 0, planned := 6, accepted := 2, refused := 4
                    reason := some .temperature, receipt := some (-220) }] }))) with
    array := { script := [false, false], count := 0 } }

theorem test_claimLodge :
    (replyPayloads .trunk (after (.claimLodge false cmd [1, 1, 1, 0, 57, 0, 2])
        { judged with store := { judged.store with fillList := [0], nextNumber := 58 } }))
      = [[0x12, 7, 0, 0, 1, 1, 0],
         [1, 1, 0, 1, 0, 57, 0, 57, 2, 0, 58, 1, 1, 1, 0, 1, 0, 0, 0, 4, 128, 0, 5, 0, 0, 0, 0]] := by decide +kernel

/-- R201: a MONITOR_RESET on a route ends it with close reason RESET; off a route it answers with the number of claims aborted. -/
theorem test_monitorReset :
    (after (.monitorReset cmd []) (reads false (route 200 150))).route.closeReason = some .reset
      ∧ replyPayloads .trunk (after (.monitorReset cmd []) (reads false (route 200 150))) = [[0x13, 7, 0, 0, 0, 0, 0, 200, 2, 0, 0, 1]]
      ∧ replyPayloads .trunk (after (.monitorReset cmd []) (dev 5)) = [[0x13, 7, 0, 0, 0]] := by decide +kernel

/-- R202: in LOCKOUT FULL_CLEAR is taken on a route; outside LOCKOUT it is refused there. -/
theorem test_fullClear :
    (after (.fullClear cmd []) (locked (route 200 150))).route.state = .noRoute
      ∧ (after (.fullClear cmd []) (locked (route 200 150))).store.lockout = false
      ∧ replyPayloads .trunk (after (.fullClear cmd []) (route 200 150)) = [[0x14, 7, 2, 5]] := by decide

/-- R204: the down time is written, and valid when the supply holds long enough. -/
theorem test_powerLoss :
    (after (.powerLoss (.mainSupply false)) (dev 70150)).power = { mainPower := false, downTime := 70150, downValid := false }
      ∧ (after (.powerLoss .resetLine) (dev 70150)).power = { resetAsserted := true, downTime := 70150, downValid := true } := by decide

/-- R204: after a loss of the backup supply the check word no longer agrees; an event of a device with power that changes retained state brings it up to date, and one that changes none leaves it. -/
theorem test_backupSupplyLoss :
    (after .backupSupplyLoss (unpowered (dev 71350))).checkWord ≠ (after .backupSupplyLoss (unpowered (dev 71350))).computedCheck
      ∧ (after .tick (lost (dev 5))).checkAgrees = true ∧ (after .linkUp (lost (dev 5))).checkAgrees = false := by
  refine ⟨fun h => ?_, by decide +kernel⟩
  have k := (State.checkAgrees_iff _).mpr h
  simp only [State.checkAgrees, beq_iff_eq] at k
  exact State.lostDiff_ne_zero _ k

/-- Chapter 12's outage: RESUMED is raised with value 1,200; after a loss of the domain the start is a cold start. -/
theorem test_deviceStart :
    alertPayloads (after (.deviceStart .mainSupply) (unpowered (route 71350 70100))) = [[21, 3, 8, 0, 0, 1, 0x16, 0xB6, 1, 0, 0, 0x04, 0xB0, 0, 1]]
      ∧ (after (.deviceStart .mainSupply) (unpowered (route 71350 70100))).route.state = .opened
      ∧ (after (.deviceStart .mainSupply) (lost (unpowered (route 71350 70100)))).route.state = .noRoute := by decide

theorem test_unknownCommandCode : replyPayloads .trunk (after (.unknownCommandCode cmd [0x15]) (dev 5)) = [[0x15, 7, 2, 1]] := by decide

/-- R192: in LOCKOUT a table write is refused with LOCKOUT, even with a payload of the wrong length; TIME_SET is judged MALFORMED first. -/
theorem test_lockout :
    replyPayloads .trunk (after (.stationClear cmd []) (locked (dev 5))) = [[0x02, 7, 2, 10]]
      ∧ replyPayloads .trunk (after (.timeSet cmd []) (locked (dev 5))) = [[0x0A, 7, 2, 1]] := by decide

/-! ### States and operands that meet the hypotheses of each statement -/

/-- A terminal's entry as the tables above hold it. -/
def terminal (a : Byte) : Station := { addr := a, binding := .terminal, override := none }

/-- The entries of probe 0x21 and of contact 0x31. -/
def probe : Station := { addr := 0x21, binding := .probe 0 0 3, override := none }
def contact : Station := { addr := 0x31, binding := .door 0 0, override := none }

/-- A request reaches the Stop Controller when what asks says holds of the sender's entry e. -/
theorem asks_of {s : State} {h : Hdr} {n : Byte} {d : Drop} (e : Station)
    (k : s.hears h e ∧ e.binding = .terminal ∧ s.store.lockout = false ∧ s.route.state ≠ .noRoute
      ∧ 1 ≤ n.toNat ∧ n.toNat ≤ 64 ∧ s.findDrop n.toNat = some d) : s.asks h n d :=
  ⟨⟨e, k.1, k.2.1⟩, k.2.2⟩

theorem witness_StepTakesFrontCommand :
    (dev 5).pending = [] ∧ { dev 5 with pending := [.tick, .linkUp] }.pending = .tick :: [.linkUp] := by decide

theorem witness_StoppedDeviceIsStill :
    (unpowered (dev 5)).powered = false ∧ Instr.linkUp ≠ .tick ∧ (∀ x, Instr.linkUp ≠ .powerLoss x)
      ∧ Instr.linkUp ≠ .backupSupplyLoss ∧ (∀ x, Instr.linkUp ≠ .deviceStart x) :=
  ⟨by decide, nofun, fun _ => nofun, nofun, fun _ => nofun⟩

/-- A route in the middle of a handover, with a tick and a confirm waiting: the conditions that every event keeps hold of it. -/
def busy : State :=
  { stopped 60330 60200 .handingOver [context] with pending := [.itemConfirm (hdr 0x41) [23, 1, 0, 2, 0, 4, 1, 0xFF, 0x24], .tick] }

theorem witness_QueuesStayBounded : busy.QueuesBounded ∧ ∃ t, step busy = .next t :=
  ⟨by unfold State.QueuesBounded; decide, _, rfl⟩

theorem witness_StoreStaysSound : busy.StoreSound ∧ ∃ t, step busy = .next t :=
  ⟨by unfold State.StoreSound; decide +kernel, _, rfl⟩

theorem witness_WindowsStayOrdered :
    window39.WindowsOrdered ∧ ∃ t, step { window39 with pending := [.horizonRetire 0] } = .next t :=
  ⟨by unfold State.WindowsOrdered windowOrdered; decide, _, rfl⟩

theorem busy_classes (i : Fin 16) (k : ProductClass) (h : busy.classes[i] = some k) : classValid k (yesNo k.shockSensitive) = true := by
  have : ∀ j : Fin 16, (busy.classes[j]).all (fun k => classValid k (yesNo k.shockSensitive)) = true := by decide
  have := this i
  rw [h] at this
  simpa using this

theorem witness_ValuesStayInRange : busy.ValuesInRange ∧ ∃ t, step busy = .next t :=
  ⟨⟨by decide, by unfold settingsInRange; decide, by unfold accountInRange; decide, busy_classes, by decide, by decide⟩, _, rfl⟩

theorem witness_StationsStaySound : busy.StationsSound ∧ ∃ t, step busy = .next t :=
  ⟨by unfold State.StationsSound placesApart; decide, _, rfl⟩

theorem witness_GradesStayAgreed : window39.GradesAgree ∧ ∃ t, step { window39 with pending := [.horizonRetire 0] } = .next t := by
  refine ⟨fun _ c => ?_, _, rfl⟩
  rcases c with ⟨_ | _ | _ | _ | n, h⟩
  · exact (by decide : (-288 : Int) - 16 < -280 ∧ (-280 : Int) ≤ -192)
  · exact trivial
  · exact trivial
  · exact trivial
  · omega

theorem witness_LockoutStaysSettled : (locked busy).LockoutSettled ∧ (locked busy).store.lockout = true ∧ ∃ t, step (locked busy) = .next t :=
  ⟨fun _ => by decide, by decide, _, rfl⟩

theorem witness_ManifestStaysSound : busy.ManifestSound ∧ ∃ t, step busy = .next t :=
  ⟨by unfold State.ManifestSound; decide, _, rfl⟩

theorem witness_LockoutFreezesAccount :
    (locked busy).store.lockout = true ∧ (locked busy).LockoutSettled ∧ (∃ t, exec (.sample 0xFF (hdr 0x21) [0, 0]) (locked busy) = .next t)
      ∧ ∃ t, exec (.fullClear cmd []) (locked busy) = .next t :=
  ⟨by decide, fun _ => by decide, ⟨_, rfl⟩, _, rfl⟩

theorem witness_CommittedTimeNeverFalls : window39.underWay ∧ ∃ t, exec (.horizonRetire 0) window39 = .next t :=
  ⟨by decide, _, rfl⟩

theorem witness_ExposureNeverFalls :
    window39.underWay ∧ (∀ k, accountInRange (window39.comp k).account) ∧ ∃ t, exec (.horizonRetire 0) window39 = .next t :=
  ⟨by decide, by unfold accountInRange; decide, _, rfl⟩

theorem witness_RouteHoldsItsTables :
    busy.underWay ∧ busy.StationsSound ∧ (∃ t, exec (.stationClear cmd [0x31]) busy = .next t)
      ∧ contact ∈ busy.stations.entries ∧ bindsPlace contact.binding = true ∧ Instr.linkUp ≠ .tick :=
  ⟨by decide, by unfold State.StationsSound placesApart; decide, ⟨_, rfl⟩, by decide, by decide, nofun⟩

theorem witness_RecordsAreNeverRewritten :
    (stored 5).StoreSound ∧ (∃ t, exec (.proofRelease cmd [0, 92]) (stored 5) = .next t)
      ∧ (stored 5).slot 20 = .filled (record 90) body ∧ (stored 5).slot 21 = .taken (record 91) body
      ∧ (stored 5).slot 22 = .corrupt (record 92) false :=
  ⟨by unfold State.StoreSound; decide +kernel, ⟨_, rfl⟩, by decide⟩

/-- Each clause: working; stopped with the domain held; with power and without agreement, below the largest part time and at it; stopped without the domain. -/
theorem witness_TickCountsPartTime :
    (dev 5).checkAgrees = true ∧ (unpowered (dev 5)).checkAgrees = true
      ∧ ((lost (dev 4294967294)).powered = true ∧ (lost (dev 4294967294)).checkAgrees = false
          ∧ (lost (dev 4294967294)).clock.partTime ≠ 4294967295)
      ∧ ((lost (dev 4294967295)).checkAgrees = false ∧ (lost (dev 4294967295)).clock.partTime = 4294967295)
      ∧ ((lost (unpowered (dev 5))).powered = false ∧ (lost (unpowered (dev 5))).checkAgrees = false) := by decide

/-- A window with one event due exactly at the horizon, of a content, and a Tg held. -/
def due (content : EventContent) (tg : Option Int) : State :=
  (route 30010 29935).updComp 0 fun k =>
    { k with
      window := { k.window with events := [⟨29950, 101, content⟩, ⟨29951, 103, .probe 1 (-284)⟩] }
      account := { k.account with tg := tg, readings := #v[some (-280, 29710), none, none, none] } }

/-- The hypotheses of HorizonRetiresDueEvent, for each content and Tg: the next event is one tick beyond the horizon, and a freshness ends with the interval. -/
theorem witness_HorizonRetiresDueEvent (content : EventContent) (tg : Option Int) :
    (due content tg).working = true ∧ (due content tg).store.lockout = false ∧ (due content tg).route.state = .opened
      ∧ ((due content tg).comp 0).window.armed = true ∧ (due content tg).contexts = []
      ∧ accountInRange ((due content tg).comp 0).account
      ∧ ((due content tg).comp 0).window.events = ⟨29950, 101, content⟩ :: [⟨29951, 103, .probe 1 (-284)⟩]
      ∧ ((due content tg).comp 0).window.committed ≤ 29950 ∧ 29950 + (due content tg).config.settleDelay ≤ (due content tg).now
      ∧ (∀ e ∈ [(⟨29951, 103, .probe 1 (-284)⟩ : PendingEvent)], (due content tg).now < e.time + (due content tg).config.settleDelay)
      ∧ (∀ p : Fin 4, ∀ v r, ((due content tg).comp 0).account.readings[p] = some (v, r) →
          r + ((due content tg).comp 0).profile.freshness ≤ ((due content tg).comp 0).window.committed
            ∨ 29950 ≤ r + ((due content tg).comp 0).profile.freshness) := by
  refine ⟨rfl, rfl, rfl, rfl, rfl, ?_, rfl, Nat.le_of_ble_eq_true rfl, Nat.le_of_ble_eq_true rfl, ?_, ?_⟩
  · simp [accountInRange, due, route, State.updComp, State.setComp, State.comp]
  · intro e he; simp at he; subst he; exact Nat.le_of_ble_eq_true rfl
  · intro p v r h
    rcases p with ⟨_ | _ | _ | _ | n, hp⟩
    · have k : some ((-280 : Int), 29710) = some (v, r) := h
      cases k; exact .inr (Nat.le_of_ble_eq_true rfl)
    · have k : none = some (v, r) := h
      cases k
    · have k : none = some (v, r) := h
      cases k
    · have k : none = some (v, r) := h
      cases k
    · omega

/-- A context that covers compartment 0 from 29,900 on, with 5 ticks of allowance left. -/
def context0 : Context :=
  { drop := 23, arrival := 29920, comps := [{ comp := 0, start := 29935, allowance := 160, used := 155 }] }

/-- The stop of drop 23 with door 0 of its compartment open, an event due at the horizon, and 5 ticks of allowance left. -/
def inStop : State :=
  { (route 30010 29935).updComp 0 fun k =>
      { k with
        doors := k.doors.set 0 { settled := .opened, since := 29900 }
        window := { k.window with events := [⟨29950, 101, .door 0 .closed⟩] }
        account := { k.account with tg := some (-280), readings := #v[some (-280, 29710), none, none, none] } } with
    drops := [drop .active (some 0x41)], contexts := [context0] }

/-- The clause about a stop: it covers the interval from its first tick on, and the allowance runs out inside it. -/
theorem witness_HorizonRetiresDueEvent_stop :
    inStop.working = true ∧ inStop.store.lockout = false ∧ inStop.route.state = .opened ∧ (inStop.comp 0).window.armed = true
      ∧ inStop.contexts = [context0]
      ∧ ctxComp context0 0 = some { comp := 0, start := 29935, allowance := 160, used := 155 }
      ∧ 29935 ≤ (inStop.comp 0).window.committed ∧ context0.endTime = none
      ∧ (inStop.comp 0).window.events = ⟨29950, 101, .door 0 .closed⟩ :: [] ∧ (inStop.comp 0).window.committed < 29950
      ∧ 29950 + inStop.config.settleDelay ≤ inStop.now ∧ (inStop.comp 0).account.readings = #v[some (-280, 29710), none, none, none]
      ∧ 29950 ≤ 29710 + (inStop.comp 0).profile.freshness ∧ settledOpen (inStop.comp 0) = true
      ∧ min (29950 - (inStop.comp 0).window.committed) (160 - 155) = 5 := by decide

/-- The context and the compartment of stop4. -/
def ctx4 : Context :=
  { drop := 23, arrival := 5000, endTime := some 5380, outcome := some .delivered
    comps := [{ comp := 0, start := 5000, allowance := 100, used := 100 }] }

/-- The stop of chapter 4 at the tick at which the horizon reaches its end, 5,380 + 60. -/
theorem witness_StopEndSettlesDrop :
    stop4.working = true ∧ stop4.store.lockout = false ∧ stop4.route.state = .opened ∧ stop4.findContext 23 = some ctx4
      ∧ ctx4.endTime = some 5380 ∧ 5380 + stop4.config.settleDelay ≤ stop4.now ∧ stop4.contexts = [ctx4] ∧ ctx4.drop = 23
      ∧ ctx4.comps = [{ comp := 0, start := 5000, allowance := 100, used := 100 }] ∧ (stop4.comp 0).window.armed = true
      ∧ (stop4.comp 0).window.events = [] ∧ (stop4.comp 0).window.committed < 5380
      ∧ stop4.findDrop 23 = some (drop .settling (some 0x41)) ∧ (drop .settling (some 0x41)).reservation = some 1
      ∧ stop4.claims.queue = [] ∧ stop4.array.script = [false] := by decide

/-- A claim from the trunk that waits on drop 23. -/
def waiting : Claim :=
  { tag := 1, port := .trunk, station := 0x80, reference := .drop 23, resolved := none, selector := none, kind := .atReceipt, lodged := 5
    reservation := 3 }

/-- Two claims that wait on drop 23, with their reservations in slots 3 and 4. -/
def claimed : State :=
  { (stop4.setSlot 3 .reserved).setSlot 4 .reserved with
    claims := { stop4.claims with queue := [waiting, { waiting with tag := 2, reservation := 4 }] }
    array := { script := List.replicate 5 false } }

/-- The clause about claims that wait on the drop. -/
theorem witness_StopEndSettlesDrop_claims :
    claimed.StoreSound ∧ claimed.working = true ∧ claimed.store.lockout = false ∧ claimed.route.state = .opened
      ∧ claimed.contexts = [ctx4] ∧ claimed.findRecord claimed.store.nextNumber = none
      ∧ (∀ q ∈ claimed.claims.queue, waitsOn 23 q = true)
      ∧ claimed.array.script = List.replicate (1 + 2 * claimed.claims.queue.length) false ++ [] := by
  unfold State.StoreSound; decide +kernel

/-- The route of chapter 6 at the tick at which the horizon reaches Z, 50,000 + 60. -/
theorem witness_CloseAdvanceEndsRoute :
    closing.working = true ∧ closing.store.lockout = false ∧ closing.route.state = .closing ∧ closing.route.closeTime = some 50000
      ∧ 50000 + closing.config.settleDelay ≤ closing.now ∧ (∀ c, (closing.comp c).window.committed ≤ 50000) := by decide

/-- Each deadline at the tick it is reached, and one tick before. -/
theorem witness_DeadlinesExpire :
    (∀ now ∈ [60730, 60729], (stopped now 60200 .handingOver [{ context with idleDeadline := some 60730 }]).liveDrop
          = some (drop .handingOver (some 0x41))
        ∧ (stopped now 60200 .handingOver [{ context with idleDeadline := some 60730 }]).findContext 23
          = some { context with idleDeadline := some 60730 })
      ∧ (∀ now ∈ [70480, 70479],
        (stopped now 70100 .handedOver [{ context with outcome := some .delivered, departDeadline := some 70480 }]).liveDrop
            = some (drop .handedOver (some 0x41))
          ∧ (stopped now 70100 .handedOver [{ context with outcome := some .delivered, departDeadline := some 70480 }]).closesPlainly
              23 { context with outcome := some .delivered, departDeadline := some 70480 })
      ∧ (∀ now ∈ [8230, 8229], ((opening now).comp 0).doors[0].deadline = some 8230 ∧ ((opening now).comp 0).doors[0].opening = some 7990)
      ∧ (opening 8230).working = true ∧ (stopped 70480 70100 .handedOver []).working = true
      ∧ (stopped 70480 70100 .handedOver []).store.lockout = false := by decide

/-- Before the deadline and at it; with no FREE slot; with a sound and with a failed read-back. -/
theorem witness_RecoveryEnds :
    (recovering 1003).working = true ∧ (recovering 1003).store.lockout = false ∧ (recovering 1003).store.faultInProgress = true
      ∧ (recovering 1003).store.recovery = some { source := .fetch, time := 1000, slot := 21, number := 91, kind := .dropOutcome, deadline := 1004 }
      ∧ (∀ j, ((({ recovering 1004 with store := { (recovering 1004).store with slots := Vector.replicate 256 .reserved } } : State).slot j).isFree)
          = false)
      ∧ (recovering 1004).firstFree 0 ∧ (reads true (recovering 1004)).StoreSound ∧ (reads false (recovering 1004)).array.script = false :: []
      ∧ (reads true (recovering 1004)).array.script = true :: [] := by
  unfold State.StoreSound; decide +kernel

theorem witness_LinkFollowsIdlePattern : (dev 5).working = true := by decide

/-- A reply, an alert and a forwarded frame at the head; a frame that has its number; a port in transmission, a link DOWN, empty queues. -/
theorem witness_TransmissionsStartAndEnd :
    queued.working = true ∧ (queued.port .trunk).sending = none ∧ queued.ports.linkUp = true
      ∧ queued.queueFrames .trunk .reply = [originate 0x80 typMgmtReply [2]]
      ∧ (∃ s : State, s.ports.linkUp = true ∧ s.queueFrames .trunk .alert = [originate 0xFF typAlert [1]] ∧ s.queueFrames .trunk .reply = [])
      ∧ (∃ s : State, s.queueFrames .field .forward = [originate 0x21 0x60 []] ∧ s.queueFrames .field .reply = []
          ∧ s.queueFrames .field .alert = [])
      ∧ (∃ s : State, s.queueFrames .field .reply = [{ originate 0x40 typTerminalReply [] with numbered := true }])
      ∧ ((after (.transmitStart .trunk) queued).port .trunk).sending ≠ none
      ∧ (dev 5).ports.linkUp = false ∧ (∀ q, (dev 5).queueFrames .field q = []) :=
  ⟨by decide, by decide, by decide, by decide,
    ⟨{ queued with ports := { queued.ports with trunk := {} } }, by decide, by decide, by decide⟩,
    ⟨(dev 5).updPort .field fun u => { u with forward := [originate 0x21 0x60 []] }, by decide, by decide, by decide⟩,
    ⟨(dev 5).updPort .field fun u => { u with replies := [{ originate 0x40 typTerminalReply [] with numbered := true }] }, by decide⟩,
    by decide +kernel, by decide, fun q => by cases q <;> rfl⟩

/-- The longest frame of each line: 240 payload bytes; on the trunk a trailer besides. -/
theorem witness_ReceivedWireIsHandedOn :
    ((dev 5).working = true ∧ (dev 5).listens .field = true ∧ (dev 5).listens .trunk = true) ∧ (∃ f : Frame, f.payload.length = 240 ∧ f.trailer.length = (if f.flags.getLsbD 0 then 8 else 0) ∧ f.flags.getLsbD 0 = false
        ∧ sourceOk f.src = true ∧ f.dst ≠ 0)
      ∧ ∃ f : Frame, f.payload.length = 240 ∧ f.trailer.length = (if f.flags.getLsbD 0 then 8 else 0) ∧ f.flags.getLsbD 0 = true
        ∧ sourceOk f.src = true ∧ f.dst ≠ 0 :=
  ⟨by decide, ⟨{ dst := 0xFF, src := 0x21, typ := 0x10, flags := 0, seq := 0, age := 0, payload := List.replicate 240 0, trailer := [] },
      List.length_replicate, by decide⟩,
    ⟨{ dst := 0x21, src := 0xFD, typ := 0x60, flags := 1, seq := 0, age := 0, payload := List.replicate 240 0, trailer := List.replicate 8 0 },
      List.length_replicate, by decide⟩⟩

/-- A frame to be damaged: a field frame of header flags fl, from an address. -/
def plain (dst src fl : Byte) (trailer : List Byte) : Frame :=
  { dst := dst, src := src, typ := 0x60, flags := fl, seq := 0, age := 0, payload := [], trailer := trailer }

/-- s while it transmits a frame on the field line. -/
def transmitting (s : State) : State := s.updPort .field fun u => { u with sending := some { queue := .forward, wire := [] } }

/-- A device that transmits on the field line; nine bytes; a payload of 241; an annotated field frame; a wrong CRC; a source of 0 and a destination of 0 with the right CRC. -/
theorem witness_DamagedFramesAreDiscarded :
    ((transmitting (dev 5)).ports.field.sending ≠ none
        ∧ fieldRow? (.sample 0xFF (hdr 0x21) [0, 0]) = some (hdr 0x21, 0xFF, typSample, [0, 0]))
      ∧ ((dev 5).working = true ∧ (dev 5).listens .field = true) ∧ (transmitting (dev 5)).listens .trunk = true
      ∧ (List.replicate 9 (0 : Byte)).length < 10 ∧ 240 < (List.replicate 241 (0 : Byte)).length
      ∧ ((plain 0xFF 0x21 1 (List.replicate 8 0)).trailer.length = 8 ∧ (plain 0xFF 0x21 1 []).flags.getLsbD 0 = true)
      ∧ frameBody (plain 0xFF 0x21 0 []) ++ [0, 0] ≠ frameWire (plain 0xFF 0x21 0 [])
      ∧ (frameBody (plain 0xFF 0 0 []) ++ (frameWire (plain 0xFF 0 0 [])).drop 8 = frameWire (plain 0xFF 0 0 []) ∧ sourceOk 0 = false)
      ∧ (plain 0 0x21 0 []).dst = 0 := by decide +kernel

/-- Readings at each end of the range and beyond it, both sentinels, off a route, from the probe with offset 3. -/
theorem witness_SampleMovesLiveReading :
    (tabled 20000).hears (hdr 0x21) probe ∧ probe.binding = .probe 0 0 3 ∧ (tabled 20000).handsOver 0 = false
      ∧ int16 0xFC 0x8D + 3 = -880 ∧ int16 0x04 0xAD + 3 = 1200 ∧ int16 0xFC 0x8C + 3 = -881 ∧ int16 0x04 0xAE + 3 = 1201
      ∧ int16 0xF8 0x00 = -2048 ∧ int16 0xF8 0x01 = -2047 ∧ int16 0xF8 0x02 ≠ -2047 ∧ ([0] : List Byte).length < 2 := by decide

/-- A reading one tick before the committed time; one at it, with fifteen events waiting. -/
theorem witness_SampleEntersWindow :
    (route 20000 19990).hears (hdr 0x21 1 11) probe ∧ (route 20000 19990).hears (hdr 0x21 1 10) probe
      ∧ (route 20000 19990).now - (hdr 0x21 1 11).age.toNat < ((route 20000 19990).comp 0).window.committed
      ∧ ((route 20000 19990).comp 0).window.committed ≤ (route 20000 19990).now - (hdr 0x21 1 10).age.toNat
      ∧ int16 0xFE 0xCE ≠ -2048 ∧ int16 0xFE 0xCE ≠ -2047 ∧ -880 ≤ int16 0xFE 0xCE + 3 ∧ int16 0xFE 0xCE + 3 ≤ 1200
      ∧ (route 20000 19990).route.state = .opened ∧ ((route 20000 19990).comp 0).window.armed = true
      ∧ ((route 20000 19990).comp 0).profile.enabled = true ∧ windowOrdered ((route 20000 19990).comp 0).window
      ∧ windowOrdered { ((route 20000 19990).comp 0).window with events := List.replicate 15 ⟨19991, 0, .door 0 .closed⟩ }
      ∧ (route 20000 19990).now < (route 20000 19990).now - (hdr 0x21 1 10).age.toNat + (route 20000 19990).config.settleDelay := by
  unfold windowOrdered; decide

/-- A route whose window holds sixteen events from 19,995 on. -/
def full : State :=
  (route 20000 19990).updWindow 0 fun w => { w with events := List.replicate 16 ⟨19995, 0, .probe 1 (-280)⟩ }

/-- A full window, an arrival a tick before its events and one at them; a closing route, an arrival at its close time. -/
theorem witness_SampleEntersWindow_full :
    (full.hears (hdr 0x21 1 6) probe ∧ full.hears (hdr 0x21 1 5) probe ∧ windowOrdered (full.comp 0).window
        ∧ (full.comp 0).window.events = ⟨19995, 0, .probe 1 (-280)⟩ :: List.replicate 15 ⟨19995, 0, .probe 1 (-280)⟩
        ∧ full.contexts = [] ∧ (full.comp 0).window.committed ≤ 19994 ∧ 20000 < 19995 + full.config.settleDelay
        ∧ full.route.state = .opened ∧ full.store.lockout = false)
      ∧ (closing.hears (hdr 0x21 1 60) probe ∧ closing.route.state = .closing ∧ closing.route.closeTime = some 50000
        ∧ 50000 ≤ closing.now - (hdr 0x21 1 60).age.toNat ∧ (closing.comp 0).window.committed ≤ 50000
        ∧ windowOrdered (closing.comp 0).window) := by
  unfold windowOrdered; decide

/-- The table with contact 0x31 in a live state, reported at 7,000. -/
def reported (now : Nat) (d : Option DoorState) : State :=
  (tabled now).updStation 0x31 fun e => { e with doorLive := d, doorTime := some 7000 }

/-- A repeat of the state held, an opening, a closing, a value that is no state, and a report a tick older than the last. -/
theorem witness_DoorReportMovesLiveDoor :
    (∀ d ∈ [none, some DoorState.opened, some .closed], (reported 7990 d).hears (hdr 0x31) { contact with doorLive := d, doorTime := some 7000 })
      ∧ (reported 7990 none).route.state = .noRoute ∧ doorStateOf 0 = .closed ∧ doorStateOf 1 = .opened ∧ doorStateOf 2 = .fault
      ∧ 7000 ≤ (reported 7990 none).now - (hdr 0x31).age.toNat
      ∧ (reported 7990 none).now - (hdr 0x31 1 991).age.toNat < 7000
      ∧ (reported 7990 none).now < 7990 - 0 + ((reported 7990 none).comp 0).profile.openLimit
      ∧ 7990 - 0 + ((reported 7990 none).comp 0).profile.openLimit ≤ max32 := by decide

/-- Probe 0x21 has sent its frame of sequence 1 already. -/
theorem witness_RepeatsGoNoFurther :
    fieldRow? (.sample 0xFF (hdr 0x21) [0, 0]) = some (hdr 0x21, 0xFF, typSample, [0, 0])
      ∧ ((tabled 5).updStation 0x21 fun e => { e with seqSeen := true, lastSeq := 1 }).findStation 0x21
        = some { probe with seqSeen := true, lastSeq := 1 }
      ∧ sourceOk 0x21 = true ∧ (hdr 0x21).flags.getLsbD 0 = false ∧ (tabled 5).working = true ∧ (tabled 5).store.lockout = false := by decide

/-- A full FIFO and one with a place; a class that meets the mask and one that does not; LOCKOUT. -/
theorem witness_FieldFramesAreOffered :
    (tabled 5).hears (hdr 0x40) (terminal 0x40) ∧ (locked (tabled 5)).hears (hdr 0x40) (terminal 0x40)
      ∧ (0x33 : Byte) ≠ 0 ∧ (0x33 : Byte) ≠ deviceAddr ∧ (0x33 : Byte) ≠ broadcastAddr
      ∧ (tabled 5).pass.classTable[(0x60 : Byte).toFin] &&& (tabled 5).pass.upIdle ≠ 0
      ∧ (0x04 : Byte) &&& (tabled 5).pass.upIdle = 0 ∧ (tabled 5).ports.trunk.forward.length < 32
      ∧ 32 ≤ (List.replicate 32 ({ frame := plain 1 1 0 [] } : QFrame)).length
      ∧ (∀ typ : Byte, typ = 0x60 → typ ≠ typSample ∧ typ ≠ typDoorState) :=
  ⟨by decide, by decide, by decide, by decide, by decide, by decide, by decide, by decide, by decide, by rintro _ rfl; decide⟩

/-- An unknown source, off and in LOCKOUT; a probe and a contact whose broadcasts pass; a late and a clamped reading and a sentinel. -/
theorem witness_FieldFramesAreOffered_marks :
    (fieldRow? (.sample 0xFF (hdr 0x5A) [0, 0]) = some (hdr 0x5A, 0xFF, typSample, [0, 0]) ∧ (tabled 5).findStation 0x5A = none
        ∧ (locked (tabled 5)).findStation 0x5A = none ∧ (tabled 5).working = true ∧ (tabled 5).ports.field.sending = none)
      ∧ ((route 20000 19990).hears (hdr 0x21 1 11) probe ∧ (route 20000 19990).hears (hdr 0x31) contact
        ∧ (route 20000 19990).contexts = [] ∧ (route 20000 19990).store.lockout = false
        ∧ probe.override.getD (route 20000 19990).pass.classTable[typSample.toFin] &&& (route 20000 19990).pass.upRoute ≠ 0
        ∧ contact.override.getD (route 20000 19990).pass.classTable[typDoorState.toFin] &&& (route 20000 19990).pass.upRoute ≠ 0
        ∧ (route 20000 19990).handsOver 0 = true
        ∧ (route 20000 19990).now - (hdr 0x21 1 11).age.toNat < ((route 20000 19990).comp 0).window.committed) := by decide

theorem witness_UnhandledFramesAreCounted :
    (dev 5).working = true ∧ trunkTypes.contains 0x60 = false ∧ trunkOk (hdr 0x80) [] [] = true ∧ fieldTypes.contains 0x60 = false
      ∧ (tabled 5).hears (hdr 0x21) probe ∧ fieldOk (hdr 0x5A) [] = true ∧ (tabled 5).findStation 0x5A = none := by decide

/-- Down frames with and without a trailer; a frame forwarded and waiting on a free field port. -/
theorem witness_TrunkFramesPassDown :
    (dev 5).working = true ∧ (dev 5).store.lockout = false ∧ trunkOk (hdr 0x80) [1] [] = true
      ∧ trunkOk { hdr 0x80 with flags := 1 } [1] (List.replicate 8 0) = true
      ∧ (dev 5).pass.classTable[(0x60 : Byte).toFin] &&& (dev 5).pass.downIdle ≠ 0 ∧ (0x04 : Byte) &&& (dev 5).pass.downIdle = 0
      ∧ (dev 5).ports.field.forward.length < 32 ∧ 32 ≤ (List.replicate 32 ({ frame := plain 1 1 0 [] } : QFrame)).length
      ∧ ((dev 5).updPort .field fun u => { u with forward := [{ frame := plain 1 0x80 0 [] }] }).ports.field.forward
        = { frame := plain 1 0x80 0 [] } :: [] := by decide

/-- A request from probe 0x21, in LOCKOUT, off a route, and about drops 0, 64 and 65 that the manifest does not hold; payloads one byte shorter and longer than the types require. -/
theorem witness_RequestsAreRefusedFirst :
    stopRequest? (.stopArrive (hdr 0x21) [23]) = some (hdr 0x21, typStopArrive, 23, 0) ∧ busy.hears (hdr 0x21) probe
      ∧ probe.binding ≠ .terminal ∧ busy.hears (hdr 0x41) (terminal 0x41) ∧ (locked busy).hears (hdr 0x41) (terminal 0x41)
      ∧ (tabled 5).hears (hdr 0x41) (terminal 0x41) ∧ (tabled 5).route.state = .noRoute ∧ busy.route.state ≠ .noRoute
      ∧ busy.findDrop 64 = none ∧ 64 < (65 : Byte).toNat ∧ busy.store.lockout = false ∧ (locked busy).store.lockout = true
      ∧ ([] : List Byte).length ≠ 1 ∧ ([23, 0] : List Byte).length ≠ 1
      ∧ (List.replicate 8 (0 : Byte)).length ≠ 9 ∧ (List.replicate 10 (0 : Byte)).length ≠ 9 := by decide

/-- A request from a source that no entry names. -/
theorem witness_RequestsAreRefusedFirst_unknown :
    stopRequest? (.stopArrive (hdr 0x5A) [23]) = some (hdr 0x5A, typStopArrive, 23, 0) ∧ busy.working = true
      ∧ busy.ports.field.sending = none ∧ sourceOk (hdr 0x5A).src = true ∧ busy.findStation 0x5A = none := by decide

/-- Drop 24, ACTIVE, as a live stop beside the PLANNED drop 23. -/
def second : Drop := { drop .active (some 0x40) with number := 24, reservation := some 2 }

/-- No live stop; a live one; four contexts; a drop ACTIVE; a route that is closing; a handover elsewhere; a drop handed over to another. -/
theorem witness_StopArriveOpensStop :
    stop7.asks (hdr 0x40) 23 (drop .planned (some 0x41)) ∧ stop7.liveDrop = none ∧ stop7.contexts.length < 4
      ∧ (∃ s : State, s.asks (hdr 0x40) 23 (drop .planned (some 0x41)) ∧ s.liveDrop = some second
          ∧ s.closesPlainly 24 { context with drop := 24 } ∧ s.contexts.length = 3)
      ∧ (stopped 60200 60140 .planned (List.replicate 4 context)).asks (hdr 0x40) 23 (drop .planned (some 0x41))
      ∧ (stopped 60200 60140 .active [context]).asks (hdr 0x40) 23 (drop .active (some 0x41))
      ∧ ({ closing with drops := [drop .planned none] } : State).asks (hdr 0x40) 23 (drop .planned none)
      ∧ (∃ s : State, s.asks (hdr 0x40) 23 (drop .planned none) ∧ ∃ x ∈ s.drops, x.state = .handingOver)
      ∧ ((stopped 60200 60140 .handedOver [context]).asks (hdr 0x40) 23 (drop .handedOver (some 0x41))
        ∧ (drop .handedOver (some 0x41)).owner ≠ some (hdr 0x40).src) :=
  ⟨asks_of (terminal 0x40) (by decide), by decide, by decide,
    ⟨{ stop7 with drops := [drop .planned (some 0x41), second]
                  contexts := [{ context with drop := 1 }, { context with drop := 2 }, { context with drop := 24 }] },
      asks_of (terminal 0x40) (by decide), by decide, by decide, by decide⟩,
    asks_of (terminal 0x40) (by decide), asks_of (terminal 0x40) (by decide), asks_of (terminal 0x40) (by decide),
    ⟨{ stop7 with drops := [drop .planned none, { second with state := .handingOver }] }, asks_of (terminal 0x40) (by decide), by decide⟩,
    asks_of (terminal 0x40) (by decide), by decide⟩

/-- The owner and another terminal, with the drop ACTIVE, HANDING_OVER and PLANNED. -/
theorem witness_HandoversOpenAndAbort :
    (∀ st ∈ [DropState.active, .handingOver, .planned], ∀ a ∈ [(0x40 : Byte), 0x41], (stopped 60250 60200 st [context]).asks (hdr a) 23
        (drop st (some 0x41))) := by
  intro st hs a ha
  simp only [List.mem_cons, List.not_mem_nil, or_false] at hs ha
  rcases hs with rfl | rfl | rfl <;> rcases ha with rfl | rfl <;> first | exact asks_of (terminal 0x40) (by decide) | exact asks_of (terminal 0x41) (by decide)

/-- Item 2 is the last, with 4 planned: 4 in all are within, 5 over; item 3 is none of the drop's. -/
theorem witness_ItemConfirmSetsItem :
    busy.asks (hdr 0x41) 23 (drop .handingOver (some 0x41)) ∧ busy.asks (hdr 0x40) 23 (drop .handingOver (some 0x41))
      ∧ (stopped 60250 60200 .active [context]).asks (hdr 0x41) 23 (drop .active (some 0x41))
      ∧ (drop .handingOver (some 0x41)).items.length ≤ (3 : Byte).toNat
      ∧ (drop .handingOver (some 0x41)).items[(2 : Byte).toNat]? = some { product := 3, lot := 1, cls := 2, comp := 0, planned := 4 }
      ∧ 3 + 1 ≤ 4 ∧ 4 < 3 + 2 :=
  ⟨asks_of (terminal 0x41) (by decide), asks_of (terminal 0x40) (by decide), asks_of (terminal 0x41) (by decide),
    by decide, by decide, by decide, by decide⟩

theorem witness_HandoverCloseFixesOutcome :
    ([1, 2, 3, 4, 5, 6, 7, 8] : List Byte).length = 8
      ∧ (∀ st ∈ [DropState.handingOver, .handedOver, .active], ∀ a ∈ [(0x40 : Byte), 0x41], (stopped 60400 60200 st [context]).asks (hdr a) 23
        (drop st (some 0x41))) := by
  refine ⟨rfl, fun st hs a ha => ?_⟩
  simp only [List.mem_cons, List.not_mem_nil, or_false] at hs ha
  rcases hs with rfl | rfl | rfl <;> rcases ha with rfl | rfl <;> first | exact asks_of (terminal 0x40) (by decide) | exact asks_of (terminal 0x41) (by decide)

/-- The owner leaves a handed-over stop and an active one; drops that have departed, one in handover, and one PLANNED, from owner and other. -/
theorem witness_StopDepartClosesStop :
    (stopped 60424 60300 .handedOver [{ context with outcome := some .partlyDelivered }]).closesPlainly 23
        { context with outcome := some .partlyDelivered }
      ∧ (stopped 60424 60300 .active [context]).closesPlainly 23 context
      ∧ (∀ st ∈ [DropState.handedOver, .active, .settling, .final .abandoned, .handingOver, .planned], ∀ a ∈ [(0x40 : Byte), 0x41],
        (stopped 60424 60300 st [context]).asks (hdr a) 23 (drop st (some 0x41))) := by
  refine ⟨by decide, by decide, fun st hs a ha => ?_⟩
  simp only [List.mem_cons, List.not_mem_nil, or_false] at hs ha
  rcases hs with rfl | rfl | rfl | rfl | rfl | rfl <;> rcases ha with rfl | rfl <;> first | exact asks_of (terminal 0x40) (by decide) | exact asks_of (terminal 0x41) (by decide)

/-- A route with drop 23 SETTLING; the first FREE slot is 2; a queue of 8; a store without a FREE slot. -/
theorem witness_ClaimsAreLodged :
    parseLodge [0, 9, 2, 0, 23, 31, 1] = some { tag := 9, reference := .drop 23, selector := some 31, kind := .atReceipt }
      ∧ selectorInRange (some 31) = true
      ∧ (stopped 60610 60500 .settling []).findDrop 23 = some (drop .settling (some 0x41))
      ∧ (stopped 60610 60500 .settling []).hears (hdr 0x41) (terminal 0x41) ∧ (stopped 60610 60500 .settling []).takes cmd
      ∧ (stopped 60610 60500 .settling []).store.lockout = false ∧ (stopped 60610 60500 .settling []).route.state ≠ .noRoute
      ∧ (stopped 60610 60500 .settling []).firstFree 2 ∧ (stopped 60610 60500 .settling []).claims.queue.length < 8
      ∧ 8 ≤ (List.replicate 8 waiting).length
      ∧ (∀ j, ((({ State.reset with store := { State.reset.store with slots := Vector.replicate 256 .reserved } } : State).slot j).isFree)
          = false) := by decide +kernel

/-- A store with a DROP_OUTCOME record, number 90, in slot 20, on a route with drop 23 in a final state with that record. -/
def outcomeRecord : DropOutcomeBody :=
  { number := 23, site := 9, mask := 1, allowance := 160, outcome := .delivered, owner := some 0x41, arrival := 5000, endTime := 5380
    handoverClose := none, digest := none, attempts := 0, comps := [], items := items }

def recorded : State :=
  { (stopped 60610 60500 (.final .delivered) []).setSlot 20 (.filled (record 90) (.dropOutcome outcomeRecord)) with
    store := { ((stopped 60610 60500 (.final .delivered) []).setSlot 20 (.filled (record 90) (.dropOutcome outcomeRecord))).store with
      fillList := [20], nextNumber := 93 }
    drops := [{ drop (.final .delivered) (some 0x41) with record := some 90, reservation := none }]
    array := { script := [false, false] } }

/-- A claim about record 90 from the trunk and one about drop 23 from a terminal, in an empty queue and behind a WAITING head; a claim about a record that is not there, one that is CORRUPT, and one of another kind. -/
theorem witness_ClaimsAreLodged_judged :
    (∃ reply, recorded.lodges .trunk 0x80 { tag := 9, reference := .record 90, selector := none, kind := .atReceipt }
        (.claimLodge true cmd [0, 9, 1, 0, 90, 0xFF, 1]) reply)
      ∧ (∃ reply, recorded.lodges .field 0x41 { tag := 9, reference := .drop 23, selector := some 31, kind := .atReceipt }
        (.terminalClaimLodge (hdr 0x41) [0, 9, 2, 0, 23, 31, 1]) reply)
      ∧ recorded.atHand (.record 90) 90 ∧ recorded.atHand (.drop 23) 90 ∧ recorded.firstFree 2
      ∧ recorded.judgedAs none 90 { drop := 23, entries := judgeItems recorded.classes none outcomeRecord } recorded.array.script [false]
      ∧ recorded.judgedAs none 91 { drop := 0, entries := [{ index := none, verdict := .unknownRecord }] } [false] [false]
      ∧ (stored 5).judgedAs none 92 { drop := 0, entries := [{ index := none, verdict := .unknownRecord }] } [false] [false]
      ∧ (stored 5).judgedAs none 90 { drop := 0, entries := [{ index := none, verdict := .unknownRecord }] } [false, false] [false]
      ∧ recorded.claims.queue = [] ∧ waiting.judged = none := by
  refine ⟨⟨_, _, rfl, by decide, by decide, .inr ⟨rfl, _, _, rfl, rfl, by decide, rfl⟩⟩,
    ⟨_, _, rfl, by decide, by decide, .inl ⟨rfl, by decide, _, terminal 0x41, rfl, rfl, by decide, by decide, rfl⟩⟩,
    ⟨by decide, .inl rfl⟩, ⟨by decide, .inr ⟨23, _, .delivered, rfl, by decide, by decide, rfl, rfl, rfl⟩⟩, by decide +kernel,
    .inl ⟨20, record 90, outcomeRecord, by decide +kernel, by decide +kernel, rfl, rfl⟩,
    .inr ⟨rfl, .inl ⟨by decide +kernel, rfl⟩⟩, .inr ⟨rfl, .inr (.inl ⟨22, record 92, false, by decide +kernel, by decide +kernel, rfl⟩)⟩,
    .inr ⟨rfl, .inr (.inr ⟨20, record 90, body, by decide +kernel, by decide +kernel, nofun, rfl⟩)⟩, by decide, by decide⟩

/-- Lodgings for each check of R166 and R167: an invalid kind and a wrong length, record 0, drops 0, 65 and 24, index 32, a live stop. -/
theorem witness_ClaimsAreLodged_refused :
    busy.hears (hdr 0x21) probe ∧ probe.binding ≠ .terminal ∧ busy.hears (hdr 0x41) (terminal 0x41)
      ∧ (locked busy).hears (hdr 0x41) (terminal 0x41) ∧ (tabled 5).hears (hdr 0x41) (terminal 0x41) ∧ busy.serves cmd
      ∧ parseLodge [0, 9, 2, 0, 23, 31, 3] = none ∧ parseLodge [0, 9, 2, 0, 23, 31] = none
      ∧ parseLodge [0, 9, 1, 0, 0, 31, 1] = some { tag := 9, reference := .record 0, selector := some 31, kind := .atReceipt }
      ∧ parseLodge [0, 9, 2, 0, 65, 31, 1] = some { tag := 9, reference := .drop 65, selector := some 31, kind := .atReceipt }
      ∧ busy.findDrop 24 = none
      ∧ parseLodge [0, 9, 2, 0, 23, 32, 1] = some { tag := 9, reference := .drop 23, selector := some 32, kind := .atReceipt }
      ∧ lodgeInRange { tag := 9, reference := .drop 23, selector := some 32, kind := .atReceipt } = false
      ∧ lodgeInRange { tag := 9, reference := .drop 64, selector := some 31, kind := .atReceipt } = true
      ∧ busy.findDrop 23 = some (drop .handingOver (some 0x41)) := by decide

/-- R167: a lodging about drop 23 with a kind that is no code is refused with STATE, about that drop and its state. -/
theorem test_terminalClaimLodge_badKind :
    replyPayloads .field (after (.terminalClaimLodge (hdr 0x41) [0, 9, 2, 0, 23, 0xFF, 3]) (stopped 60610 60500 .settling []))
      = [[0x36, 23, 0, 2, 3, 4]] := by decide

/-- A new entry, one rewritten in its place and one moved to another kind; an entry cleared. -/
theorem witness_StationWritesAndClears :
    (tabled 5).serves cmd ∧ parseStationWrite [0x30, 3, 0] = some (0x30, .terminal, none) ∧ bindingOf .terminal = some .terminal
      ∧ (tabled 5).findStation 0x30 = none ∧ (tabled 5).findStation 0x21 = some probe
      ∧ parseStationWrite [0x21, 1, 0, 0, 5, 0] = some (0x21, .probe 0 0 5, none) ∧ bindingOf (.probe 0 0 5) = some (.probe 0 0 5)
      ∧ sameBinding probe.binding (.probe 0 0 5) = true ∧ sameBinding probe.binding .terminal = false
      ∧ (∀ a ∈ [(0x30 : Byte), 0x21], stationAddr a = true ∧ (tabled 5).bindingLocked ((tabled 5).findStation a) (some .terminal) = false
          ∧ (tabled 5).bindingTaken a .terminal = false ∧ (tabled 5).stationRoom a = true)
      ∧ (tabled 5).bindingTaken 0x21 (.probe 0 0 5) = false ∧ (tabled 5).findStation 0x31 = some contact
      ∧ (tabled 5).bindingLocked (some contact) none = false ∧ stationAddr 1 = true ∧ stationAddr 0xFD = true := by decide

/-- A contact moved; payloads of no kind, an address 0xFE, a compartment 4; a contact moved on a route, a place taken, a table of 48; addresses out of range, not held, and locked. -/
theorem witness_StationWritesAndClears_refused :
    sameBinding contact.binding (.door 0 1) = false ∧ parseStationWrite [0x31, 5] = none ∧ stationAddr 0xFE = false
      ∧ parseStationWrite [0x31, 2, 4, 0, 0] = some (0x31, .door 4 0, none) ∧ bindingOf (.door 4 0) = none
      ∧ parseStationWrite [0x31, 2, 0, 1, 0] = some (0x31, .door 0 1, none) ∧ bindingOf (.door 0 1) = some (.door 0 1)
      ∧ (route 5 0).serves cmd ∧ (route 5 0).findStation 0x31 = some contact ∧ (route 5 0).route.state ≠ .noRoute
      ∧ bindsPlace contact.binding = true
      ∧ (∃ e ∈ (tabled 5).stations.entries, e.addr ≠ 0x30 ∧ bindsPlace (.door 0 0) = true ∧ sameBinding e.binding (.door 0 0) = true)
      ∧ (tabled 5).bindingLocked ((tabled 5).findStation 0x30) (some (.door 0 0)) = false
      ∧ 48 ≤ (List.replicate 48 contact).length ∧ ([] : List Byte).length ≠ 1 ∧ 0xFD < (0xFE : Byte).toNat
      ∧ (tabled 5).findStation 0x30 = none := by decide

/-- On a route and off one; a compartment in a mask and one in none; a class that an item names and one that none does. -/
theorem witness_RouteTablesAreWrittenOffRoute :
    (tabled 5).serves cmd ∧ (route 5 0).serves cmd ∧ (route 5 0).route.state ≠ .noRoute ∧ (tabled 5).route.state = .noRoute
      ∧ (∃ q, parseProfile [0, 0, 0xFE, 0xE0, 0xFF, 0x40, 16, 4, 0, 240, 0, 240, 0, 5] = some (0, 0, q) ∧ profileValid q = true
          ∧ q.enabled = false)
      ∧ (∃ q, parseProfile [3, 1, 0xFE, 0xE0, 0xFF, 0x40, 16, 4, 0, 240, 0, 240, 0, 5] = some (3, 1, q) ∧ profileValid q = true
          ∧ q.enabled = true)
      ∧ (drop .planned none).mask.getLsbD 0 = true ∧ (drop .planned none).mask.getLsbD 3 = false
      ∧ parseClass [15, 0] = some (15, none)
      ∧ (∃ k, parseClass [2, 1, 0, 1, 0x0E, 0x10, 0x04, 0xB0, 1] = some (2, some (k, 1)) ∧ classValid k 1 = true)
      ∧ ({ tabled 5 with drops := [drop .planned none] } : State).classNamed 2 = true
      ∧ ({ tabled 5 with drops := [drop .planned none] } : State).classNamed 15 = false :=
  ⟨by decide, by decide, by decide, by decide, ⟨_, rfl, by decide, by decide⟩, ⟨_, rfl, by decide, by decide⟩, by decide, by decide,
    by decide, ⟨_, rfl, by decide⟩, by decide, by decide⟩

/-- A run of 128 that ends with the table, one that passes its end by one, and counts of 0 and 129. -/
theorem witness_FrameClassWriteReplacesRun :
    (dev 5).serves cmd ∧ (128 : Byte).toNat + (128 : Byte).toNat ≤ 256 ∧ 256 < (129 : Byte).toNat + (128 : Byte).toNat
      ∧ (List.replicate 128 (0 : Byte)).length = (128 : Byte).toNat ∧ 128 < (129 : Byte).toNat := by decide +kernel

theorem witness_PassMaskSetReplacesMask : (dev 5).serves cmd ∧ 3 < (4 : Byte).toNat ∧ ([0] : List Byte).length ≠ 2 := by decide

theorem witness_AlertSettingsAreReplaced :
    (dev 5).serves cmd ∧ (21 : Byte).toNat = (20 : Fin 21).val + 1 ∧ (7 : Byte).toNat ≤ 7 ∧ 21 < (22 : Byte).toNat ∧ 7 < (8 : Byte).toNat := by
  decide

/-- All five values given, at and beyond the ends of their ranges; none given; and on a route a change of D and none. -/
theorem witness_ConfigWriteClampsValues :
    (dev 5).serves cmd ∧ (route 5 0).serves cmd ∧ (route 5 0).route.state ≠ .noRoute
      ∧ parseConfig [0x1F, 0, 15, 0, 17, 0x09, 0x61, 0, 119, 0x04, 0xB1]
        = some { settleDelay := some 15, arrivalLead := some 17, idleTimeout := some 2401, departTimeout := some 119, alertHoldoff := some 1201 }
      ∧ parseConfig [0] = some {} ∧ parseConfig [1, 0, 61] = some { settleDelay := some 61 }
      ∧ parseConfig [1, 0, 60] = some { settleDelay := some 60 } := by decide

/-- A device off a route, on one, and in LOCKOUT; and a deadline one tick after the time that is set. -/
theorem witness_TimeSetWritesPartTime :
    (dev 5).takes cmd ∧ (dev 5).store.lockout = false ∧ (dev 5).route.state = .noRoute ∧ (locked (dev 5)).takes cmd
      ∧ (locked (dev 5)).store.lockout = true ∧ (route 5 0).takes cmd ∧ (route 5 0).route.state ≠ .noRoute
      ∧ ({ opening 5 with route := {} } : State).takes cmd ∧ (({ opening 5 with route := {} } : State).comp 0).doors[0].deadline = some 8230
      ∧ 8229 < 8230 ∧ ((0x00#8).toNat * 256 + (0x20#8).toNat) * 256 + (0x25#8).toNat = 8229 := by decide

/-- A drop of 24 items in one part and of 32 in two; the item pool filled to its last place; a drop to replace. -/
theorem witness_ManifestLoadsEnterDrop :
    (tabled 5).serves cmd ∧ (tabled 5).route.state ≠ .closing ∧ (tabled 5).firstFree 0
      ∧ (∃ l, parseLoadSingle ([64, 0, 0, 0, 5, 1, 0x03, 0x84, 24] ++ (List.replicate 24 entry).flatten) = some l ∧ l.items ≠ []
          ∧ loadInRange l = true ∧ (tabled 5).loadAgrees l = true ∧ (tabled 5).findDrop l.number = none
          ∧ (tabled 5).itemsHeld + l.items.length ≤ 512)
      ∧ (∃ l, parseLoadOne ([64, 0, 0, 0, 5, 1, 0, 25, 32] ++ (List.replicate 24 entry).flatten) = some l
          ∧ ∃ l', joinParts (some l) (parseLoadTwo (64 :: (List.replicate 8 entry).flatten)) = some l' ∧ loadInRange l' = true
            ∧ (tabled 5).loadAgrees l' = true)
      ∧ joinParts none (parseLoadTwo (64 :: entry)) = none
      ∧ (∃ l, parseLoadSingle ([23, 0, 0, 0, 5, 1, 0, 25, 1] ++ entry) = some l ∧ loadInRange l = true
          ∧ (stopped 5 0 .planned []).loadAgrees l = true
          ∧ (stopped 5 0 .planned []).findDrop l.number = some (drop .planned (some 0x41)) ∧ (stopped 5 0 .planned []).serves cmd) :=
  ⟨by decide, by decide, by decide +kernel, ⟨_, rfl, by decide +kernel⟩, ⟨_, rfl, _, rfl, by decide +kernel⟩, by decide, _, rfl, by decide +kernel⟩

/-- Loads that checks 2 to 7 of R111 refuse: in CLOSING, without items, of drop 65, of a compartment that is not enabled, into a full pool, and with no FREE slot. -/
theorem witness_ManifestLoadsEnterDrop_refused :
    ∃ l, parseLoadSingle ([3, 0, 0, 0, 5, 1, 0, 25, 1] ++ entry) = some l ∧ l.items ≠ []
      ∧ closing.refusesLoad l .state ∧ (tabled 5).refusesLoad { l with items := [] } .emptyDrop
      ∧ (tabled 5).refusesLoad { l with number := 65 } .outOfRange ∧ (tabled 5).refusesLoad { l with mask := 3 } .conflict
      ∧ ({ tabled 5 with drops := [{ drop .planned none with items := (List.replicate 512 l.items).flatten }] } : State).refusesLoad l .noRoom
      ∧ ({ tabled 5 with store := { State.reset.store with slots := Vector.replicate 256 .reserved } } : State).refusesLoad l .noSlot := by
  refine ⟨_, rfl, ?_⟩
  unfold State.refusesLoad; decide +kernel

theorem witness_ManifestDeleteRemovesDrop :
    (stopped 5 0 .planned []).serves cmd ∧ (stopped 5 0 .planned []).findDrop (23 : Byte).toNat = some (drop .planned (some 0x41))
      ∧ (drop .planned (some 0x41)).reservation = some 1 ∧ (stopped 5 0 .planned []).findDrop (64 : Byte).toNat = none
      ∧ (stopped 5 0 .settling [context]).findDrop (23 : Byte).toNat = some (drop .settling (some 0x41)) ∧ 64 < (65 : Byte).toNat
      ∧ (stopped 5 0 .planned []).drops.Pairwise (fun a b => a.number < b.number) ∧ ([] : List Byte).length ≠ 1
      ∧ ([23, 0] : List Byte).length ≠ 1 := by decide

/-- The first two FREE slots are 0 and 1. -/
theorem witness_RouteOpenBeginsRoute :
    (tabled 36000).serves cmd ∧ (tabled 36000).route.state = .noRoute ∧ (tabled 36000).clock.timeSet = true
      ∧ ((tabled 36000).comp 0).profile.enabled = true ∧ (tabled 36000).firstFree 0 ∧ (0 : Fin 256) < 1
      ∧ ((tabled 36000).slot 1).isFree = true ∧ (∀ k, (0 : Fin 256) < k → k < 1 → ((tabled 36000).slot k).isFree = false)
      ∧ (reads false (tabled 36000)).array.script = false :: [] := by decide +kernel

/-- On a route; part time not set; no compartment enabled; one FREE slot. -/
theorem witness_RouteOpenBeginsRoute_refused :
    (route 5 0).serves cmd ∧ (route 5 0).route.state ≠ .noRoute ∧ State.reset.serves cmd ∧ State.reset.clock.timeSet = false
      ∧ (dev 5).serves cmd ∧ (∀ c, ((dev 5).comp c).profile.enabled = false)
      ∧ (({ tabled 5 with store := { State.reset.store with slots := Vector.replicate 256 .reserved } } : State).setSlot 7 .free).freeCount < 2
      ∧ ([0, 0, 0] : List Byte).length ≠ 4 ∧ ([0, 0, 0, 0, 0] : List Byte).length ≠ 4 := by decide +kernel

theorem witness_RouteCloseBeginsClosing :
    (tabled 5).serves cmd ∧ (tabled 5).route.state ≠ .opened ∧ busy.serves cmd ∧ (∃ d ∈ busy.drops, d.state = .handingOver)
      ∧ (route 200 150).serves cmd ∧ (route 200 150).route.state = .opened ∧ (route 200 150).liveDrop = none
      ∧ (stopped 50000 49000 .active [context]).serves cmd
      ∧ (stopped 50000 49000 .active [context]).liveDrop = some (drop .active (some 0x41))
      ∧ (stopped 50000 49000 .active [context]).closesPlainly 23 context := by decide

/-- Each query's operands at their largest, with an entry and a drop that are held. -/
theorem witness_QueriesChangeNothing :
    busy.takes cmd ∧ (locked busy).takes cmd ∧ (3 : Byte).toNat < 4 ∧ (1 : Byte).toNat < 2 ∧ (6 : Byte).toNat < 7 ∧ stationAddr 0xFD = true
      ∧ busy.findStation 0xFD = none ∧ busy.findStation 0x41 = some (terminal 0x41) ∧ (31 : Byte).toNat ≤ 31
      ∧ busy.findDrop (64 : Byte).toNat = none ∧ busy.findDrop (23 : Byte).toNat = some (drop .handingOver (some 0x41)) := by decide

/-- Record 90 FILLED at the head, 91 TAKEN, 92 CORRUPT behind it; a sound read and a failed one, before and during a recovery; the last segment. -/
theorem witness_ProofFetchReturnsRecord :
    (stored 1000).takes cmd ∧ (stored 1000).store.fillList = [] ++ 20 :: [21, 22] ∧ (stored 1000).slot 20 = .filled (record 90) body
      ∧ (∀ j ∈ (dev 5).store.fillList, unfetched ((dev 5).slot j) = false)
      ∧ unfetched ((stored 1000).slot 21) = false ∧ (stored 1000).slot 22 = .corrupt (record 92) false
      ∧ (stored 1000).findRecord ((0 : Byte).toNat * 256 + (91 : Byte).toNat) = some 21 ∧ (stored 1000).slot 21 = .taken (record 91) body
      ∧ (0 : Byte).toNat < segmentCount body ∧ segmentCount body ≤ (1 : Byte).toNat
      ∧ (stored 1000).findRecord ((0 : Byte).toNat * 256 + (93 : Byte).toNat) = none
      ∧ (reads true (stored 1000)).store.faultInProgress = false ∧ (reads true (recovering 1003)).store.faultInProgress = true
      ∧ (reads true (recovering 1003)).store.lockout = false
      ∧ ((reads true (recovering 1003)).takes cmd ∧ (reads true (recovering 1003)).StoreSound
          ∧ (reads true (stored 1000)).StoreSound) := by
  unfold State.StoreSound; decide +kernel

theorem witness_ProofReleaseFreesFetched :
    (stored 1000).takes cmd ∧ (stored 1000).store.fillList = [20] ++ 21 :: [22]
      ∧ ((stored 1000).slot 21).header? = some (record 91) ∧ (record 91).number = (0 : Byte).toNat * 256 + (91 : Byte).toNat
      ∧ (∀ j ∈ [(20 : Fin 256)], ((stored 1000).slot j).header? = some (record 90)) ∧ (record 90).number ≠ (record 91).number
      ∧ [(21 : Fin 256)] = ([20] ++ [21] : List (Fin 256)).filter (fun j => releasable ((stored 1000).slot j))
      ∧ (stored 1000).findRecord ((0 : Byte).toNat * 256 + (93 : Byte).toNat) = none
      ∧ ([0] : List Byte).length ≠ 2 ∧ ([0, 91, 0] : List Byte).length ≠ 2 := by decide +kernel

theorem witness_MonitorResetEndsRoute :
    (dev 5).serves cmd ∧ (dev 5).route.state = .noRoute ∧ (reads false (route 200 150)).serves cmd
      ∧ (reads false (route 200 150)).route.state = .opened ∧ (reads false (route 200 150)).contexts = []
      ∧ (reads false (route 200 150)).liveDrop = none ∧ (reads false (route 200 150)).route.reservation = some 0
      ∧ (∀ d ∈ (reads false (route 200 150)).drops, d.reservation ≠ some 0)
      ∧ (∀ k ∈ (reads false (route 200 150)).claims.queue, k.reservation ≠ 0)
      ∧ (reads false (route 200 150)).array.script = false :: [] := by decide

theorem witness_ColdStartsClearEverything :
    (route 5 0).takes cmd ∧ (route 5 0).route.state ≠ .noRoute ∧ (route 5 0).store.lockout = false ∧ (dev 5).takes cmd
      ∧ (dev 5).route.state = .noRoute ∧ (locked (route 5 0)).takes cmd ∧ (locked (route 5 0)).store.lockout = true
      ∧ ((lost (unpowered (dev 5))).checkAgrees = false ∧ (lost (unpowered (dev 5))).powered = false
          ∧ (lost (unpowered (dev 5))).power.resetAsserted = false)
      ∧ ((lost (after (.powerLoss .resetLine) (dev 5))).powered = false
          ∧ (lost (after (.powerLoss .resetLine) (dev 5))).power.mainPower = true) := by decide

/-- A device with power; a stopped one; a command that changes retained state; a supply that comes while the other condition lacks; a stop by each cause with the domain held. -/
theorem witness_PowerLossAndWarmResume :
    (dev 5).powered = true ∧ (unpowered (dev 5)).checkAgrees = true ∧ (unpowered (dev 5)).powered = false
      ∧ (lost (dev 5)).powered = true ∧ (after .tick (lost (dev 5))).retained.clock ≠ (lost (dev 5)).retained.clock
      ∧ (after (.powerLoss .resetLine) (unpowered (dev 5))).power.resetAsserted = true
      ∧ (after (.powerLoss .resetLine) (unpowered (dev 5))).power.mainPower = false
      ∧ (unpowered (dev 5)).power.resetAsserted = false ∧ (after (.powerLoss .resetLine) (dev 5)).checkAgrees = true
      ∧ (after (.powerLoss .resetLine) (dev 5)).powered = false ∧ (after (.powerLoss .resetLine) (dev 5)).power.mainPower = true := by
  decide

/-- s with its four reply places of the trunk taken. -/
def crowded (s : State) : State := s.updPort .trunk fun u => { u with replies := List.replicate 4 (originate 0x80 typMgmtReply []) }

/-- A reply queue with its four places taken; a command in LOCKOUT; a code that names none. -/
theorem witness_UnservedCommandsAreRefused :
    (4 ≤ (crowded (dev 5)).ports.trunk.replies.length + (crowded (dev 5)).ports.reserved ∧ (crowded (dev 5)).working = true
        ∧ Instr.routeClose cmd [] ∈ commands cmd [] ∧ 4 ≤ (crowded (dev 5)).replyPlacesUsed .trunk)
      ∧ ([0, 0, 0, 5] : List Byte).length = 4 ∧ ([0, 0, 0] : List Byte).length ≠ 4 ∧ (locked busy).takes cmd ∧ (locked busy).store.lockout = true ∧ (0x14 : Byte).toNat < (0x15 : Byte).toNat
      ∧ (Instr.monitorReset cmd [], cmdMonitorReset) ∈ gatedCommands cmd [] := by decide

theorem witness_RefusedCommandsChangeNothing :
    busy.takes cmd ∧ (Instr.routeClose cmd [], cmdRouteClose) ∈ gatedCommands cmd []
      ∧ Instr.routeClose cmd [] ≠ .manifestLoadPartTwo cmd [] ∧ ∃ t, exec (.routeClose cmd []) busy = .next t :=
  ⟨by decide, by decide, nofun, _, rfl⟩

end Sys2Proof.Tests
end

section
/-! SUPPORT. The down direction of the Pass Path: a trunk frame's arrival, the test and the Forward FIFO, and the start of a forwarded frame's transmission (R5, R8, R9, R12, R13, R17). -/
namespace Sys2Proof.Machine

/-! ### Arrival from the trunk -/

/-- A valid trunk frame passes the tests of R3, with a trailer or without. -/
theorem frameFailure_trunk {dst typ : Byte} {h : Hdr} {payload trailer : List Byte}
    (hok : trunkOk h payload trailer = true) (hd : dst ≠ 0) :
    frameFailure .trunk (trailedFrame dst typ h payload trailer) = none := by
  simp only [trunkOk, sourceOk, trailerOk, Bool.and_eq_true, decide_eq_true_eq] at hok
  obtain ⟨⟨hsrc, hpay⟩, htr⟩ := hok
  have hlen : ¬ (240 < payload.length ∨ trailer.length ≠ trailerLength h.flags) :=
    not_or.mpr ⟨Nat.not_lt.mpr hpay, fun hne => hne htr⟩
  have haddr : addressesValid dst h.src = true := by
    simp only [addressesValid, Bool.and_eq_true, decide_eq_true_eq, bne_iff_ne]
    exact ⟨hsrc, hd⟩
  simp [frameFailure, trailedFrame, hlen, haddr]

/-- The link is full-duplex: a valid trunk frame that arrives at a working device is counted and handed on, whatever the port sends. -/
theorem trunkArrives {s : State} {dst typ : Byte} {h : Hdr} {payload trailer : List Byte} (hw : s.working = true)
    (hok : trunkOk h payload trailer = true) (hd : dst ≠ 0) {run : State → State}
    (hr : (run (countReceived .trunk s)).power = s.power) :
    whileWorking (arrives .trunk (trailedFrame dst typ h payload trailer) run) s = run (countReceived .trunk s) := by
  have harr : arrives .trunk (trailedFrame dst typ h payload trailer) run s = run (countReceived .trunk s) := by
    simp only [arrives, whileListening_trunk, frameFailure_trunk hok hd]
  rw [whileWorking_working hw (by rw [harr]; exact hr), harr]

/-! ### The Forward FIFO -/

/-- A frame joins the tail of a Forward FIFO with a free place, and is counted (R13). -/
theorem joinFifo_room {d : Direction} {f : Frame} {s : State}
    (h : (s.port (outPort d)).forward.length < Config.fifoPlaces) :
    joinFifo d f s = (s.updPort (outPort d) fun u => { u with forward := u.forward ++ [{ frame := f }] }).updDirCounts d
      fun k => { k with forwarded := satInc max32 k.forwarded } := if_pos h

/-- A frame that finds a Forward FIFO full is dropped with FORWARD_OVERFLOW (R13). -/
theorem joinFifo_full {d : Direction} {f : Frame} {s : State}
    (h : Config.fifoPlaces ≤ (s.port (outPort d)).forward.length) :
    joinFifo d f s = raise .forwardOverflow (.direction d) (some f.typ.toNat)
      (s.updDirCounts d fun k => { k with overflow := satInc max32 k.overflow }) := if_neg (Nat.not_lt.mpr h)

@[simp] theorem joinFifo_power (d : Direction) (f : Frame) (s : State) : (joinFifo d f s).power = s.power := by
  unfold joinFifo
  split
  · rw [State.updDirCounts_power, State.updPort_power]
  · rw [raise_power, State.updDirCounts_power]

/-! ### The test of the down direction -/

/-- A frame whose class meets the mask in force goes to the FIFO as it came: the down direction gives no annotation (R9, R12). -/
theorem offerDown_passes {f : Frame} {s : State} (h : s.passes .down f = true) : offerDown f s = joinFifo .down f s := by
  simp only [offerDown, h, if_true, ite_self]

/-- Outside LOCKOUT a frame whose class does not meet the mask in force is held back (R9). -/
theorem offerDown_heldBack {f : Frame} {s : State} (hl : s.lockedOut = false) (h : s.passes .down f = false) :
    offerDown f s = holdBack .down s := by
  simp [offerDown, hl, h]

@[simp] theorem offerDown_power (f : Frame) (s : State) : (offerDown f s).power = s.power := by
  unfold offerDown
  split
  · exact joinFifo_power .down f s
  · split
    · exact joinFifo_power .down f s
    · exact State.updDirCounts_power s .down _

/-- The down test reads the class of the frame's type alone, against the down mask of the route state (R8, R9). -/
theorem passes_down_iff (f : Frame) (s : State) :
    s.passes .down f = true ↔
      s.pass.classTable[f.typ.toFin] &&& (if s.onRoute then s.pass.downRoute else s.pass.downIdle) ≠ 0 := by
  simp only [State.passes, State.classByte, State.maskInForce, bne_iff_ne]

/-- Counting a received frame moves no down test. -/
@[simp] theorem countReceived_passes_down (p : Port) (f : Frame) (s : State) :
    (countReceived p s).passes .down f = s.passes .down f := by
  cases p <;> rfl

/-- TRUNK_FRAME_PASS_DOWN at a working device: the frame is counted and offered to the down direction (R5). -/
theorem exec_trunkFramePassDown {s : State} {dst typ : Byte} {h : Hdr} {payload trailer : List Byte} (hw : s.working = true)
    (hok : trunkOk h payload trailer = true) (hd : dst ≠ 0) (hdev : dst ≠ deviceAddr) :
    exec (.trunkFramePassDown dst typ h payload trailer) s
      = .next (offerDown (trailedFrame dst typ h payload trailer) (countReceived .trunk s)) := by
  have hon : trunkHandOn (trailedFrame dst typ h payload trailer) = offerDown (trailedFrame dst typ h payload trailer) :=
    if_neg hdev
  have harr := trunkArrives (typ := typ) hw hok hd (run := offerDown (trailedFrame dst typ h payload trailer))
    (offerDown_power _ _)
  exact congrArg Host.Outcome.next (by rw [hon, harr])

/-! ### The start of a forwarded frame -/

/-- The arbiter takes from the field port's Forward FIFO when no reply waits (R17). -/
theorem arbiterChoice_field_forward {s : State} {f : QFrame} {fs : List QFrame} (hr : s.ports.field.replies = [])
    (hf : s.ports.field.forward = f :: fs) : s.arbiterChoice .field = some .forward := by
  simp [State.arbiterChoice, queueOrder, State.queueFrames, State.port, hr, hf]

/-- A forwarded frame keeps the sequence number it came with: its bytes on the line are those of the frame that waits (R12, R18). -/
theorem beginSending_forward (p : Port) (f : QFrame) (s : State) :
    beginSending p .forward f s = s.updPort p fun u => { u with sending := some { queue := .forward, wire := frameWire f.frame } } :=
  rfl

/-- A free field port whose replies are all sent starts the head of its Forward FIFO (R17). -/
theorem startSending_field_forward {s : State} {f : QFrame} {fs : List QFrame} (hs : s.ports.field.sending = none)
    (hr : s.ports.field.replies = []) (hf : s.ports.field.forward = f :: fs) :
    startSending .field s = beginSending .field .forward f s := by
  have hfree : s.portFree .field = true := by simp [State.portFree, State.port, hs]
  have hq : s.queueFrames .field .forward = f :: fs := hf
  simp only [startSending, hfree, if_true, arbiterChoice_field_forward hr hf, hq]

/-- TRANSMIT_START of a working device's port, when the start leaves the power inputs alone. -/
theorem exec_transmitStart {s : State} {p : Port} (hw : s.working = true) (hp : (startSending p s).power = s.power) :
    exec (.transmitStart p) s = .next (startSending p s) :=
  congrArg Host.Outcome.next (whileWorking_working hw hp)

/-! ### The statement -/

/-- Settles O34: the arrival is counted and offered down; the test and the FIFO's room pick the branch, and the transmission of the FIFO's head renumbers nothing. -/
theorem trunkFramesPassDown : Obligations.TrunkFramesPassDown := by
  unfold Obligations.TrunkFramesPassDown
  refine ⟨fun s h dst typ mask payload trailer f hw hl hd hdev hok hmask hf => ?_, fun s f fs hw hs hr hfwd => ?_⟩
  · subst hf hmask
    have hexec := exec_trunkFramePassDown (typ := typ) hw hok hd hdev
    have htest := passes_down_iff (trailedFrame dst typ h payload trailer) s
    rw [← countReceived_passes_down .trunk] at htest
    refine ⟨fun hmeets hroom => ?room, fun hmisses => ?heldBack, fun hmeets hfull => ?full⟩
    case room =>
      rw [hexec, offerDown_passes (htest.mpr hmeets), joinFifo_room (d := .down) (s := countReceived .trunk s) hroom]
      rfl
    case heldBack =>
      have hfails := Bool.eq_false_iff.mpr fun hpass => htest.mp hpass hmisses
      rw [hexec, offerDown_heldBack (s := countReceived .trunk s) hl hfails, holdBack]
    case full =>
      rw [hexec, offerDown_passes (htest.mpr hmeets), joinFifo_full (d := .down) (s := countReceived .trunk s) hfull]
      rfl
  · have hstart := startSending_field_forward hs hr hfwd
    rw [exec_transmitStart hw (by rw [hstart, beginSending_forward, State.updPort_power]), hstart, beginSending_forward]

end Sys2Proof.Machine
end

section
/-! SUPPORT. MANIFEST_DELETE: how a gated command that is served is answered, the entries that carry a drop number, what a deletion leaves, and the order of the refusals (R111, R113, R190, R192). -/
namespace Sys2Proof.Machine

/-! ### A gated command that is served -/

/-- A gated command whose judgement refuses it changes the answer and the counts alone (R190, R192). -/
theorem gatedArrives_error {s : State} {m : CmdHdr} {code : Byte} {ops : List Byte} {judge : State → Judged} {r : MgmtReason}
    (h : s.serves m) (hlen : ops.length ≤ 239) (hj : judge s.admitted = .error r) :
    commandArrives m (code :: ops) (runGated code m judge) s = s.refusedBy code m r := by
  obtain ⟨htakes, hlock⟩ := h
  have hpayload : (code :: ops).length ≤ 240 := Nat.succ_le_succ hlen
  have hrun : runGated code m judge s.admitted = s.refusedBy code m r := by
    rw [runGated_serves hlock, hj, settle, answer_admitted_refused]
  rw [commandArrives_takes htakes hpayload (by rw [hrun]; rfl), hrun]

/-- A gated command whose judgement carries it out is answered DONE on the state of its effect (R190, R192). -/
theorem gatedArrives_ok {s t : State} {m : CmdHdr} {code marks : Byte} {ops data : List Byte} {judge : State → Judged}
    (h : s.serves m) (hlen : ops.length ≤ 239) (hj : judge s.admitted = .ok (marks, data, t.admitted))
    (ht : t.power = s.power) :
    commandArrives m (code :: ops) (runGated code m judge) s = t.doneBy code m marks data := by
  obtain ⟨htakes, hlock⟩ := h
  have hpayload : (code :: ops).length ≤ 240 := Nat.succ_le_succ hlen
  have hrun : runGated code m judge s.admitted = t.doneBy code m marks data := by
    rw [runGated_serves hlock, hj, settle, answer_admitted_done]
  rw [commandArrives_takes htakes hpayload (by rw [hrun]; exact ht), hrun]

/-! ### The drop of a number -/

/-- The drop found for a number carries it. -/
theorem State.findDrop_number {s : State} {n : Nat} {d : Drop} (h : s.findDrop n = some d) : d.number = n := by
  simpa using List.find?_some h

/-- In a manifest in rising order of drop numbers, the items of the drop of a number and those of the other drops are the items held. -/
theorem State.itemsHeld_filter {s : State} {n : Nat} {d : Drop} (hd : s.findDrop n = some d)
    (hs : s.drops.Pairwise fun a b => a.number < b.number) :
    State.itemsHeld { s with drops := s.drops.filter fun e => e.number ≠ n } + d.items.length = s.itemsHeld := by
  have hnum : d.number = n := State.findDrop_number hd
  obtain ⟨-, before, after, hsplit, hbefore⟩ := List.find?_eq_some_iff_append.mp hd
  rw [hsplit, List.pairwise_append, List.pairwise_cons] at hs
  obtain ⟨-, ⟨hafter, -⟩, -⟩ := hs
  have keepsBefore : (before.filter fun e => e.number ≠ n) = before :=
    List.filter_eq_self.mpr fun e he => by simpa using hbefore e he
  have keepsAfter : (after.filter fun e => e.number ≠ n) = after :=
    List.filter_eq_self.mpr fun e he => decide_eq_true (hnum ▸ Nat.ne_of_gt (hafter e he))
  have hkept : (s.drops.filter fun e => e.number ≠ n) = before ++ after := by
    rw [hsplit, List.filter_append, keepsBefore, List.filter_cons_of_neg (by simp [hnum]), keepsAfter]
  rw [State.itemsHeld, State.itemsHeld, hkept, hsplit]
  simp only [List.map_append, List.map_cons, List.sum_append, List.sum_cons]
  omega

/-! ### The deletion -/

/-- A drop that holds slot i leaves the manifest, and the slot becomes FREE (R113, R148). -/
theorem deleteDrop_reserved {d : Drop} {i : Fin 256} (h : d.reservation = some i) (s : State) :
    deleteDrop d s = { s.setSlot i .free with drops := s.drops.filter fun e => e.number ≠ d.number } := by
  have hkeep : (fun e : Drop => e.number != d.number) = fun e => decide (e.number ≠ d.number) :=
    funext fun e => (decide_not (p := e.number = d.number)).symm
  simp only [deleteDrop, h, handBack, State.setSlot_drops, hkeep]

/-! ### The judgement, check by check -/

/-- The payload of MANIFEST_DELETE is the drop number alone (R113, 13.5). -/
theorem parseDropOnly_eq_none {ops : List Byte} (h : ops.length ≠ 1) : parseDropOnly ops = none := by
  match ops with
  | [] => rfl
  | [_] => exact absurd rfl h
  | _ :: _ :: _ => rfl

theorem judgeManifestDelete_malformed {ops : List Byte} (h : ops.length ≠ 1) (s : State) :
    judgeManifestDelete ops s = .error .malformed := by
  simp only [judgeManifestDelete, parseDropOnly_eq_none h]

theorem judgeManifestDelete_outOfRange {n : Byte} (h : n = 0 ∨ 64 < n.toNat) (s : State) :
    judgeManifestDelete [n] s = .error .outOfRange :=
  if_pos (h.imp_left (congrArg BitVec.toNat))

section InRange
variable {s : State} {n : Byte} (h1 : 1 ≤ n.toNat) (h64 : n.toNat ≤ 64)
include h1 h64

theorem judgeManifestDelete_noEntry (hd : s.findDrop n.toNat = none) : judgeManifestDelete [n] s = .error .noEntry := by
  have hin : ¬(n.toNat = 0 ∨ 64 < n.toNat) := by omega
  simp only [judgeManifestDelete, parseDropOnly, if_neg hin, hd]

/-- The entry of a number in range is judged by its state (R113). -/
theorem judgeManifestDelete_found {d : Drop} (hd : s.findDrop n.toNat = some d) :
    judgeManifestDelete [n] s = if d.state = .planned then .ok (markNone, [], deleteDrop d s) else .error .state := by
  have hin : ¬(n.toNat = 0 ∨ 64 < n.toNat) := by omega
  simp only [judgeManifestDelete, parseDropOnly, if_neg hin, hd]

end InRange

/-! ### The statement -/

/-- Settles O50: the judgement meets the checks of R113 in their order, and a deletion keeps every other drop. -/
theorem manifestDeleteRemovesDrop : Obligations.ManifestDeleteRemovesDrop := by
  unfold Obligations.ManifestDeleteRemovesDrop
  intro s m n h
  have hlen : [n].length ≤ 239 := by simp
  refine ⟨fun ops hne hops => ?malformed, fun hn => ?outOfRange, fun h1 h64 => ?inRange⟩
  case malformed =>
    exact congrArg Host.Outcome.next (gatedArrives_error h hops (judgeManifestDelete_malformed hne _))
  case outOfRange =>
    exact congrArg Host.Outcome.next (gatedArrives_error h hlen (judgeManifestDelete_outOfRange hn _))
  case inRange =>
    refine ⟨fun hnone => ?noEntry, fun d hd => ⟨fun hst => ?state, fun i hst hi => ?planned, State.itemsHeld_filter hd⟩⟩
    case noEntry =>
      exact congrArg Host.Outcome.next (gatedArrives_error h hlen (judgeManifestDelete_noEntry h1 h64 hnone))
    case state =>
      have hjudge := judgeManifestDelete_found (s := s.admitted) h1 h64 hd
      rw [if_neg hst] at hjudge
      exact congrArg Host.Outcome.next (gatedArrives_error h hlen hjudge)
    case planned =>
      have hjudge := judgeManifestDelete_found (s := s.admitted) h1 h64 hd
      rw [if_pos hst, deleteDrop_reserved hi, State.findDrop_number hd] at hjudge
      exact congrArg Host.Outcome.next (gatedArrives_ok h hlen hjudge rfl)

end Sys2Proof.Machine
end

section
/-! SUPPORT. ITEM_CONFIRM: how a terminal request reaches the Stop Controller and is answered, the operands of a confirm, its refusals in their order, and what it sets (R36, R125, R126, R131, R145). -/
namespace Sys2Proof.Machine

/-! ### Requests that reach the Stop Controller -/

@[simp] theorem sendTermReply_power (src typ : Byte) (n : Nat) (index : Byte) (r : TermResult) (s : State) :
    (sendTermReply src typ n index r s).power = s.power := by
  rw [sendTermReply, offerReply_only]

/-- What a request of header h names, for its reply (R125). -/
def askedBy (h : Hdr) (typ n index : Byte) : Asked := { src := h.src, typ := typ, drop := n.toNat, index := index }

/-- s with a request of header h heard, and counted by the Stop Controller (R28, R145). -/
def State.requested (s : State) (h : Hdr) : State :=
  (s.heard h).updStopCounts fun c => { c with requests := satInc max32 c.requests }

/-- A request from a TERMINAL entry is delivered, when its delivery leaves the power inputs alone (R5, R36). -/
theorem requestArrives {s t : State} {h : Hdr} {e : Station} {typ : Byte} {payload : List Byte} {q : Asked}
    {deliver : State → State} (hh : s.hears h e) (he : e.binding = .terminal) (hlen : payload.length ≤ 240)
    (hdel : deliver (s.heard h) = t) (hpow : t.power = s.power) :
    whileWorking (arrives .field (fieldFrame deviceAddr typ h payload) (takeRequest (fieldFrame deviceAddr typ h payload) q deliver)) s
      = t := by
  have hterm : isTerminal e = true := by simp [isTerminal, he]
  have htake : takeRequest (fieldFrame deviceAddr typ h payload) q deliver (countReceived .field s) = t := by
    simp only [takeRequest, stationFirst_hears hh, hterm, if_true, hdel]
  obtain ⟨hw, hsend, hsrc, hflag, -, -⟩ := hh
  rw [fieldArrives hw hsend hsrc hflag (by decide) hlen (by rw [htake, hpow]), htake]

section Asks
variable {s : State} {h : Hdr} {n : Byte} {d : Drop} (ha : s.asks h n d)
include ha

/-- A request about a drop the manifest holds, on a route and outside LOCKOUT, passes the checks before its own rule (R126). -/
theorem requestCheck_asks : (s.requested h).requestCheck true n.toNat = none := by
  obtain ⟨-, hlock, hroute, h1, h64, hfind⟩ := ha
  have hlock' : (s.requested h).lockedOut = false := hlock
  have hroute' : (s.requested h).onRoute = true := bne_iff_ne.mpr hroute
  have hfind' : (s.requested h).findDrop n.toNat = some d := hfind
  have hrange : ¬(n.toNat = 0 ∨ 64 < n.toNat) := by omega
  simpa [State.requestCheck, hlock', hroute', hfind'] using hrange

variable {typ index : Byte} {judge : State → Drop → TermResult} {act : Drop → State → State}

/-- A request that passes those checks is answered as its own rule judges it, and acted on when that accepts it (R125, R145). -/
theorem deliverRequest_asks {r : TermResult} (hj : judge (s.requested h) d = r) :
    deliverRequest (askedBy h typ n index) true judge act (s.heard h)
      = stopReply (askedBy h typ n index) r (if r = .accepted then act d (s.requested h) else s.requested h) := by
  have hcheck := requestCheck_asks ha
  obtain ⟨-, -, -, -, -, hfind⟩ := ha
  have hfind' : (s.requested h).findDrop n.toNat = some d := hfind
  simp only [State.requested] at hcheck hfind' hj
  simp only [deliverRequest, askedBy, hcheck, hfind', hj]
  cases r <;> rfl

theorem deliverRequest_refused {w : TermReason} (hj : judge (s.requested h) d = .refused w) :
    deliverRequest (askedBy h typ n index) true judge act (s.heard h) = s.refuses h typ n index w :=
  deliverRequest_asks ha hj

/-- An effect that touches no count may as well come after the counts of its answer (R145). -/
theorem deliverRequest_accepted (hj : judge (s.requested h) d = .accepted)
    (hact : (act d (s.requested h)).updStopCounts (countResult .accepted)
      = act d ((s.requested h).updStopCounts (countResult .accepted))) :
    deliverRequest (askedBy h typ n index) true judge act (s.heard h) = s.accepts h typ n index (act d) := by
  rw [deliverRequest_asks ha hj, if_pos rfl, stopReply, hact]
  rfl

end Asks

/-- What an accepted request does may read the clock and the configuration of the state it came to: neither hearing nor counting it moves them. -/
theorem accepts_congr {s : State} {h : Hdr} {typ n index : Byte} {act act' : State → State}
    (hact : ∀ t : State, t.now = s.now → t.config = s.config → act t = act' t) :
    s.accepts h typ n index act = s.accepts h typ n index act' :=
  congrArg (sendTermReply h.src typ n.toNat index .accepted) (hact _ rfl rfl)

/-! ### The operands of a confirm -/

/-- Two bytes spell a count, the first the more significant (R209). -/
theorem beNat_pair (hi lo : Byte) : beNat [hi, lo] = hi.toNat * 256 + lo.toNat := by
  simp [beNat]

/-- Moving a value into a range is its maximum with the lower end and its minimum with the upper. -/
theorem clampInt_eq_max_min {lo hi : Int} (h : lo ≤ hi) (v : Int) : clampInt lo hi v = max lo (min v hi) := by
  unfold clampInt
  split <;> omega

/-- A receipt temperature is none at 0x8000, and else the value received moved into -880..+1200 (R131, R210). -/
theorem parseReceipt_eq (hi lo : Byte) :
    parseReceipt hi lo = if hi = 0x80 ∧ lo = 0x00 then none else some (max (-880) (min (int16 hi lo) 1200)) := by
  rw [parseReceipt, clampInt_eq_max_min (by decide)]

/-! ### The judgement, check by check -/

section Judge
variable {d : Drop} {src : Byte} {o : ConfirmOps}

theorem judgeConfirm_state (hst : d.state ≠ .handingOver) : judgeConfirm d src o = .refused .state := if_pos hst

variable (hst : d.state = .handingOver)
include hst

theorem judgeConfirm_notOwner (hown : d.owner ≠ some src) : judgeConfirm d src o = .refused .notOwner := by
  rw [judgeConfirm, if_neg (fun hne => hne hst), if_pos hown]

variable (hown : d.owner = some src)
include hown

theorem judgeConfirm_badItem (hlen : d.items.length ≤ o.index) : judgeConfirm d src o = .refused .badItem := by
  have hnone : d.items[o.index]? = none := List.getElem?_eq_none hlen
  simp only [judgeConfirm, hst, hown, hnone, ne_eq, not_true_eq_false, if_false]

variable {it : Item} (hit : d.items[o.index]? = some it)
include hit

/-- The owner's confirm of an item the drop has is judged by the item's planned total (R131). -/
theorem judgeConfirm_found :
    judgeConfirm d src o = if o.accepted + o.refused ≤ it.planned then .accepted else .refused .overCount := by
  simp only [judgeConfirm, hst, hown, hit, ne_eq, not_true_eq_false, if_false]

theorem judgeConfirm_overCount (hover : it.planned < o.accepted + o.refused) :
    judgeConfirm d src o = .refused .overCount := by
  rw [judgeConfirm_found hst hown hit, if_neg (Nat.not_le.mpr hover)]

theorem judgeConfirm_accepted (hfit : o.accepted + o.refused ≤ it.planned) : judgeConfirm d src o = .accepted := by
  rw [judgeConfirm_found hst hown hit, if_pos hfit]

end Judge

/-! ### What a confirm does -/

/-- A confirm changes its item and the idle deadline of the drop's context (R131). -/
theorem actConfirm_eq_withStop (d : Drop) (o : ConfirmOps) (s : State) :
    actConfirm d o s = s.withStop d.number (fun x => { x with items := x.items.modify o.index (confirmItem o) })
      (fun x => { x with idleDeadline := some (s.now + s.config.idleTimeout) }) := rfl

/-- A confirmed item keeps a reason only where something was refused (R131). -/
theorem confirmItem_eq (o : ConfirmOps) :
    confirmItem o = fun y => { y with
      accepted := o.accepted
      refused := o.refused
      reason := if o.refused = 0 then none else some o.reason
      receipt := o.receipt } := by
  funext y
  obtain hzero | hpos := Nat.eq_zero_or_pos o.refused
  · simp [confirmItem, hzero]
  · simp [confirmItem, hpos, Nat.ne_of_gt hpos]

/-! ### The arrival of a confirm -/

section Arrival
variable {s : State} {h : Hdr} {n i : Byte} {d : Drop} {o : ConfirmOps} {payload : List Byte} (ha : s.asks h n d)
  (ho : parseConfirm payload = some o) (hn : o.drop = n.toNat) (hi : o.index = i.toNat) (hlen : payload.length ≤ 240)
include ha ho hn hi hlen

/-- An ITEM_CONFIRM whose operands are read is delivered as a request about its drop and item (R126, R131). -/
theorem exec_itemConfirm_delivers {t : State}
    (hdel : deliverRequest (askedBy h typItemConfirm n i) true (fun _ d => judgeConfirm d h.src o) (fun d => actConfirm d o)
      (s.heard h) = t) (hpow : t.power = s.power) :
    exec (.itemConfirm h payload) s = .next t := by
  obtain ⟨⟨e, hears, hterm⟩, -⟩ := ha
  have hindex : BitVec.ofNat 8 i.toNat = i := by simp
  have hasked : askedConfirm (fieldFrame deviceAddr typItemConfirm h payload) = askedBy h typItemConfirm n i := by
    simp only [askedConfirm, fieldFrame, ho, hn, hi, hindex, askedBy]
  have htake : takeItemConfirm (fieldFrame deviceAddr typItemConfirm h payload)
      = takeRequest (fieldFrame deviceAddr typItemConfirm h payload) (askedBy h typItemConfirm n i)
          (deliverRequest (askedBy h typItemConfirm n i) true (fun _ d => judgeConfirm d h.src o) fun d => actConfirm d o) := by
    funext u
    simp only [takeItemConfirm, hasked]
    simp only [fieldFrame, ho]
  exact congrArg Host.Outcome.next (by rw [htake]; exact requestArrives hears hterm hlen hdel hpow)

theorem exec_itemConfirm_refused {w : TermReason} (hj : judgeConfirm d h.src o = .refused w) :
    exec (.itemConfirm h payload) s = .next (s.refuses h typItemConfirm n i w) :=
  exec_itemConfirm_delivers ha ho hn hi hlen (deliverRequest_refused ha hj) (by rw [State.refuses, sendTermReply_power]; rfl)

theorem exec_itemConfirm_accepted (hj : judgeConfirm d h.src o = .accepted) :
    exec (.itemConfirm h payload) s = .next (s.accepts h typItemConfirm n i (actConfirm d o)) :=
  exec_itemConfirm_delivers ha ho hn hi hlen (deliverRequest_accepted ha hj rfl) (by rw [State.accepts, sendTermReply_power]; rfl)

end Arrival

/-! ### The statement -/

/-- Settles O38: the operands are read, the judgement meets the checks of R131 in their order, and an accepted confirm is its effect on the item and on the idle deadline. -/
theorem itemConfirmSetsItem : Obligations.ItemConfirmSetsItem := by
  unfold Obligations.ItemConfirmSetsItem
  intro s h n i a1 a0 r1 r0 why t1 t0 d acc ref ha hacc href
  have ho : parseConfirm [n, i, a1, a0, r1, r0, why, t1, t0]
      = some { drop := n.toNat, index := i.toNat, accepted := acc, refused := ref, reason := refusalOf why
               receipt := parseReceipt t1 t0 } := by
    simp only [parseConfirm, beNat_pair, hacc, href]
  have hlen : [n, i, a1, a0, r1, r0, why, t1, t0].length ≤ 240 := by simp
  have refuses {w : TermReason} := exec_itemConfirm_refused (w := w) ha ho rfl rfl hlen
  refine ⟨fun hst => ?state, fun hst hown => ?notOwner, fun hst hown hout => ?badItem,
    fun it hst hown hit => ⟨fun hover => ?overCount, fun hfit => ?accepted⟩⟩
  case state => exact refuses (judgeConfirm_state hst)
  case notOwner => exact refuses (judgeConfirm_notOwner hst hown)
  case badItem => exact refuses (judgeConfirm_badItem hst hown hout)
  case overCount => exact refuses (judgeConfirm_overCount hst hown hit hover)
  case accepted =>
    rw [exec_itemConfirm_accepted ha ho rfl rfl hlen (judgeConfirm_accepted hst hown hit hfit)]
    refine congrArg Host.Outcome.next (accepts_congr fun t hnow hconfig => ?_)
    simp only [actConfirm_eq_withStop, confirmItem_eq, hnow, hconfig, parseReceipt_eq, refusalOf]

end Sys2Proof.Machine
end

section
/-! SUPPORT. The settings of the Pass Path: what FRAME_CLASS_WRITE and PASS_MASK_SET read and replace, and how a frame offered later meets the table and the mask (R8, R9, R10, R193, R194). -/
namespace Sys2Proof.Machine

/-! ### The run of a FRAME_CLASS_WRITE -/

/-- A payload without a first type code and a count is no FRAME_CLASS_WRITE (R193). -/
theorem parseFrameClass_short {ops : List Byte} (h : ops.length < 2) : parseFrameClass ops = none := by
  match ops with
  | [] => rfl
  | [_] => rfl
  | _ :: _ :: rest => exact absurd h (Nat.not_lt.mpr (Nat.le_add_left 2 rest.length))

/-- A count outside 1..128, or one that is not the number of class bytes, is malformed (R193). -/
theorem parseFrameClass_badCount {first count : Byte} {bytes : List Byte}
    (h : count = 0 ∨ 128 < count.toNat ∨ bytes.length ≠ count.toNat) : parseFrameClass (first :: count :: bytes) = none := by
  refine if_neg fun ⟨hlow, hhigh, hlen⟩ => ?_
  rcases h with hzero | hover | hne
  · rw [hzero] at hlow
    exact absurd hlow (by decide)
  · exact absurd hhigh (Nat.not_le.mpr hover)
  · exact hne hlen

theorem parseFrameClass_run {first count : Byte} {bytes : List Byte} (hlow : 1 ≤ count.toNat) (hhigh : count.toNat ≤ 128)
    (hlen : bytes.length = count.toNat) : parseFrameClass (first :: count :: bytes) = some (first.toNat, bytes) :=
  if_pos ⟨hlow, hhigh, hlen⟩

/-- An entry of the run takes its class byte, in order (R193). -/
theorem writeClassRun_inside {table : Vector Byte 256} {first : Nat} {bytes : List Byte} {i : Fin 256}
    (h : first ≤ i.val ∧ i.val < first + bytes.length) :
    some (writeClassRun table first bytes)[i] = bytes[i.val - first]? := by
  obtain ⟨hfrom, hto⟩ := h
  have hin : i.val - first < bytes.length := by omega
  simp [writeClassRun, hfrom, List.getElem?_eq_getElem hin]

/-- An entry before the run or after it keeps its class byte (R193). -/
theorem writeClassRun_outside {table : Vector Byte 256} {first : Nat} {bytes : List Byte} {i : Fin 256}
    (h : ¬(first ≤ i.val ∧ i.val < first + bytes.length)) : (writeClassRun table first bytes)[i] = table[i] := by
  by_cases hfrom : first ≤ i.val
  · have hpast : bytes.length ≤ i.val - first := by omega
    simp [writeClassRun, List.getElem?_eq_none hpast]
  · simp [writeClassRun, hfrom]

/-! ### The judgement of FRAME_CLASS_WRITE -/

theorem judgeFrameClassWrite_malformed {ops : List Byte} (h : parseFrameClass ops = none) (s : State) :
    judgeFrameClassWrite ops s = .error .malformed := by
  rw [judgeFrameClassWrite, h]

theorem judgeFrameClassWrite_outOfRange {ops bytes : List Byte} {first : Nat} (h : parseFrameClass ops = some (first, bytes))
    (hpast : 256 < first + bytes.length) (s : State) : judgeFrameClassWrite ops s = .error .outOfRange := by
  simp only [judgeFrameClassWrite, h, if_pos hpast]

theorem judgeFrameClassWrite_ok {ops bytes : List Byte} {first : Nat} (h : parseFrameClass ops = some (first, bytes))
    (hfit : first + bytes.length ≤ 256) (s : State) :
    judgeFrameClassWrite ops s
      = .ok (markNone, [], { s with pass := { s.pass with classTable := writeClassRun s.pass.classTable first bytes } }) := by
  simp only [judgeFrameClassWrite, h, if_neg (Nat.not_lt.mpr hfit)]

/-! ### The test of an offered frame -/

/-- A frame passes when its class byte meets the mask in force (R9). -/
theorem State.passes_iff (s : State) (d : Direction) (f : Frame) :
    s.passes d f = true ↔ s.classByte d f &&& s.maskInForce d ≠ 0 := bne_iff_ne

theorem State.classByte_down (s : State) (f : Frame) : s.classByte .down f = s.pass.classTable[f.typ.toFin] := rfl

/-- A field frame whose source has no override is classed by its type (R8). -/
theorem State.classByte_up_noOverride {s : State} {f : Frame} (h : ∀ e, s.findStation f.src = some e → e.override = none) :
    s.classByte .up f = s.pass.classTable[f.typ.toFin] := by
  unfold State.classByte
  cases hfind : s.findStation f.src with
  | none => rfl
  | some e => simp only [h e hfind, Option.getD_none]

/-- Of the two masks of the up direction the route state selects one (R10). -/
theorem State.maskInForce_up (s : State) :
    s.maskInForce .up = if s.route.state = .noRoute then s.pass.upIdle else s.pass.upRoute := by
  by_cases hroute : s.route.state = .noRoute <;> simp [State.maskInForce, State.onRoute, hroute]

/-- Of the two masks of the down direction the route state selects one (R10). -/
theorem State.maskInForce_down (s : State) :
    s.maskInForce .down = if s.route.state = .noRoute then s.pass.downIdle else s.pass.downRoute := by
  by_cases hroute : s.route.state = .noRoute <;> simp [State.maskInForce, State.onRoute, hroute]

/-- Outside LOCKOUT the class byte and the mask in force decide about a field frame (R9, R11). -/
theorem offerUp_eq {s : State} (hlock : s.store.lockout = false) (k : Marks) (f : Frame) :
    offerUp k f s
      = if s.classByte .up f &&& s.maskInForce .up ≠ 0 then joinFifo .up (annotate k s f) s else holdBack .up s := by
  have hlocked : ¬s.lockedOut = true := Bool.eq_false_iff.mp hlock
  simp only [offerUp, if_neg hlocked, State.passes_iff]

/-- Outside LOCKOUT the class byte and the mask in force decide about a trunk frame (R9, R12). -/
theorem offerDown_eq {s : State} (hlock : s.store.lockout = false) (f : Frame) :
    offerDown f s = if s.classByte .down f &&& s.maskInForce .down ≠ 0 then joinFifo .down f s else holdBack .down s := by
  have hlocked : ¬s.lockedOut = true := Bool.eq_false_iff.mp hlock
  simp only [offerDown, if_neg hlocked, State.passes_iff]

/-! ### The judgement of PASS_MASK_SET -/

theorem judgePassMaskSet_malformed {ops : List Byte} (h : parsePassMask ops = none) (s : State) :
    judgePassMaskSet ops s = .error .malformed := by
  rw [judgePassMaskSet, h]

theorem judgePassMaskSet_ok {ops : List Byte} {n : MaskName} {v : Byte} (h : parsePassMask ops = some (n, v)) (s : State) :
    judgePassMaskSet ops s = .ok (markNone, [], { s with pass := setMask n v s.pass }) := by
  rw [judgePassMaskSet, h]

/-- The operands of PASS_MASK_SET are a name and a value (R194, 13.5). -/
theorem parsePassMask_badLength {ops : List Byte} (h : ops.length ≠ 2) : parsePassMask ops = none := by
  match ops with
  | [] => rfl
  | [_] => rfl
  | [_, _] => exact absurd rfl h
  | _ :: _ :: _ :: _ => rfl

/-- Name codes above 3 name no mask (13.5). -/
theorem parsePassMask_badName {name : Byte} (h : 3 < name.toNat) (v : Byte) : parsePassMask [name, v] = none := by
  have hother {b : Byte} (hb : b.toNat ≤ 3) : name ≠ b := fun heq => absurd h (by rw [heq]; exact Nat.not_lt.mpr hb)
  have hnone : parseMaskName name = none := by
    rw [parseMaskName, if_neg (hother (by decide)), if_neg (hother (by decide)), if_neg (hother (by decide)),
      if_neg (hother (by decide))]
  rw [parsePassMask, hnone, Option.map_none]

/-- A PASS_MASK_SET that names a mask gives that mask the value and changes nothing else of the Pass Path (R194). -/
theorem exec_passMaskSet {s : State} {m : CmdHdr} (h : s.serves m) {name v : Byte} {n : MaskName}
    (hn : parseMaskName name = some n) :
    exec (.passMaskSet m [name, v]) s
      = .next (State.doneBy { s with pass := setMask n v s.pass } cmdPassMaskSet m 0 []) := by
  have hops : parsePassMask [name, v] = some (n, v) := by rw [parsePassMask, hn, Option.map_some]
  exact congrArg Host.Outcome.next
    (gatedArrives_ok (t := { s with pass := setMask n v s.pass }) h (by simp) (judgePassMaskSet_ok hops _) rfl)

/-! ### The statements -/

/-- Settles O44: the operands are read, the run is judged against the end of the table, and the test of a later frame reads the table. -/
theorem frameClassWriteReplacesRun : Obligations.FrameClassWriteReplacesRun := by
  unfold Obligations.FrameClassWriteReplacesRun
  intro s m first count bytes h hbytes
  have hlen : (first :: count :: bytes).length ≤ 239 := by simp only [List.length_cons]; omega
  refine ⟨fun ops hshort => ?short, fun hbad => ?badCount, fun hlow hhigh hcount hpast => ?outOfRange,
    fun hlow hhigh hcount hfit => ?written, fun t f => ⟨?down, fun hover => ?up⟩⟩
  case short =>
    have hops : ops.length ≤ 239 := by omega
    exact congrArg Host.Outcome.next
      (gatedArrives_error h hops (judgeFrameClassWrite_malformed (parseFrameClass_short hshort) _))
  case badCount =>
    exact congrArg Host.Outcome.next
      (gatedArrives_error h hlen (judgeFrameClassWrite_malformed (parseFrameClass_badCount hbad) _))
  case outOfRange =>
    rw [← hcount] at hpast
    exact congrArg Host.Outcome.next
      (gatedArrives_error h hlen (judgeFrameClassWrite_outOfRange (parseFrameClass_run hlow hhigh hcount) hpast _))
  case written =>
    have hparse := parseFrameClass_run (first := first) hlow hhigh hcount
    rw [← hcount] at hfit ⊢
    refine ⟨writeClassRun s.pass.classTable first.toNat bytes, congrArg Host.Outcome.next ?_,
      fun i => ⟨writeClassRun_inside, writeClassRun_outside⟩⟩
    exact gatedArrives_ok
      (t := { s with pass := { s.pass with classTable := writeClassRun s.pass.classTable first.toNat bytes } })
      h hlen (judgeFrameClassWrite_ok hparse hfit _) rfl
  case down => rw [State.passes_iff, State.classByte_down]
  case up => rw [State.passes_iff, State.classByte_up_noOverride hover]

/-- Settles O45: each of the four names reaches its mask, every other payload is malformed, and the offers of later frames meet the mask of the route state. -/
theorem passMaskSetReplacesMask : Obligations.PassMaskSetReplacesMask := by
  unfold Obligations.PassMaskSetReplacesMask
  intro s m v h
  refine ⟨exec_passMaskSet h (n := .upRoute) rfl, exec_passMaskSet h (n := .upIdle) rfl,
    exec_passMaskSet h (n := .downRoute) rfl, exec_passMaskSet h (n := .downIdle) rfl,
    fun name hname => ?badName, fun ops hne hlen => ?badLength, fun t f k hlock => ⟨?up, ?down⟩⟩
  case badName =>
    exact congrArg Host.Outcome.next
      (gatedArrives_error h (by simp) (judgePassMaskSet_malformed (parsePassMask_badName hname v) _))
  case badLength =>
    exact congrArg Host.Outcome.next
      (gatedArrives_error h hlen (judgePassMaskSet_malformed (parsePassMask_badLength hne) _))
  case up => rw [offerUp_eq hlock, State.maskInForce_up]
  case down => rw [offerDown_eq hlock, State.maskInForce_down]

end Sys2Proof.Machine
end

section
/-! SUPPORT. The settings of the Alert Unit: what ALERT_LEVEL_WRITE and ALERT_MASK_SET replace and refuse, and how a raise is judged by them (R16, R182 to R185, R195). -/
namespace Sys2Proof.Machine

/-! ### The judgement of ALERT_LEVEL_WRITE -/

theorem judgeAlertLevelWrite_malformed {ops : List Byte} (h : ops.length ≠ 2) (s : State) :
    judgeAlertLevelWrite ops s = .error .malformed := by
  match ops with
  | [] => rfl
  | [_] => rfl
  | [_, _] => exact absurd rfl h
  | _ :: _ :: _ :: _ => rfl

theorem judgeAlertLevelWrite_outOfRange {code level : Byte} (h : code = 0 ∨ 21 < code.toNat ∨ 7 < level.toNat) (s : State) :
    judgeAlertLevelWrite [code, level] s = .error .outOfRange := by
  refine dif_neg fun ⟨hindex, hnonzero, hlevel⟩ => ?_
  rcases h with hzero | hcode | hover
  · exact hnonzero hzero
  · omega
  · omega

/-- The code of table place i has its level replaced, and its raises, pending count and last frame kept (R195). -/
theorem judgeAlertLevelWrite_ok {code level : Byte} {i : Fin 21} (hcode : code.toNat = i.val + 1) (hlevel : level.toNat ≤ 7)
    (s : State) :
    judgeAlertLevelWrite [code, level] s
      = .ok (markNone, [], { s with alerts := { s.alerts with
          table := s.alerts.table.set i.val { s.alerts.table[i] with level := level.toNat } } }) := by
  have hplace : code.toNat - 1 = i.val := by omega
  have hnonzero : code ≠ 0 := fun hzero => by simp [hzero] at hcode
  have hin : code.toNat - 1 < 21 ∧ code ≠ 0 ∧ level.toNat ≤ 7 := ⟨by omega, hnonzero, hlevel⟩
  rw [judgeAlertLevelWrite, dif_pos hin]
  simp only [hplace, Fin.getElem_fin]

/-! ### The judgement of ALERT_MASK_SET -/

theorem judgeAlertMaskSet_malformed {ops : List Byte} (h : ops.length ≠ 1) (s : State) :
    judgeAlertMaskSet ops s = .error .malformed := by
  match ops with
  | [] => rfl
  | [_] => exact absurd rfl h
  | _ :: _ :: _ => rfl

theorem judgeAlertMaskSet_outOfRange {level : Byte} (h : 7 < level.toNat) (s : State) :
    judgeAlertMaskSet [level] s = .error .outOfRange := if_neg (Nat.not_le.mpr h)

theorem judgeAlertMaskSet_ok {level : Byte} (h : level.toNat ≤ 7) (s : State) :
    judgeAlertMaskSet [level] s
      = .ok (markNone, [], { s with alerts := { s.alerts with mask := level.toNat } }) := if_pos h

/-! ### The judgement of a raise -/

/-- A raise qualifies when its level is not 0 and is above the mask level, or is 7 (R183). -/
theorem levelQualifies_iff (mask level : Nat) :
    levelQualifies mask level = true ↔ level ≠ 0 ∧ (mask < level ∨ level = 7) := by
  simp [levelQualifies]

/-- A raise that its level disqualifies forms no frame, whatever its holdoff (R183). -/
theorem alertForms_eq_false {s : State} {k : AlertCode}
    (h : (s.alertEntry k).level = 0 ∨ (s.alertEntry k).level ≤ s.alerts.mask ∧ (s.alertEntry k).level ≠ 7) :
    s.alertForms k = false := by
  have hfails : levelQualifies s.alerts.mask (s.alertEntry k).level = false := by
    rw [Bool.eq_false_iff, ne_eq, levelQualifies_iff]
    omega
  rw [State.alertForms, hfails, Bool.false_and]

/-- A raise that qualifies by level forms a frame where no earlier frame of its code holds it off (R183, R184). -/
theorem alertForms_of_noLastFrame {s : State} {k : AlertCode} (hnonzero : (s.alertEntry k).level ≠ 0)
    (habove : s.alerts.mask < (s.alertEntry k).level ∨ (s.alertEntry k).level = 7) (hlast : (s.alertEntry k).lastFrame = none) :
    s.alertForms k = true := by
  have hlevel := (levelQualifies_iff s.alerts.mask (s.alertEntry k).level).mpr ⟨hnonzero, habove⟩
  rw [State.alertForms, hlevel, hlast, holdoffPassed, Bool.and_self]

/-- A raise that forms no frame leaves the ports alone (R185). -/
theorem raise_ports_of_noFrame {s : State} {k : AlertCode} (h : s.alertForms k = false) (subj : Subject) (v : Option Int) :
    (raise k subj v s).ports = s.ports := by
  simp [raise, h]

/-- The frame that a raise forms joins the tail of an alert queue with a free place, and none is dropped (R16, R185). -/
theorem raise_ports_of_frame {s : State} {k : AlertCode} (h : s.alertForms k = true) (hroom : s.alertRoom = true)
    (subj : Subject) (v : Option Int) :
    (raise k subj v s).ports = { s.ports with alertQueue := s.ports.alertQueue ++ [s.alertFrame k subj v] } := by
  simp [raise, h, hroom]

/-! ### The statement -/

/-- Settles O46: both commands meet their checks in order and replace one setting each, and a raise is judged by the level and the mask it finds. -/
theorem alertSettingsAreReplaced : Obligations.AlertSettingsAreReplaced := by
  unfold Obligations.AlertSettingsAreReplaced
  intro s m h
  refine ⟨fun i code level hcode hlevel => ?level, fun code level hout => ?levelOutOfRange, fun ops hne hlen => ?levelMalformed,
    fun level hlevel => ?mask, fun level hout => ?maskOutOfRange, fun ops hne hlen => ?maskMalformed,
    fun t k subj v => ⟨fun hfails => ?noFrame, fun hnonzero habove hlast hroom => ?frame⟩⟩
  case level =>
    exact congrArg Host.Outcome.next (gatedArrives_ok
      (t := { s with alerts := { s.alerts with
        table := s.alerts.table.set i.val { s.alerts.table[i] with level := level.toNat } } })
      h (by simp) (judgeAlertLevelWrite_ok hcode hlevel _) rfl)
  case levelOutOfRange =>
    exact congrArg Host.Outcome.next (gatedArrives_error h (by simp) (judgeAlertLevelWrite_outOfRange hout _))
  case levelMalformed =>
    exact congrArg Host.Outcome.next (gatedArrives_error h hlen (judgeAlertLevelWrite_malformed hne _))
  case mask =>
    exact congrArg Host.Outcome.next (gatedArrives_ok (t := { s with alerts := { s.alerts with mask := level.toNat } })
      h (by simp) (judgeAlertMaskSet_ok hlevel _) rfl)
  case maskOutOfRange =>
    exact congrArg Host.Outcome.next (gatedArrives_error h (by simp) (judgeAlertMaskSet_outOfRange hout _))
  case maskMalformed =>
    exact congrArg Host.Outcome.next (gatedArrives_error h hlen (judgeAlertMaskSet_malformed hne _))
  case noFrame => exact raise_ports_of_noFrame (alertForms_eq_false hfails) subj v
  case frame =>
    have hforms := alertForms_of_noLastFrame hnonzero habove hlast
    exact raise_ports_of_frame hforms (decide_eq_true hroom) subj v

end Sys2Proof.Machine
end

section
/-! SUPPORT. What the operations of the Proof Store and the Claim Unit make of the agreement of slots, fill list and reservations, of the records held, of the recovery and of the claims (R146 to R149, R155 to R161, R178). -/
namespace Sys2Proof.Machine

/-! ### Soundness for a list of reservations -/

/-- l holds no slot more often than m does, in whatever order. -/
def Within (l m : List (Fin 256)) : Prop := ∀ i, l.count i ≤ m.count i

theorem Within.of_perm {l m : List (Fin 256)} (h : l.Perm m) : Within l m := fun i => Nat.le_of_eq (h.count_eq i)

theorem Within.of_sublist {l m : List (Fin 256)} (h : l.Sublist m) : Within l m := fun i => h.count_le i

theorem Within.tail (i : Fin 256) (l : List (Fin 256)) : Within l (i :: l) := .of_sublist (List.sublist_cons_self i l)

theorem Within.trans {l m n : List (Fin 256)} (h : Within l m) (k : Within m n) : Within l n := fun i => Nat.le_trans (h i) (k i)

theorem Within.append_right {l m : List (Fin 256)} (h : Within l m) (n : List (Fin 256)) : Within (l ++ n) (m ++ n) := fun i => by
  rw [List.count_append, List.count_append]
  exact Nat.add_le_add_right (h i) _

theorem Within.mem {l m : List (Fin 256)} (h : Within l m) {i : Fin 256} (hi : i ∈ l) : i ∈ m :=
  List.count_pos_iff.1 (Nat.lt_of_lt_of_le (List.count_pos_iff.2 hi) (h i))

/-- A list within one without repeats has none. -/
theorem Within.nodup {l m : List (Fin 256)} (h : Within l m) (hm : m.Nodup) : l.Nodup :=
  List.nodup_iff_count.2 fun i => Nat.le_trans (h i) (List.nodup_iff_count.1 hm i)

/-- The store is sound when the reservations held are those of L: what StoreSound says, for owners that are counted apart. -/
structure State.SoundFor (s : State) (L : List (Fin 256)) : Prop where
  once : s.store.fillList.Nodup
  listed : ∀ i : Fin 256, (s.slot i).header?.isSome = true ↔ i ∈ s.store.fillList
  apart : L.Nodup
  held : ∀ i ∈ L, s.slot i = .reserved
  number : 1 ≤ s.store.nextNumber ∧ s.store.nextNumber ≤ 65535

/-- The reservations of the drops and of the route. -/
def State.owned (s : State) : List (Fin 256) := s.drops.filterMap (·.reservation) ++ s.route.reservation.toList

/-- The reservations of the claims. -/
def State.claimSlots (s : State) : List (Fin 256) := s.claims.queue.map (·.reservation)

theorem storeSound_iff (s : State) : s.StoreSound ↔ s.SoundFor (s.owned ++ s.claimSlots) :=
  ⟨fun ⟨h1, h2, h3, h4, h5⟩ => ⟨h1, h2, h3, h4, h5⟩, fun h => ⟨h.once, h.listed, h.apart, h.held, h.number⟩⟩

theorem State.SoundFor.congr {s t : State} {L : List (Fin 256)} (h : s.SoundFor L) (ht : t.store = s.store) : t.SoundFor L := by
  have hslot : ∀ i, t.slot i = s.slot i := State.slot_congr (by rw [ht])
  exact ⟨by rw [ht]; exact h.once, fun i => by rw [hslot, ht]; exact h.listed i, h.apart,
    fun i hi => by rw [hslot]; exact h.held i hi, by rw [ht]; exact h.number⟩

/-- Fewer reservations, in whatever order, are sound as well. -/
theorem State.SoundFor.mono {s : State} {L M : List (Fin 256)} (h : s.SoundFor L) (hs : Within M L) : s.SoundFor M :=
  ⟨h.once, h.listed, hs.nodup h.apart, fun i hi => h.held i (hs.mem hi), h.number⟩

/-- A reserved slot holds no record. -/
theorem State.SoundFor.not_mem_of_header {s : State} {L : List (Fin 256)} (h : s.SoundFor L) {i : Fin 256}
    (hi : (s.slot i).header?.isSome = true) : i ∉ L := fun hm => by
  rw [h.held i hm] at hi; exact absurd hi (by simp [Slot.header?])

theorem State.SoundFor.not_mem_of_free {s : State} {L : List (Fin 256)} (h : s.SoundFor L) {i : Fin 256}
    (hi : s.slot i = .free) : i ∉ L := fun hm => by
  rw [h.held i hm] at hi; exact absurd hi (by simp)

/-- The slot of a record takes another form of the record. -/
theorem State.SoundFor.setSlot_record {s : State} {L : List (Fin 256)} (h : s.SoundFor L) {i : Fin 256} {v : Slot}
    (hi : (s.slot i).header?.isSome = true) (hv : v.header?.isSome = true) : (s.setSlot i v).SoundFor L where
  once := h.once
  listed j := by
    rw [State.setSlot_slot]
    split
    · next e => subst e; exact ⟨fun _ => (h.listed j).1 hi, fun _ => hv⟩
    · exact h.listed j
  apart := h.apart
  held j hj := by
    have hne : j ≠ i := fun e => h.not_mem_of_header hi (e ▸ hj)
    rw [State.setSlot_slot, if_neg hne]
    exact h.held j hj
  number := h.number

/-- A slot without a record takes another value without a record; it may be held afterwards when it is reserved then. -/
theorem State.SoundFor.setSlot_plain {s : State} {L M : List (Fin 256)} (h : s.SoundFor L) {i : Fin 256} {v : Slot}
    (hi : (s.slot i).header? = none) (hv : v.header? = none) (hM : M.Nodup)
    (hheld : ∀ j ∈ M, j = i ∧ v = .reserved ∨ j ≠ i ∧ j ∈ L) : (s.setSlot i v).SoundFor M where
  once := h.once
  listed j := by
    rw [State.setSlot_slot]
    split
    · next e => subst e; rw [hv, ← hi]; exact h.listed j
    · exact h.listed j
  apart := hM
  held j hj := by
    rw [State.setSlot_slot]
    rcases hheld j hj with ⟨e, hr⟩ | ⟨e, hm⟩
    · rw [if_pos e, hr]
    · rw [if_neg e]; exact h.held j hm
  number := h.number

/-- A record is written into a slot that holds none and is no other owner's. -/
theorem State.SoundFor.writeRecord {s : State} {L : List (Fin 256)} (h : s.SoundFor L) {i : Fin 256}
    (hi : (s.slot i).header? = none) (hL : i ∉ L) (b : RecordBody) : (writeRecord i b s).SoundFor L := by
  have hnew : i ∉ s.store.fillList := fun hm => by simpa [hi] using (h.listed i).2 hm
  have hslot : ∀ j, (Machine.writeRecord i b s).slot j = if j = i then .filled (s.fillHeader b) b else s.slot j :=
    fun j => State.setSlot_slot s i j _
  refine ⟨?_, fun j => ?_, h.apart, fun j hj => ?_, nextNumber_range h.number⟩
  · exact List.nodup_append.2 ⟨h.once, List.nodup_cons.2 ⟨List.not_mem_nil, List.nodup_nil⟩, fun a ha b hb e => hnew (by simp_all)⟩
  · rw [hslot]
    have hmem : j ∈ (Machine.writeRecord i b s).store.fillList ↔ j ∈ s.store.fillList ∨ j = i := by
      simp [Machine.writeRecord]
    rw [hmem]
    split
    · next e => simp [e, Slot.header?]
    · next e => simp [e, h.listed j]
  · have hne : j ≠ i := fun e => hL (e ▸ hj)
    rw [hslot, if_neg hne]; exact h.held j hj

/-! ### Records are kept -/

/-- What a slot that holds a record may become while the record is held: the record, fetched or not, or its header alone. -/
def Slot.Keeps : Slot → Slot → Prop
  | .filled h b, x => x = .filled h b ∨ x = .taken h b ∨ ∃ f, x = .corrupt h f
  | .taken h b, x => x = .taken h b ∨ x = .corrupt h true
  | .corrupt h f, x => x = .corrupt h f ∨ x = .corrupt h true
  | _, _ => True

theorem Slot.Keeps.refl (a : Slot) : a.Keeps a := by cases a <;> simp [Slot.Keeps]

theorem Slot.Keeps.trans {a b c : Slot} (h : a.Keeps b) (k : b.Keeps c) : a.Keeps c := by
  cases a with
  | free => trivial
  | reserved => trivial
  | filled hd x =>
    rcases h with rfl | rfl | ⟨f, rfl⟩
    · exact k
    · rcases k with rfl | rfl <;> simp [Slot.Keeps]
    · rcases k with rfl | rfl <;> simp [Slot.Keeps]
  | taken hd x =>
    rcases h with rfl | rfl
    · exact k
    · rcases k with rfl | rfl <;> simp [Slot.Keeps]
  | corrupt hd f =>
    rcases h with rfl | rfl
    · exact k
    · rcases k with rfl | rfl <;> simp [Slot.Keeps]

/-- A slot without a record keeps none. -/
theorem Slot.Keeps.of_plain {a : Slot} (h : a.header? = none) (b : Slot) : a.Keeps b := by
  cases a with
  | free => trivial
  | reserved => trivial
  | filled hd x => exact absurd h (by simp [Slot.header?])
  | taken hd x => exact absurd h (by simp [Slot.header?])
  | corrupt hd f => exact absurd h (by simp [Slot.header?])

/-- Every slot keeps its record. -/
def RecordsKept (s t : State) : Prop := ∀ i, (s.slot i).Keeps (t.slot i)

theorem RecordsKept.of_slots {s t : State} (h : t.store.slots = s.store.slots) : RecordsKept s t := fun i => by
  rw [State.slot_congr h]; exact .refl _

theorem RecordsKept.setSlot {s : State} {i : Fin 256} {v : Slot} (h : (s.slot i).Keeps v) : RecordsKept s (s.setSlot i v) :=
  fun j => by
    rw [State.setSlot_slot]
    split
    · next e => subst e; exact h
    · exact .refl _

/-! ### Work on the store -/

/-- No recovery is under way in LOCKOUT. -/
def State.NoLockedRecovery (s : State) : Prop := s.store.lockout = true → s.store.recovery = none

/-- What work on the store keeps, R being the reservations of drops and route before it and R' those after it. -/
structure StoreWork (R R' : List (Fin 256)) (s t : State) : Prop where
  sound : s.SoundFor (R ++ s.claimSlots) → t.SoundFor (R' ++ t.claimSlots)
  records : s.SoundFor (R ++ s.claimSlots) → RecordsKept s t
  recovery : s.NoLockedRecovery → t.NoLockedRecovery
  claims : t.claims.queue.length ≤ s.claims.queue.length

theorem StoreWork.trans {R R' R'' : List (Fin 256)} {s t u : State} (h : StoreWork R R' s t) (k : StoreWork R' R'' t u) :
    StoreWork R R'' s u where
  sound := k.sound ∘ h.sound
  records hs i := (h.records hs i).trans (k.records (h.sound hs) i)
  recovery := k.recovery ∘ h.recovery
  claims := Nat.le_trans k.claims h.claims

/-- A change that leaves the store and the reservations of the claims. -/
theorem StoreWork.of_same {s t : State} (R : List (Fin 256)) (hs : t.store = s.store) (hc : t.claimSlots = s.claimSlots) :
    StoreWork R R s t where
  sound h := by rw [hc]; exact h.congr hs
  records _ := .of_slots (by rw [hs])
  recovery h := by simpa only [State.NoLockedRecovery, hs] using h
  claims := by simpa [State.claimSlots] using Nat.le_of_eq (congrArg List.length hc)

theorem StoreWork.refl (R : List (Fin 256)) (s : State) : StoreWork R R s s := .of_same R rfl rfl

/-- A change of the store's counts and marks alone, outside LOCKOUT or without a recovery. -/
theorem StoreWork.of_marks {s t : State} (R : List (Fin 256)) (hslots : t.store.slots = s.store.slots)
    (hfill : t.store.fillList = s.store.fillList) (hnum : t.store.nextNumber = s.store.nextNumber)
    (hrec : s.NoLockedRecovery → t.NoLockedRecovery) (hc : t.claimSlots = s.claimSlots) : StoreWork R R s t where
  sound h := by
    have hslot : ∀ i, t.slot i = s.slot i := State.slot_congr hslots
    exact hc ▸ ⟨by rw [hfill]; exact h.once, fun i => by rw [hslot, hfill]; exact h.listed i, h.apart,
      fun i hi => by rw [hslot]; exact h.held i hi, by rw [hnum]; exact h.number⟩
  records _ := .of_slots hslots
  recovery := hrec
  claims := by simpa [State.claimSlots] using Nat.le_of_eq (congrArg List.length hc)

theorem raise_work (R : List (Fin 256)) (k : AlertCode) (x : Subject) (v : Option Int) (s : State) :
    StoreWork R R s (raise k x v s) := .of_same R rfl rfl

theorem updClaimCounts_work (R : List (Fin 256)) (f : ClaimCounts → ClaimCounts) (s : State) :
    StoreWork R R s (s.updClaimCounts f) := .of_same R rfl rfl

theorem updStoreCounts_work (R : List (Fin 256)) (f : StoreCounts → StoreCounts) (s : State) :
    StoreWork R R s (s.updStoreCounts f) := .of_marks R rfl rfl rfl id rfl

theorem offerReply_work (R : List (Fin 256)) (p : Port) (f : QFrame) (s : State) : StoreWork R R s (offerReply p f s) := by
  rw [offerReply_only]; exact .of_same R rfl rfl

theorem afterRead_work (R : List (Fin 256)) (s : State) : StoreWork R R s s.afterRead := .of_same R rfl rfl

theorem storeLowCheck_work (R : List (Fin 256)) (s : State) : StoreWork R R s (storeLowCheck s) := by
  unfold storeLowCheck; split
  · exact raise_work R _ _ _ s
  · exact .refl R s

theorem foldl_work {α : Type} {f : State → α → State} {R : List (Fin 256)} (h : ∀ s a, StoreWork R R s (f s a)) (l : List α)
    (s : State) : StoreWork R R s (l.foldl f s) := by
  induction l generalizing s with
  | nil => exact .refl R s
  | cons a l ih => exact (h s a).trans (ih _)

/-! ### Aborting claims -/

/-- The head claim's reservation goes back, and the claim leaves the queue (R178). -/
theorem abortClaim_work {s : State} {k : Claim} {ks : List Claim} (hq : s.claims.queue = k :: ks) (R : List (Fin 256)) :
    StoreWork R R s (abortClaim k s) ∧ (abortClaim k s).claims.queue = ks := by
  have hbase : StoreWork R R s
      { handBack k.reservation s with claims := { s.claims with queue := s.claims.queue.tail } } := by
    have hmem : s.claimSlots = k.reservation :: ks.map (·.reservation) := by simp [State.claimSlots, hq]
    have hmem' : State.claimSlots { handBack k.reservation s with claims := { s.claims with queue := s.claims.queue.tail } }
        = ks.map (·.reservation) := by simp [State.claimSlots, hq]
    have hres : s.SoundFor (R ++ s.claimSlots) → s.slot k.reservation = .reserved := fun h =>
      h.held _ (by simp [hmem])
    refine ⟨fun h => ?_, fun h => ?_, id, by simp [hq]⟩
    · rw [hmem']
      have hn := h.apart
      rw [hmem] at hn
      obtain ⟨hout, hrest⟩ := List.nodup_cons.1 (List.perm_middle.nodup_iff.1 hn)
      refine (h.setSlot_plain (i := k.reservation) (v := .free) (M := R ++ ks.map (·.reservation)) (by rw [hres h]; rfl) rfl hrest
        fun j hj => .inr ⟨fun e => hout (e ▸ hj), ?_⟩).congr rfl
      rw [hmem]
      rcases List.mem_append.1 hj with hj | hj
      · exact List.mem_append_left _ hj
      · exact List.mem_append_right _ (List.mem_cons_of_mem _ hj)
    · exact RecordsKept.setSlot (.of_plain (by rw [hres h]; rfl) _)
  refine ⟨?_, ?_⟩
  · unfold abortClaim sendClaimAnswer
    exact hbase.trans ((offerReply_work R _ _ _).trans (updClaimCounts_work R _ _))
  · simp only [abortClaim, sendClaimAnswer, State.updClaimCounts]
    rw [offerReply_only]
    simp [handBack, hq]

theorem foldl_abortClaim_work (R : List (Fin 256)) (ks : List Claim) (s : State) (hq : s.claims.queue = ks) :
    StoreWork R R s (ks.foldl (fun s k => abortClaim k s) s) ∧ (ks.foldl (fun s k => abortClaim k s) s).claims.queue = [] := by
  induction ks generalizing s with
  | nil => exact ⟨.refl R s, hq⟩
  | cons k ks ih =>
    obtain ⟨hwork, hrest⟩ := abortClaim_work hq R
    obtain ⟨iwork, iempty⟩ := ih _ hrest
    exact ⟨hwork.trans iwork, iempty⟩

theorem abortClaims_work (R : List (Fin 256)) (s : State) : StoreWork R R s (abortClaims s) :=
  (foldl_abortClaim_work R _ s rfl).1

/-- No claim is left when the claims are aborted (R178). -/
theorem abortClaims_queue (s : State) : (abortClaims s).claims.queue = [] := (foldl_abortClaim_work [] _ s rfl).2

theorem sweepClaims_work (R : List (Fin 256)) (s : State) : StoreWork R R s (sweepClaims s) := by
  unfold sweepClaims; split
  · exact abortClaims_work R s
  · exact .refl R s

/-- The abort of the claims leaves all of the store but slots. -/
theorem abortClaims_store (s : State) : (abortClaims s).store = { s.store with slots := (abortClaims s).store.slots } := by
  have h : ∀ (ks : List Claim) (s : State), (ks.foldl (fun s k => abortClaim k s) s).store
      = { s.store with slots := (ks.foldl (fun s k => abortClaim k s) s).store.slots } := by
    intro ks
    induction ks with
    | nil => exact fun _ => rfl
    | cons k ks ih =>
      intro s
      have hone : (abortClaim k s).store = { s.store with slots := (abortClaim k s).store.slots } := by
        simp only [abortClaim, sendClaimAnswer, State.updClaimCounts]
        rw [offerReply_only]; rfl
      rw [List.foldl_cons, ih, hone]
  exact h _ s

/-- The sweep after an entry into LOCKOUT leaves no claim there. -/
theorem sweepClaims_settles {s : State} (h : s.NoLockedRecovery) : (sweepClaims s).LockoutSettled := by
  unfold sweepClaims; split
  · intro hl
    refine ⟨?_, abortClaims_queue s⟩
    rw [abortClaims_store] at hl ⊢
    exact h hl
  · next hn => exact fun hl => absurd hl hn

theorem LockoutSettled_of_unlocked {s : State} (h : s.store.lockout = false) : s.LockoutSettled := fun hl => by
  rw [h] at hl; exact absurd hl (by simp)

theorem State.LockoutSettled.noLockedRecovery {s : State} (h : s.LockoutSettled) : s.NoLockedRecovery := fun hl => (h hl).1

/-! ### Detections and fills -/

theorem enterLockout_work (R : List (Fin 256)) (src : FaultSource) (s : State) : StoreWork R R s (enterLockout src s) :=
  .trans (t := { s with store := { s.store with lockout := true, recovery := none } })
    (.of_marks R rfl rfl rfl (fun _ _ => rfl) rfl) (raise_work R _ _ _ _)

theorem detectFault_work (R : List (Fin 256)) (src : FaultSource) (i : Fin 256) (n : Nat) (k : RecordKind) (s : State) :
    StoreWork R R s (detectFault src i n k s) := by
  have h : StoreWork R R s _ := (raise_work R .storeFault (.slot i) (some (sourceCode src).toNat) s).trans
    (updStoreCounts_work R (countFault src) _)
  unfold detectFault
  dsimp only
  split
  · exact h
  · next hl =>
    split
    · exact h.trans (enterLockout_work R _ _)
    · exact h.trans (.of_marks R rfl rfl rfl (fun _ hl' => absurd hl' hl) rfl)

@[simp] theorem detectFault_claims (src : FaultSource) (i : Fin 256) (n : Nat) (k : RecordKind) (s : State) :
    (detectFault src i n k s).claims = s.claims := by
  unfold detectFault
  dsimp only
  split
  · rfl
  · split <;> rfl

@[simp] theorem storeLowCheck_claims (s : State) : (storeLowCheck s).claims = s.claims := by
  unfold storeLowCheck; split <;> rfl

@[simp] theorem storeLowCheck_store (s : State) : (storeLowCheck s).store = s.store := by
  unfold storeLowCheck; split <;> rfl

@[simp] theorem verifyFill_claims (i : Fin 256) (h : RecordHeader) (s : State) : (verifyFill i h s).claims = s.claims := by
  unfold verifyFill; split
  · rw [detectFault_claims]; rfl
  · rfl

@[simp] theorem fillCore_claims (i : Fin 256) (b : RecordBody) (s : State) : (fillCore i b s).claims = s.claims := by
  rw [fillCore, verifyFill_claims]; rfl

/-- A record's slot becomes CORRUPT and the detection is taken (R155, R159). -/
theorem corruptSlot_work (R : List (Fin 256)) {s : State} {i : Fin 256} {hd : RecordHeader} {f : Bool}
    (hk : (s.slot i).Keeps (.corrupt hd f)) (hi : (s.slot i).header?.isSome = true) :
    StoreWork R R s (s.setSlot i (.corrupt hd f)) where
  sound h := h.setSlot_record hi rfl
  records _ := .setSlot hk
  recovery := id
  claims := Nat.le_refl _

/-- The verify of a record just written (R155). -/
theorem verifyFill_work (R : List (Fin 256)) {s : State} {i : Fin 256} {hd : RecordHeader} {b : RecordBody}
    (hi : s.slot i = .filled hd b) : StoreWork R R s (verifyFill i hd s) := by
  unfold verifyFill; split
  · have hc : StoreWork R R s.afterRead (s.afterRead.setSlot i (.corrupt hd false)) :=
      corruptSlot_work R (by rw [State.afterRead_read_slot, hi]; exact .inr (.inr ⟨_, rfl⟩))
        (by rw [State.afterRead_read_slot, hi]; rfl)
    exact (((afterRead_work R s).trans hc).trans (updStoreCounts_work R _ _)).trans (detectFault_work R _ _ _ _ _)
  · exact afterRead_work R s

/-- A record is written into a slot that holds none and whose owner, when it has one, gives it up (R149). -/
theorem writeRecord_work {R R' : List (Fin 256)} {s : State} {i : Fin 256}
    (hi : s.SoundFor (R ++ s.claimSlots) → (s.slot i).header? = none) (hR : Within R' R)
    (hout : s.SoundFor (R ++ s.claimSlots) → i ∉ R' ++ s.claimSlots) (b : RecordBody) :
    StoreWork R R' s (writeRecord i b s) where
  sound h := (h.mono (hR.append_right _)).writeRecord (hi h) (hout h) b
  records h := .setSlot (.of_plain (hi h) _)
  recovery := id
  claims := Nat.le_refl _

theorem writeRecord_slot (i : Fin 256) (b : RecordBody) (s : State) :
    (writeRecord i b s).slot i = .filled (s.fillHeader b) b := State.setSlot_slot_self s i _

/-- A fill into a reservation that its owner gives up, and a fill into a FREE slot, claims not yet swept (R149). -/
theorem fillCore_work {R R' : List (Fin 256)} {s : State} {i : Fin 256}
    (hi : s.SoundFor (R ++ s.claimSlots) → (s.slot i).header? = none) (hR : Within R' R)
    (hout : s.SoundFor (R ++ s.claimSlots) → i ∉ R' ++ s.claimSlots) (b : RecordBody) :
    StoreWork R R' s (fillCore i b s) :=
  (writeRecord_work hi hR hout b).trans (verifyFill_work R' (writeRecord_slot i b s))

/-- A fill into a reservation of a drop or the route (R149). -/
theorem fillReserved_work {R R' : List (Fin 256)} {i : Fin 256} (hR : Within (i :: R') R) (b : RecordBody) (s : State) :
    StoreWork R R' s (fillReserved i b s) := by
  have hsub : Within R' R := (Within.tail i R').trans hR
  refine (fillCore_work (fun h => ?_) hsub (fun h => ?_) b).trans (sweepClaims_work R' _)
  · rw [h.held i (List.mem_append_left _ (hR.mem List.mem_cons_self))]; rfl
  · have hn : (i :: R' ++ s.claimSlots).Nodup := (hR.append_right _).nodup h.apart
    exact (List.nodup_cons.1 hn).1

/-- A fill into a FREE slot (R149). -/
theorem fillFree_work (R : List (Fin 256)) {s : State} {i : Fin 256} (hi : s.slot i = .free) (b : RecordBody) :
    StoreWork R R s (fillFree i b s) := by
  have hw : StoreWork R R s (writeRecord i b s) :=
    writeRecord_work (fun _ => by rw [hi]; rfl) (.of_perm (.refl R)) (fun h => h.not_mem_of_free hi) b
  have hslot : (storeLowCheck (writeRecord i b s)).slot i = .filled (s.fillHeader b) b := by
    rw [State.slot_congr (s := writeRecord i b s) (by rw [storeLowCheck_store]), writeRecord_slot]
  exact ((hw.trans (storeLowCheck_work R _)).trans (verifyFill_work R hslot)).trans (sweepClaims_work R _)

theorem fillReserved_settles (i : Fin 256) (b : RecordBody) {s : State} (hs : s.NoLockedRecovery) :
    (fillReserved i b s).LockoutSettled := by
  refine sweepClaims_settles ?_
  exact (verifyFill_work [] (writeRecord_slot i b s)).recovery (s := writeRecord i b s) hs

theorem fillFree_settles (i : Fin 256) (b : RecordBody) {s : State} (hs : s.NoLockedRecovery) :
    (fillFree i b s).LockoutSettled := by
  have hslot : (storeLowCheck (writeRecord i b s)).slot i = .filled (s.fillHeader b) b := by
    rw [State.slot_congr (s := writeRecord i b s) (by rw [storeLowCheck_store]), writeRecord_slot]
  refine sweepClaims_settles ((verifyFill_work [] hslot).recovery ?_)
  exact (storeLowCheck_work [] _).recovery (s := writeRecord i b s) hs

/-! ### The end of a recovery -/

/-- The FREE slot of the lowest index is FREE. -/
theorem State.lowestFree_slot {s : State} {i : Fin 256} (h : s.lowestFree = some i) : s.slot i = .free := by
  have hfree : (s.slot i).isFree = true := by simpa using List.find?_some h
  cases hs : s.slot i with
  | free => rfl
  | reserved => simp [hs, Slot.isFree] at hfree
  | filled hd b => simp [hs, Slot.isFree] at hfree
  | taken hd b => simp [hs, Slot.isFree] at hfree
  | corrupt hd f => simp [hs, Slot.isFree] at hfree

theorem endRecovery_work (R : List (Fin 256)) (r : Recovery) (s : State) : StoreWork R R s (endRecovery r s) := by
  unfold endRecovery
  split
  · exact .of_marks R rfl rfl rfl (fun _ _ => rfl) rfl
  · next i hi =>
    dsimp only
    have hfill := fillFree_work R (State.lowestFree_slot hi) (storeFaultBody r s.store.counts.faults (s.freeCount - 1))
    split
    · exact hfill
    · exact hfill.trans (.of_marks R rfl rfl rfl (fun _ _ => rfl) rfl)

theorem endRecovery_settles (r : Recovery) {s : State} (hs : s.LockoutSettled) : (endRecovery r s).LockoutSettled := by
  unfold endRecovery
  split
  · exact fun hl => ⟨rfl, (hs hl).2⟩
  · dsimp only
    split
    · exact fillFree_settles _ _ hs.noLockedRecovery
    · next hn => exact fun hl => absurd hl hn

theorem recoveryDue_work (R : List (Fin 256)) (s : State) : StoreWork R R s (recoveryDue s) := by
  unfold recoveryDue
  split
  · split
    · exact endRecovery_work R _ s
    · exact .refl R s
  · exact .refl R s

theorem recoveryDue_settles {s : State} (hs : s.LockoutSettled) : (recoveryDue s).LockoutSettled := by
  unfold recoveryDue
  split
  · split
    · exact endRecovery_settles _ hs
    · exact hs
  · exact hs

/-! ### Claim reads -/

/-- A read of record slot i that finds uncorrectable data (R156, R159, R171). -/
theorem failedRead_work (R : List (Fin 256)) (src : FaultSource) {s : State} {i : Fin 256} {hd : RecordHeader} {f : Bool}
    (hk : (s.slot i).Keeps (.corrupt hd f)) (hi : (s.slot i).header?.isSome = true) :
    StoreWork R R s (detectFault src i hd.number hd.kind (s.afterRead.setSlot i (.corrupt hd f))) :=
  ((afterRead_work R s).trans (corruptSlot_work R hk hi)).trans (detectFault_work R _ _ _ _ _)

/-- What a claim read can do: nothing, a sound read, or a detection with its sweep (R159, R171). -/
theorem afterClaimRead_cases (n : Nat) (s : State) :
    afterClaimRead n s = s ∨ afterClaimRead n s = s.afterRead
      ∨ ∃ i hd f, (s.slot i).Keeps (.corrupt hd f) ∧ (s.slot i).header?.isSome = true
          ∧ afterClaimRead n s = sweepClaims (detectFault .claim i hd.number hd.kind (s.afterRead.setSlot i (.corrupt hd f))) := by
  unfold afterClaimRead
  split
  · exact .inl rfl
  · next i hi =>
    split
    · next hd b hs =>
      split
      · exact .inr (.inr ⟨i, hd, false, by rw [hs]; exact .inr (.inr ⟨_, rfl⟩), by rw [hs]; rfl, rfl⟩)
      · exact .inr (.inl rfl)
    · next hd b hs =>
      split
      · exact .inr (.inr ⟨i, hd, true, by rw [hs]; exact .inr rfl, by rw [hs]; rfl, rfl⟩)
      · exact .inr (.inl rfl)
    · exact .inl rfl

theorem afterClaimRead_work (R : List (Fin 256)) (n : Nat) (s : State) : StoreWork R R s (afterClaimRead n s) := by
  rcases afterClaimRead_cases n s with h | h | ⟨i, hd, f, hk, hi, h⟩ <;> rw [h]
  · exact .refl R s
  · exact afterRead_work R s
  · exact (failedRead_work R .claim hk hi).trans (sweepClaims_work R _)

theorem afterClaimRead_settles (n : Nat) {s : State} (hs : s.LockoutSettled) : (afterClaimRead n s).LockoutSettled := by
  rcases afterClaimRead_cases n s with h | h | ⟨i, hd, f, hk, hi, h⟩ <;> rw [h]
  · exact hs
  · exact hs
  · exact sweepClaims_settles ((failedRead_work [] .claim hk hi).recovery hs.noLockedRecovery)

/-- A claim read that does not enter LOCKOUT leaves the claims. -/
theorem afterClaimRead_claims {n : Nat} {s : State} (h : (afterClaimRead n s).lockedOut = false) :
    (afterClaimRead n s).claims = s.claims := by
  rcases afterClaimRead_cases n s with e | e | ⟨i, hd, f, -, -, e⟩
  · rw [e]
  · rw [e]; rfl
  · rw [e] at h ⊢
    unfold sweepClaims at h ⊢
    split
    · next hl =>
      have hlock := (abortClaims_frame (detectFault .claim i hd.number hd.kind (s.afterRead.setSlot i (.corrupt hd f)))).lockout hl
      rw [if_pos hl] at h
      exact absurd hlock (by simpa [State.lockedOut] using h)
    · rw [detectFault_claims]; rfl

/-! ### Evaluation and release -/

theorem evaluateAt_work (R : List (Fin 256)) (i : Nat) (s : State) : StoreWork R R s (evaluateAt i s) := by
  unfold evaluateAt
  split
  · exact .refl R s
  · next k hk =>
    split
    · next n _ _ =>
      dsimp only
      have hread := afterClaimRead_work R n s
      split
      · exact hread
      · next hl =>
        refine hread.trans (.of_same R rfl ?_)
        have hq : (afterClaimRead n s).claims.queue[i]? = some k := by
          rw [afterClaimRead_claims (by simpa using hl)]; exact hk
        obtain ⟨hi, hget⟩ := List.getElem?_eq_some_iff.1 hq
        simp only [State.claimSlots, List.map_set]
        refine List.ext_getElem? fun j => ?_
        rw [List.getElem?_set]
        split
        · next e => subst e; simp [hi, hget]
        · rfl
    · exact .refl R s

theorem evaluateAt_settles (i : Nat) {s : State} (hs : s.LockoutSettled) : (evaluateAt i s).LockoutSettled := by
  unfold evaluateAt
  split
  · exact hs
  · split
    · dsimp only
      split
      · exact afterClaimRead_settles _ hs
      · next hn => exact fun hl => absurd hl hn
    · exact hs

theorem raiseSupported_work (R : List (Fin 256)) (d : Nat) (v : VerdictEntry) (s : State) :
    StoreWork R R s (raiseSupported d v s) := by
  unfold raiseSupported
  split
  · exact (raise_work R _ _ _ s).trans (updClaimCounts_work R _ _)
  · exact .refl R s

theorem answerJudged_work (R : List (Fin 256)) (k : Claim) (j : Judgement) (n : Nat) (s : State) :
    StoreWork R R s (answerJudged k j n s) := by
  unfold answerJudged sendClaimAnswer
  split
  · exact offerReply_work R _ _ s
  · exact (offerReply_work R _ _ s).trans (offerReply_work R _ _ _)

/-- s with other claims. -/
def State.withClaims (s : State) (c : ClaimUnit) : State := { s with claims := c }

theorem detectFault_withClaims (src : FaultSource) (i : Fin 256) (n : Nat) (k : RecordKind) (s : State) (c : ClaimUnit) :
    detectFault src i n k (s.withClaims c) = (detectFault src i n k s).withClaims c := by
  have hl : (s.withClaims c).lockedOut = s.lockedOut := rfl
  have hf : (s.withClaims c).store.faultInProgress = s.store.faultInProgress := rfl
  cases h : s.lockedOut
  · cases h' : s.store.faultInProgress <;> simp [detectFault, hl, hf, h, h'] <;> rfl
  · simp [detectFault, hl, h]; rfl

/-- Filling reads no claim. -/
theorem fillCore_withClaims (i : Fin 256) (b : RecordBody) (s : State) (c : ClaimUnit) :
    fillCore i b (s.withClaims c) = (fillCore i b s).withClaims c := by
  have hr : (writeRecord i b (s.withClaims c)).readFails = (writeRecord i b s).readFails := rfl
  unfold fillCore verifyFill
  rw [hr]
  split
  · rw [← detectFault_withClaims]; rfl
  · rfl

/-- The claims once their head k has been released. -/
def ClaimUnit.withoutHead (c : ClaimUnit) : ClaimUnit := { c with queue := c.queue.tail }

/-- A release up to its sweep: the record takes the head claim's reservation, and the claim leaves the queue (R175). -/
def releaseUnswept (k : Claim) (j : Judgement) (s : State) : State :=
  (j.entries.foldl (fun s v => raiseSupported j.drop v s) (answerJudged k j s.store.nextNumber
    (fillCore k.reservation (claimVerdictBody k j) (s.withClaims s.claims.withoutHead)))).updClaimCounts
    fun n => { n with released := satInc max32 n.released }

theorem releaseClaim_eq (k : Claim) (j : Judgement) (s : State) : releaseClaim k j s = sweepClaims (releaseUnswept k j s) := by
  rw [releaseUnswept, fillCore_withClaims, ← fillCore_claims k.reservation (claimVerdictBody k j) s]
  rfl

/-- The head claim leaves the queue, and its reservation is its last owner's. -/
theorem withoutHead_work {s : State} {k : Claim} {ks : List Claim} (hq : s.claims.queue = k :: ks) (R : List (Fin 256)) :
    StoreWork R (k.reservation :: R) s (s.withClaims s.claims.withoutHead) where
  sound h := by
    have hperm : (k.reservation :: R ++ (s.withClaims s.claims.withoutHead).claimSlots).Perm (R ++ s.claimSlots) := by
      simp only [State.claimSlots, State.withClaims, ClaimUnit.withoutHead, hq, List.tail_cons, List.map_cons, List.cons_append]
      exact List.perm_middle.symm
    exact (h.mono (.of_perm hperm)).congr rfl
  records _ := .of_slots rfl
  recovery := id
  claims := by simp [State.withClaims, ClaimUnit.withoutHead]

/-- A fill into a reservation, claims not yet swept (R149). -/
theorem fillCore_reserved_work (i : Fin 256) (R : List (Fin 256)) (b : RecordBody) (s : State) :
    StoreWork (i :: R) R s (fillCore i b s) :=
  fillCore_work (fun h => by rw [h.held i (by simp)]; rfl) (.tail i R)
    (fun h => (List.nodup_cons.1 h.apart).1) b

theorem releaseUnswept_work {s : State} {k : Claim} {ks : List Claim} (hq : s.claims.queue = k :: ks) (j : Judgement)
    (R : List (Fin 256)) : StoreWork R R s (releaseUnswept k j s) := by
  have hfill := (withoutHead_work hq R).trans (fillCore_reserved_work k.reservation R (claimVerdictBody k j) _)
  have hanswer := hfill.trans (answerJudged_work R k j s.store.nextNumber _)
  exact (hanswer.trans (foldl_work (fun s v => raiseSupported_work R j.drop v s) j.entries _)).trans (updClaimCounts_work R _ _)

theorem releaseLoop_work (R : List (Fin 256)) (fuel : Nat) (s : State) : StoreWork R R s (releaseLoop fuel s) := by
  induction fuel generalizing s with
  | zero => exact .refl R s
  | succ fuel ih =>
    unfold releaseLoop
    split
    · exact .refl R s
    · next k ks hq =>
      split
      · exact .refl R s
      · next j _ =>
        rw [releaseClaim_eq]
        exact ((releaseUnswept_work hq j R).trans (sweepClaims_work R _)).trans (ih _)

theorem releaseLoop_settles (fuel : Nat) {s : State} (hs : s.LockoutSettled) : (releaseLoop fuel s).LockoutSettled := by
  induction fuel generalizing s with
  | zero => exact hs
  | succ fuel ih =>
    unfold releaseLoop
    split
    · exact hs
    · next k ks hq =>
      split
      · exact hs
      · next j _ =>
        rw [releaseClaim_eq]
        exact ih (sweepClaims_settles ((releaseUnswept_work hq j []).recovery hs.noLockedRecovery))

theorem releaseClaims_work (R : List (Fin 256)) (s : State) : StoreWork R R s (releaseClaims s) := releaseLoop_work R _ s

theorem releaseClaims_settles {s : State} (hs : s.LockoutSettled) : (releaseClaims s).LockoutSettled := releaseLoop_settles _ hs

/-! ### Completion of settlement, and lodging -/

/-- The claims that wait on drop d, resolved to record n (R170). -/
def State.claimsTold (s : State) (d n : Nat) : State :=
  { s with claims := { s.claims with
      queue := s.claims.queue.map fun k => if waitsOn d k then { k with resolved := some n } else k } }

theorem claimsTold_work (R : List (Fin 256)) (d n : Nat) (s : State) : StoreWork R R s (s.claimsTold d n) := by
  refine .of_same R rfl ?_
  simp only [State.claimSlots, State.claimsTold, List.map_map]
  refine List.map_congr_left fun k _ => ?_
  simp only [Function.comp]
  split <;> rfl

theorem tellClaims_work (R : List (Fin 256)) (d n : Nat) (s : State) : StoreWork R R s (tellClaims d n s) :=
  ((claimsTold_work R d n s).trans (foldl_work (fun s i => evaluateAt_work R i s) _ _)).trans (releaseClaims_work R _)

theorem foldl_evaluateAt_settles (is : List Nat) {s : State} (hs : s.LockoutSettled) :
    (is.foldl (fun s i => evaluateAt i s) s).LockoutSettled := by
  induction is generalizing s with
  | nil => exact hs
  | cons i is ih => exact ih (evaluateAt_settles i hs)

theorem tellClaims_settles (d n : Nat) {s : State} (hs : s.LockoutSettled) : (tellClaims d n s).LockoutSettled := by
  refine releaseClaims_settles (foldl_evaluateAt_settles _ (s := s.claimsTold d n) fun hl => ?_)
  obtain ⟨hrec, hqueue⟩ := hs hl
  exact ⟨hrec, by simp [State.claimsTold, hqueue]⟩

/-- The lowest FREE slot becomes RESERVED, for an owner beside those of R. -/
theorem reserveSlot_work (R : List (Fin 256)) {i : Fin 256} {s : State} (hi : s.slot i = .free) :
    StoreWork R (i :: R) s (reserveSlot i s) := by
  have hset : StoreWork R (i :: R) s (s.setSlot i .reserved) := by
    refine ⟨fun h => ?_, fun _ => .setSlot (.of_plain (by rw [hi]; rfl) _), id, Nat.le_refl _⟩
    have hout : i ∉ R ++ s.claimSlots := h.not_mem_of_free hi
    refine h.setSlot_plain (by rw [hi]; rfl) rfl (List.nodup_cons.2 ⟨hout, h.apart⟩) fun j hj => ?_
    rcases List.mem_cons.1 hj with e | hj
    · exact .inl ⟨e, rfl⟩
    · exact .inr ⟨fun e => hout (e ▸ hj), hj⟩
  exact hset.trans (storeLowCheck_work _ _)

/-- An accepted lodging reserves its slot and joins the queue (R168). -/
theorem joinClaim_sound (R : List (Fin 256)) {i : Fin 256} {s : State} (hi : s.slot i = .free) (p : Port) (a : Byte)
    (o : LodgeOps) (h : s.SoundFor (R ++ s.claimSlots)) :
    (joinClaim i p a o s).SoundFor (R ++ (joinClaim i p a o s).claimSlots) := by
  have hw := (reserveSlot_work R hi).sound h
  have hslots : (joinClaim i p a o s).claimSlots = (reserveSlot i s).claimSlots ++ [i] := by
    simp [State.claimSlots, joinClaim]
  rw [hslots]
  refine (hw.mono ?_).congr rfl
  rw [← List.append_assoc]
  exact .of_perm (List.perm_append_singleton i _)

/-- An accepted lodging changes the store as the reservation does. -/
theorem joinClaim_store (i : Fin 256) (p : Port) (a : Byte) (o : LodgeOps) (s : State) :
    (joinClaim i p a o s).store = (s.setSlot i .reserved).store := storeLowCheck_store _

theorem joinClaim_slot (i j : Fin 256) (p : Port) (a : Byte) (o : LodgeOps) (s : State) :
    (joinClaim i p a o s).slot j = if j = i then .reserved else s.slot j := by
  rw [State.slot_congr (congrArg Store.slots (joinClaim_store i p a o s)), State.setSlot_slot]

theorem joinClaim_records {i : Fin 256} {s : State} (hi : s.slot i = .free) (p : Port) (a : Byte) (o : LodgeOps) :
    RecordsKept s (joinClaim i p a o s) := fun j => by
  rw [joinClaim_slot]
  split
  · next e => subst e; exact .of_plain (by rw [hi]; rfl) _
  · exact .refl _

@[simp] theorem reserveSlot_claims (i : Fin 256) (s : State) : (reserveSlot i s).claims = s.claims := storeLowCheck_claims _

theorem settleLodging_work (R : List (Fin 256)) (s : State) : StoreWork R R s (settleLodging s) :=
  (evaluateAt_work R _ s).trans (releaseClaims_work R _)

theorem settleLodging_settles {s : State} (hs : s.LockoutSettled) : (settleLodging s).LockoutSettled :=
  releaseClaims_settles (evaluateAt_settles _ hs)

end Sys2Proof.Machine
end

section
/-! SUPPORT. What an event keeps of the Proof Store and the Claim Unit as a whole: soundness, the records held, the settled LOCKOUT, the limit of the claims; said once for each operation of the accounts, the windows, the stops and the route (R146 to R149, R161, R178). -/
namespace Sys2Proof.Machine

/-- What an event keeps of the store and the claims. -/
structure StoreEvent (s t : State) : Prop where
  sound : s.StoreSound → t.StoreSound
  records : s.StoreSound → RecordsKept s t
  settled : s.LockoutSettled → t.LockoutSettled
  claims : s.claims.queue.length ≤ Config.claimPlaces → t.claims.queue.length ≤ Config.claimPlaces

theorem StoreEvent.refl (s : State) : StoreEvent s s := ⟨id, fun _ _ => .refl _, id, id⟩

theorem StoreEvent.trans {s t u : State} (h : StoreEvent s t) (k : StoreEvent t u) : StoreEvent s u where
  sound := k.sound ∘ h.sound
  records hs i := (h.records hs i).trans (k.records (h.sound hs) i)
  settled := k.settled ∘ h.settled
  claims := k.claims ∘ h.claims

/-- Work on the store that accounts for the reservations of drops and route, and settles LOCKOUT. -/
theorem StoreEvent.of_work {s t : State} (h : StoreWork s.owned t.owned s t) (hl : s.LockoutSettled → t.LockoutSettled) :
    StoreEvent s t where
  sound hs := (storeSound_iff t).2 (h.sound ((storeSound_iff s).1 hs))
  records hs := h.records ((storeSound_iff s).1 hs)
  settled := hl
  claims := Nat.le_trans h.claims

/-- The store, the claims and the reservations are the same. -/
structure SameStore (s t : State) : Prop where
  store : t.store = s.store
  claims : t.claims = s.claims
  owned : t.owned = s.owned

theorem SameStore.refl (s : State) : SameStore s s := ⟨rfl, rfl, rfl⟩

theorem SameStore.trans {s t u : State} (h : SameStore s t) (k : SameStore t u) : SameStore s u :=
  ⟨k.store.trans h.store, k.claims.trans h.claims, k.owned.trans h.owned⟩

theorem SameStore.settled {s t : State} (h : SameStore s t) (hs : s.LockoutSettled) : t.LockoutSettled := by
  simpa only [State.LockoutSettled, h.store, h.claims] using hs

theorem SameStore.work {s t : State} (h : SameStore s t) (R : List (Fin 256)) : StoreWork R R s t :=
  .of_same R h.store (by rw [State.claimSlots, h.claims]; rfl)

theorem SameStore.event {s t : State} (h : SameStore s t) : StoreEvent s t :=
  .of_work (h.owned ▸ h.work s.owned) h.settled

/-- A frame of the Proof Store leaves the reservations of drops and route. -/
theorem StoreFrame.owned {s t : State} (h : StoreFrame s t) : t.owned = s.owned := by
  rw [State.owned, h.drops, h.route]; rfl

/-- Work on the store that leaves drops and route. -/
theorem StoreEvent.of_frame {s t : State} (hf : StoreFrame s t) (hw : ∀ R, StoreWork R R s t)
    (hl : s.LockoutSettled → t.LockoutSettled) : StoreEvent s t := .of_work (hf.owned ▸ hw s.owned) hl

/-! ### Accounts -/

theorem updComp_same (c : Fin 4) (f : Comp → Comp) (s : State) : SameStore s (s.updComp c f) := ⟨rfl, rfl, rfl⟩
theorem updWindow_same (c : Fin 4) (f : Window → Window) (s : State) : SameStore s (s.updWindow c f) := ⟨rfl, rfl, rfl⟩
theorem updContext_same (n : Nat) (f : Context → Context) (s : State) : SameStore s (s.updContext n f) := ⟨rfl, rfl, rfl⟩
theorem raise_same (k : AlertCode) (x : Subject) (v : Option Int) (s : State) : SameStore s (raise k x v s) := ⟨rfl, rfl, rfl⟩
theorem updStopCounts_same (f : StopCounts → StopCounts) (s : State) : SameStore s (s.updStopCounts f) := ⟨rfl, rfl, rfl⟩

/-- A change of drops that keeps their reservations. -/
theorem updDrop_same (n : Nat) {f : Drop → Drop} (h : ∀ d, (f d).reservation = d.reservation) (s : State) :
    SameStore s (s.updDrop n f) := by
  refine ⟨rfl, rfl, ?_⟩
  simp only [State.owned, State.updDrop, List.filterMap_map]
  congr 1
  refine congrArg (List.filterMap · s.drops) (funext fun d => ?_)
  simp only [Function.comp]
  split
  · exact h d
  · rfl

theorem foldl_same {α : Type} {f : State → α → State} (h : ∀ s a, SameStore s (f s a)) (l : List α) (s : State) :
    SameStore s (l.foldl f s) := by
  induction l generalizing s with
  | nil => exact .refl s
  | cons a l ih => exact (h s a).trans (ih _)

theorem setTg_same (c : Fin 4) (x : Nat) (new : Option Int) (s : State) : SameStore s (setTg c x new s) := by
  unfold setTg
  dsimp only
  split
  · split <;> exact ⟨rfl, rfl, rfl⟩
  · exact ⟨rfl, rfl, rfl⟩

theorem evalTg_same (c : Fin 4) (x : Nat) (s : State) : SameStore s (evalTg c x s) := by
  unfold evalTg
  dsimp only
  split
  · exact .refl s
  · exact setTg_same _ _ _ s

theorem addBreach_same (c : Fin 4) (x : Nat) (s : State) : SameStore s (addBreach c x s) := by
  unfold addBreach
  dsimp only
  split <;> exact ⟨rfl, rfl, rfl⟩

theorem chargeTicks_same (c : Fin 4) (m n : Nat) (s : State) : SameStore s (chargeTicks c m n s) := by
  unfold chargeTicks
  dsimp only
  split
  · exact updComp_same _ _ s
  · exact (updComp_same c _ s).trans (addBreach_same _ _ _)

theorem growTotals_same (c : Fin 4) (t m n : Nat) (s : State) : SameStore s (growTotals c t m n s) := by
  unfold growTotals
  dsimp only
  split
  · split <;> exact ⟨rfl, rfl, rfl⟩
  · exact .refl s

theorem chargePiece_same (c : Fin 4) (p : Nat) (s : State) : SameStore s (chargePiece c p s) := by
  unfold chargePiece State.setCommitted
  exact ((chargeTicks_same c _ _ s).trans (growTotals_same c _ _ _ _)).trans (updComp_same c _ _)

theorem moveProvisional_same (c : Fin 4) (o : Option StopOutcome) (s : State) : SameStore s (moveProvisional c o s) := by
  unfold moveProvisional
  dsimp only
  split
  · exact (addBreach_same c _ s).trans (updComp_same c _ _)
  · exact (updComp_same c _ s).trans (updComp_same c _ _)

/-! ### Settlement -/

/-- Fewer reservations of drops and route are accounted for as well. -/
theorem StoreWork.forget {R R' : List (Fin 256)} (h : Within R' R) (s : State) : StoreWork R R' s s where
  sound hs := hs.mono (h.append_right _)
  records _ _ := .refl _
  recovery := id
  claims := Nat.le_refl _

/-- Drops of number n that lose their reservations, one of them holding i: i is no more among the reservations. -/
theorem reservations_given_up {n : Nat} {f : Drop → Drop} (hf : ∀ d, (f d).reservation = none) {ds : List Drop} {d : Drop}
    (hd : ds.find? (fun d => d.number = n) = some d) :
    Within (d.reservation.toList ++ (ds.map fun d => if d.number = n then f d else d).filterMap (·.reservation))
      (ds.filterMap (·.reservation)) := by
  have hsub : ∀ l : List Drop, ((l.map fun d => if d.number = n then f d else d).filterMap (·.reservation)).Sublist
      (l.filterMap (·.reservation)) := by
    intro l
    induction l with
    | nil => exact .slnil
    | cons e l ih =>
      by_cases he : e.number = n
      · simp only [List.map_cons, he, if_true, List.filterMap_cons, hf]
        split
        · exact ih
        · exact ih.cons _
      · simp only [List.map_cons, he, if_false, List.filterMap_cons]
        split
        · exact ih
        · exact ih.cons_cons _
  obtain ⟨hnum, before, after, hsplit, -⟩ := List.find?_eq_some_iff_append.1 hd
  have hnum' : d.number = n := by simpa using hnum
  have hd' : (ds.map fun d => if d.number = n then f d else d).filterMap (·.reservation)
      = (before.map fun d => if d.number = n then f d else d).filterMap (·.reservation)
        ++ (after.map fun d => if d.number = n then f d else d).filterMap (·.reservation) := by
    simp [hsplit, hnum', hf]
  have hds : ds.filterMap (·.reservation)
      = before.filterMap (·.reservation) ++ (d.reservation.toList ++ after.filterMap (·.reservation)) := by
    rw [hsplit, List.filterMap_append, List.filterMap_cons]
    cases d.reservation <;> rfl
  rw [hd', hds]
  have hkeep := ((hsub before).append (hsub after)).append_left d.reservation.toList
  refine (Within.of_sublist hkeep).trans (.of_perm ?_)
  rw [← List.append_assoc, ← List.append_assoc]
  exact List.perm_append_comm.append_right _

/-- The drop of context x with its auto-verdicts (R139, R140). -/
def State.judged (s : State) (x : Context) : State :=
  s.updDrop x.drop fun d => { d with items := d.items.map (autoVerdict s.classes x) }

/-- s once the record number of drop n's outcome is known: the drop is final, and its context leaves the list (R140). -/
def State.settledDrop (s : State) (x : Context) (number : Nat) : State :=
  { s.updDrop x.drop fun d =>
      { d with state := .final (x.outcome.getD .abandoned), record := some number, reservation := none } with
    contexts := s.contexts.filter fun y => y.drop != x.drop }

theorem completeSettlement_none {x : Context} {s : State} (h : (s.judged x).findDrop x.drop = none) :
    completeSettlement x s = s.judged x := by
  unfold completeSettlement State.judged at *
  dsimp only
  rw [h]

theorem completeSettlement_some {x : Context} {s : State} {d : Drop} (h : (s.judged x).findDrop x.drop = some d) :
    completeSettlement x s = tellClaims x.drop s.store.nextNumber
      ((countCompletion (fillOutcome d x (s.judged x))).settledDrop x s.store.nextNumber) := by
  unfold completeSettlement State.judged at *
  dsimp only
  rw [h]
  rfl

theorem judged_same (x : Context) (s : State) : SameStore s (s.judged x) := by
  exact updDrop_same _ (f := fun d => { d with items := d.items.map (autoVerdict s.classes x) }) (fun _ => rfl) s

theorem countCompletion_same (s : State) : SameStore s (countCompletion s) := by
  unfold countCompletion; split <;> exact ⟨rfl, rfl, rfl⟩

theorem countCompletion_drops (s : State) : (countCompletion s).drops = s.drops := by
  unfold countCompletion; split <;> rfl

theorem countCompletion_route (s : State) : (countCompletion s).route = s.route := by
  unfold countCompletion; split <;> rfl

theorem fillOutcome_settles (d : Drop) (x : Context) {s : State} (hs : s.LockoutSettled) :
    (fillOutcome d x s).LockoutSettled := by
  unfold fillOutcome
  split
  · exact fillReserved_settles _ _ hs.noLockedRecovery
  · exact hs

/-- The record of a drop's outcome takes the drop's reservation (R140, R149). -/
theorem fillOutcome_work {d : Drop} {R R' : List (Fin 256)} (h : Within (d.reservation.toList ++ R') R) (x : Context)
    (s : State) : StoreWork R R' s (fillOutcome d x s) := by
  unfold fillOutcome
  split
  · next i hi =>
    rw [hi] at h
    exact fillReserved_work h _ s
  · next hi =>
    rw [hi] at h
    exact .forget h s

theorem settledDrop_work (x : Context) (number : Nat) (R : List (Fin 256)) (s : State) :
    StoreWork R R s (s.settledDrop x number) := .of_same R rfl rfl

theorem completeSettlement_event (x : Context) (s : State) : StoreEvent s (completeSettlement x s) := by
  have hjudged := judged_same x s
  cases h : (s.judged x).findDrop x.drop with
  | none => rw [completeSettlement_none h]; exact hjudged.event
  | some d =>
    rw [completeSettlement_some h]
    refine hjudged.event.trans (.of_work ?_ fun hs => tellClaims_settles _ _ ?_)
    · have hfill := fillOutcome_frame d x (s.judged x)
      have howned : (tellClaims x.drop s.store.nextNumber
            ((countCompletion (fillOutcome d x (s.judged x))).settledDrop x s.store.nextNumber)).owned
          = ((s.judged x).drops.map fun d => if d.number = x.drop then
              { d with state := .final (x.outcome.getD .abandoned), record := some s.store.nextNumber, reservation := none }
              else d).filterMap (·.reservation) ++ (s.judged x).route.reservation.toList := by
        rw [(tellClaims_frame _ _ _).owned]
        simp only [State.owned, State.settledDrop, State.updDrop, countCompletion_drops, countCompletion_route, hfill.drops,
          hfill.route]
      rw [howned]
      have hgive := reservations_given_up (f := fun d =>
        { d with state := .final (x.outcome.getD .abandoned), record := some s.store.nextNumber, reservation := none })
        (fun _ => rfl) h
      have hgive' := hgive.append_right (s.judged x).route.reservation.toList
      rw [List.append_assoc] at hgive'
      have hcount := (fillOutcome_work hgive' x (s.judged x)).trans ((countCompletion_same _).work _)
      exact (hcount.trans (settledDrop_work x s.store.nextNumber _ _)).trans (tellClaims_work _ _ _ _)
    · exact (countCompletion_same _).settled (fillOutcome_settles d x hs)

theorem resolveComp_event (c : Fin 4) (d : Nat) (s : State) : StoreEvent s (resolveComp c d s) := by
  unfold resolveComp
  split
  · exact .refl s
  · split
    · exact .refl s
    · dsimp only
      have h := (moveProvisional_same c (Context.outcome ‹_›) s)
      split
      · exact (h.trans (updContext_same _ _ _)).event
      · split
        · exact (h.trans (updContext_same _ _ _)).event.trans (completeSettlement_event _ _)
        · exact (h.trans (updContext_same _ _ _)).event

theorem foldl_event {α : Type} {f : State → α → State} (h : ∀ s a, StoreEvent s (f s a)) (l : List α) (s : State) :
    StoreEvent s (l.foldl f s) := by
  induction l generalizing s with
  | nil => exact .refl s
  | cons a l ih => exact (h s a).trans (ih _)

theorem resolveAt_event (c : Fin 4) (t : Nat) (s : State) : StoreEvent s (resolveAt c t s) := by
  unfold resolveAt
  refine foldl_event (fun s d => ?_) _ s
  split
  · exact .refl s
  · exact resolveComp_event c d s

theorem chargeThrough_event (c : Fin 4) (ps : List Nat) (s : State) : StoreEvent s (chargeThrough c ps s) := by
  induction ps generalizing s with
  | nil => exact .refl s
  | cons p ps ih =>
    unfold chargeThrough
    split
    · exact .refl s
    · have hpiece := (chargePiece_same c p s).event.trans (resolveAt_event c p _)
      exact (hpiece.trans (evalTg_same c p _).event).trans (ih _)

theorem chargeTo_event (c : Fin 4) (b : Nat) (s : State) : StoreEvent s (chargeTo c b s) := chargeThrough_event c _ s

/-! ### Doors and retirement -/

theorem applyDoor_same (c : Fin 4) (p : Fin 2) (d : DoorState) (t : Nat) (s : State) : SameStore s (applyDoor c p d t s) := by
  unfold applyDoor
  dsimp only
  split
  · exact updComp_same _ _ s
  · split <;> exact ⟨rfl, rfl, rfl⟩

theorem applyEvent_same (c : Fin 4) (ev : PendingEvent) (s : State) : SameStore s (applyEvent c ev s) := by
  unfold applyEvent applySample
  split
  · exact (updComp_same c _ s).trans (evalTg_same c _ _)
  · exact applyDoor_same _ _ _ _ s

theorem finishRetirement_same (c : Fin 4) (ev : PendingEvent) (s : State) : SameStore s (finishRetirement c ev s) := by
  unfold finishRetirement
  split
  · exact .refl s
  · exact (updComp_same c _ s).trans (applyEvent_same c ev _)

theorem retireHead_event (c : Fin 4) (ev : PendingEvent) (s : State) : StoreEvent s (retireHead c ev s) :=
  (chargeTo_event c ev.time s).trans (finishRetirement_same c ev _).event

theorem retireWhile_event (c : Fin 4) (due : Nat → Bool) (fuel : Nat) (s : State) : StoreEvent s (retireWhile c due fuel s) := by
  induction fuel generalizing s with
  | zero => exact .refl s
  | succ fuel ih =>
    unfold retireWhile
    split
    · split
      · exact .refl s
      · split
        · exact (retireHead_event c _ s).trans (ih _)
        · exact .refl s
    · exact .refl s

theorem retireAll_event (c : Fin 4) (due : Nat → Bool) (s : State) : StoreEvent s (retireAll c due s) :=
  retireWhile_event c due _ s

theorem advanceTo_event (c : Fin 4) (T : Nat) (s : State) : StoreEvent s (advanceTo c T s) := by
  unfold advanceTo
  dsimp only
  split
  · split
    · exact retireAll_event c _ s
    · exact (retireAll_event c _ s).trans (chargeTo_event c T _)
  · exact .refl s

/-! ### Hand-over -/

theorem refuseLate_same (c : Fin 4) (ev : PendingEvent) (s : State) : SameStore s (refuseLate c ev s) := ⟨rfl, rfl, rfl⟩
theorem reportForced_same (c : Fin 4) (t : Nat) (s : State) : SameStore s (reportForced c t s) := ⟨rfl, rfl, rfl⟩

theorem insertAndSettle_event (c : Fin 4) (ev : PendingEvent) (s : State) : StoreEvent s (insertAndSettle c ev s) := by
  have hjoin : StoreEvent s (joinWindow c ev s) := (updWindow_same c _ s).event
  unfold insertAndSettle
  dsimp only
  split
  · exact hjoin.trans (retireAll_event c _ _)
  · exact hjoin

theorem insertIntoWindow_event (c : Fin 4) (ev : PendingEvent) (s : State) : StoreEvent s (insertIntoWindow c ev s) := by
  unfold insertIntoWindow
  split
  · next x xs _ =>
    split
    · exact insertAndSettle_event c ev s
    · split
      · unfold retireArriving
        dsimp only
        split
        · exact chargeTo_event c _ s
        · exact (chargeTo_event c _ s).trans ((applyEvent_same c ev _).trans (reportForced_same c _ _)).event
      · unfold replaceEarliest
        dsimp only
        split
        · exact retireHead_event c x s
        · exact ((retireHead_event c x s).trans (reportForced_same c _ _).event).trans (insertAndSettle_event c ev _)
  · exact insertAndSettle_event c ev s

theorem handOver_event (c : Fin 4) (t : Nat) (k : EventContent) (s : State) : StoreEvent s (handOver c t k s) := by
  have hnum : StoreEvent s (numberArrival c s) := (updWindow_same c _ s).event
  unfold handOver takeEvent
  dsimp only
  split
  · split
    · exact hnum.trans (refuseLate_same c _ _).event
    · split
      · exact hnum.trans (updWindow_same c _ _).event
      · exact hnum.trans (insertIntoWindow_event c _ _)
  · exact .refl s

/-! ### The end of a route -/

theorem dropsNotVisited_same (s : State) : SameStore s (dropsNotVisited s) := by
  refine ⟨rfl, rfl, ?_⟩
  simp only [State.owned, dropsNotVisited, List.filterMap_map]
  congr 1
  refine congrArg (List.filterMap · s.drops) (funext fun d => ?_)
  simp only [Function.comp]
  split <;> rfl

/-- A reservation of the list goes back (R148). -/
theorem handBack_work (i : Fin 256) (R : List (Fin 256)) (s : State) : StoreWork (i :: R) R s (handBack i s) where
  sound h := by
    have hres : s.slot i = .reserved := h.held i (by simp)
    obtain ⟨hout, hrest⟩ := List.nodup_cons.1 h.apart
    exact h.setSlot_plain (by rw [hres]; rfl) rfl hrest fun j hj => .inr ⟨fun e => hout (e ▸ hj), List.mem_cons_of_mem _ hj⟩
  records h := .setSlot (.of_plain (by rw [h.held i (by simp)]; rfl) _)
  recovery := id
  claims := Nat.le_refl _

/-- A drop not visited hands its reservation back (R117, step 3). -/
def freeIfNotVisited (s : State) (d : Drop) : State :=
  match d.state, d.reservation with
  | .notVisited, some i => handBack i s
  | _, _ => s

theorem freeNotVisited_eq (s : State) : freeNotVisited s = s.drops.foldl freeIfNotVisited s := rfl

theorem freeIfNotVisited_work (d : Drop) (R : List (Fin 256)) (s : State) :
    StoreWork (d.reservation.toList ++ R) R s (freeIfNotVisited s d) := by
  unfold freeIfNotVisited
  split
  · next i _ hi => rw [hi]; exact handBack_work i R s
  · exact .forget (.of_sublist (List.sublist_append_right ..)) s

theorem freeIfNotVisited_only (d : Drop) (s : State) :
    freeIfNotVisited s d = { s with store := { s.store with slots := (freeIfNotVisited s d).store.slots } } := by
  unfold freeIfNotVisited
  split <;> rfl

/-- The reservations of the drops not visited go back, and those of the others are forgotten with their drops (R117). -/
theorem foldl_freeIfNotVisited_work (ds : List Drop) (R : List (Fin 256)) (s : State) :
    StoreWork (ds.filterMap (·.reservation) ++ R) R s (ds.foldl freeIfNotVisited s) := by
  induction ds generalizing s with
  | nil => exact .refl R s
  | cons d ds ih =>
    have hsplit : (d :: ds).filterMap (·.reservation) ++ R = d.reservation.toList ++ (ds.filterMap (·.reservation) ++ R) := by
      rw [List.filterMap_cons]; cases d.reservation <;> rfl
    rw [hsplit]
    exact (freeIfNotVisited_work d _ s).trans (ih _)

/-- Handing reservations back changes the slots alone. -/
theorem foldl_freeIfNotVisited_only (ds : List Drop) (s : State) : ds.foldl freeIfNotVisited s
    = { s with store := { s.store with slots := (ds.foldl freeIfNotVisited s).store.slots } } := by
  induction ds generalizing s with
  | nil => rfl
  | cons d ds ih => rw [List.foldl_cons, ih, freeIfNotVisited_only d s]

theorem freeNotVisited_only (s : State) :
    freeNotVisited s = { s with store := { s.store with slots := (freeNotVisited s).store.slots } } :=
  foldl_freeIfNotVisited_only s.drops s

/-- The route has ended: no drops, no route (R117, steps 4 to 6). -/
def State.routeEnded (s : State) (reason : CloseReason) : State :=
  { s with drops := [], route := { s.route with state := .noRoute, closeReason := some reason } }

/-- Every window is IDLE (R117, step 5). -/
def State.windowsIdle (s : State) : State := compartments.foldl (fun s c => s.updWindow c discardWindow) s

theorem finishRoute_eq (reason : CloseReason) (s : State) :
    finishRoute reason s = ((freeNotVisited s).routeEnded reason).windowsIdle := rfl

theorem windowsIdle_same (s : State) : SameStore s s.windowsIdle := foldl_same (fun s c => updWindow_same c _ s) _ s

theorem routeEnded_owned (reason : CloseReason) (s : State) : (s.routeEnded reason).owned = s.route.reservation.toList := rfl

theorem finishRoute_event (reason : CloseReason) (s : State) : StoreEvent s (finishRoute reason s) := by
  rw [finishRoute_eq]
  refine .trans (t := (freeNotVisited s).routeEnded reason) (.of_work ?_ fun hs hl => ?_) (windowsIdle_same _).event
  · have hroute : (freeNotVisited s).route = s.route := by rw [freeNotVisited_only]
    rw [routeEnded_owned, hroute, freeNotVisited_eq]
    exact (foldl_freeIfNotVisited_work _ _ s).trans (.of_same _ rfl rfl)
  · have hstore : ((freeNotVisited s).routeEnded reason).store = { s.store with slots := (freeNotVisited s).store.slots } := by
      rw [freeNotVisited_only]; rfl
    have hclaims : ((freeNotVisited s).routeEnded reason).claims = s.claims := by rw [freeNotVisited_only]; rfl
    rw [hstore] at hl ⊢
    rw [hclaims]
    exact hs hl

/-- The route gives its reservation up. -/
def State.unreserved (s : State) : State := { s with route := { s.route with reservation := none } }

theorem unreserved_owned (s : State) : s.unreserved.owned = s.drops.filterMap (·.reservation) := List.append_nil _

theorem fillRouteClose_event (reason : CloseReason) (s : State) : StoreEvent s (fillRouteClose reason s) := by
  unfold fillRouteClose
  split
  · next i hi =>
    have hfill : StoreEvent s (fillReserved i (routeCloseBody reason s) s.unreserved) := by
      refine .of_work ?_ fun hs => fillReserved_settles _ _ (s := s.unreserved) hs.noLockedRecovery
      have howned : s.owned = s.drops.filterMap (·.reservation) ++ [i] := by rw [State.owned, hi]; rfl
      rw [(fillReserved_frame i (routeCloseBody reason s) s.unreserved).owned, howned, unreserved_owned]
      refine .trans (t := s.unreserved) (.of_same _ rfl rfl) (fillReserved_work ?_ _ _)
      exact .of_perm (List.perm_append_singleton i _).symm
    exact hfill
  · exact .refl s

theorem endRoute_event (reason : CloseReason) (s : State) : StoreEvent s (endRoute reason s) := by
  have h := (dropsNotVisited_same s).event.trans (fillRouteClose_event reason _)
  unfold endRoute
  dsimp only
  split
  · exact h
  · exact h.trans (finishRoute_event reason _)

theorem endRouteIfComplete_event (s : State) : StoreEvent s (endRouteIfComplete s) := by
  unfold endRouteIfComplete
  split
  · exact endRoute_event _ s
  · exact .refl s

theorem forceWindow_event (c : Fin 4) (s : State) : StoreEvent s (forceWindow c s) := by
  unfold forceWindow
  split
  · dsimp only
    split
    · exact retireAll_event c _ s
    · exact (retireAll_event c _ s).trans (advanceTo_event c _ _)
  · dsimp only
    split
    · exact (retireAll_event c _ s).trans (advanceTo_event c _ _)
    · exact ((retireAll_event c _ s).trans (advanceTo_event c _ _)).trans (updComp_same c _ _).event
  · exact .refl s

/-! ### Stops -/

theorem reportAbandoned_same (x : Context) (T : Nat) (s : State) : SameStore s (reportAbandoned x T s) := by
  unfold reportAbandoned; split <;> exact ⟨rfl, rfl, rfl⟩

theorem closeDrop_reservation (d : Drop) : (closeDrop d).reservation = d.reservation := by
  unfold closeDrop; split <;> rfl

theorem closeStop_event (n T : Nat) (s : State) : StoreEvent s (closeStop n T s) := by
  unfold closeStop resolveAtClosing
  split
  · exact .refl s
  · next x _ =>
    have hclose := ((updContext_same n (closeContext T) s).trans (updDrop_same n closeDrop_reservation _)).trans
      (reportAbandoned_same x T _)
    refine hclose.event.trans (foldl_event (fun s c => ?_) _ _)
    split
    · exact resolveAt_event c T s
    · exact .refl s

theorem closeLive_event (t : Nat) (s : State) : StoreEvent s (closeLive t s) := by
  unfold closeLive; split
  · exact closeStop_event _ t s
  · exact .refl s

theorem endHandover_same (n : Nat) (s : State) : SameStore s (endHandover n s) :=
  (updContext_same n _ s).trans (updDrop_same n (f := fun d => { clearItems d with state := .active }) (fun _ => rfl) _)

theorem expireIdle_same (s : State) : SameStore s (expireIdle s) := by
  unfold expireIdle
  split
  · exact .refl s
  · split
    · split
      · exact ((endHandover_same _ s).trans (raise_same _ _ _ _)).trans (updStopCounts_same _ _)
      · exact .refl s
    · exact .refl s

theorem expireDeparture_event (s : State) : StoreEvent s (expireDeparture s) := by
  unfold expireDeparture
  split
  · exact .refl s
  · split
    · split
      · exact closeStop_event _ _ s
      · exact .refl s
    · exact .refl s

theorem advanceStopEnd_event (n : Nat) (s : State) : StoreEvent s (advanceStopEnd n s) := by
  unfold advanceStopEnd
  split
  · split
    · split
      · exact (foldl_event (fun s c => advanceTo_event c _ s) _ s).trans (endRouteIfComplete_event _)
      · exact .refl s
    · exact .refl s
  · exact .refl s

theorem advanceClose_event (s : State) : StoreEvent s (advanceClose s) := by
  unfold advanceClose
  split
  · split
    · exact (foldl_event (fun s c => advanceTo_event c _ s) _ s).trans (endRouteIfComplete_event _)
    · exact .refl s
  · exact .refl s

theorem passHorizon_event (c : Fin 4) (s : State) : StoreEvent s (passHorizon c s) :=
  (retireAll_event c _ s).trans (endRouteIfComplete_event _)

end Sys2Proof.Machine
end

section
/-! SUPPORT. What every event upholds: the bounds of the queues, the ranges, the order of the windows, the agreement of grades, the limits of the manifest and, on a route, its tables; and what LOCKOUT freezes (R13, R14, R21, R39, R43, R59, R76, R110, R122, R161). -/
namespace Sys2Proof.Machine

/-! ### The parts of what an event upholds -/

/-- The Forward FIFOs hold no more than their places (R13). -/
def State.ForwardsFit (s : State) : Prop :=
  s.ports.field.forward.length ≤ Config.fifoPlaces ∧ s.ports.trunk.forward.length ≤ Config.fifoPlaces

/-- The manifest's numbers rise, its items fit the pool, and the stops fit their list (R109, R110, R122). -/
def State.DropsFit (s : State) : Prop :=
  s.drops.Pairwise (fun a b => a.number < b.number) ∧ (∀ d ∈ s.drops, 1 ≤ d.number ∧ d.number ≤ 64)
    ∧ s.itemsHeld ≤ Config.poolPlaces ∧ s.contexts.length ≤ Config.contextPlaces

theorem manifestSound_iff (s : State) : s.ManifestSound ↔ s.DropsFit ∧ s.claims.queue.length ≤ Config.claimPlaces := by
  simp only [State.ManifestSound, State.DropsFit, and_assoc]

/-- What an event on a route makes of a compartment: the profile stays, the committed time does not move back, the account steps. -/
structure CompKept (k l : Comp) : Prop where
  profile : l.profile = k.profile
  committed : k.window.committed ≤ l.window.committed
  account : AccountStep k.profile k.account l.account

theorem CompKept.refl (k : Comp) : CompKept k k := ⟨rfl, Nat.le_refl _, .refl _ _⟩

theorem CompKept.trans {k l m : Comp} (h : CompKept k l) (g : CompKept l m) : CompKept k m :=
  ⟨g.profile.trans h.profile, Nat.le_trans h.committed g.committed, h.account.trans (h.profile ▸ g.account)⟩

theorem CompStep.kept {k l : Comp} (h : CompStep k l) : CompKept k l := ⟨h.profile, h.committed, h.account⟩

/-- Every place bound in s is bound to the same station in t (R25). -/
def PlacesKept (s t : State) : Prop :=
  ∀ e ∈ s.stations.entries, bindsPlace e.binding = true →
    ∃ e' ∈ t.stations.entries, e'.addr = e.addr ∧ sameBinding e.binding e'.binding = true

theorem sameBinding_refl (b : Binding) : sameBinding b b = true := by cases b <;> simp [sameBinding]

theorem sameBinding_trans {a b c : Binding} (h : sameBinding a b = true) (k : sameBinding b c = true) : sameBinding a c = true := by
  cases a <;> cases b <;> simp [sameBinding] at h <;> cases c <;> simp_all [sameBinding]

/-- Bindings that agree both bind a place, or neither does. -/
theorem sameBinding_bindsPlace {a b : Binding} (h : sameBinding a b = true) : bindsPlace b = bindsPlace a := by
  cases a <;> cases b <;> simp_all [sameBinding, bindsPlace]

theorem PlacesKept.trans {s t u : State} (h : PlacesKept s t) (k : PlacesKept t u) : PlacesKept s u := fun e he hb => by
  obtain ⟨e', he', haddr, hsame⟩ := h e he hb
  obtain ⟨e'', he'', haddr', hsame'⟩ := k e' he' (by rw [sameBinding_bindsPlace hsame]; exact hb)
  exact ⟨e'', he'', haddr'.trans haddr, sameBinding_trans hsame hsame'⟩

/-- What an event on a route leaves of the route's tables, and keeps of its compartments (R25, R39, R44, R73, R106, R108, R115). -/
structure HoldsRoute (s t : State) : Prop where
  clock : t.clock = s.clock
  classes : t.classes = s.classes
  settleDelay : t.config.settleDelay = s.config.settleDelay
  arrivalLead : t.config.arrivalLead = s.config.arrivalLead
  routeId : t.route.id = s.route.id
  openTime : t.route.openTime = s.route.openTime
  comps : ∀ k, CompKept (s.comp k) (t.comp k)
  places : s.StationsSound → PlacesKept s t

/-- What an event upholds, with n answers given in it out of the places reserved; the tables of a route when p. -/
structure Upholds (p : Prop) (n : Nat) (s t : State) : Prop where
  pending : t.pending = s.pending
  power : t.power = s.power
  reserved : t.ports.reserved = s.ports.reserved - n
  replies : n ≤ s.ports.reserved → s.RepliesFit → t.RepliesFit
  forwards : s.ForwardsFit → t.ForwardsFit
  values : s.ValuesInRange → t.ValuesInRange
  stations : s.StationsSound → t.StationsSound
  ordered : s.WindowsOrdered → t.WindowsOrdered
  grades : s.GradesAgree → t.GradesAgree
  drops : s.DropsFit → t.DropsFit
  route : p → HoldsRoute s t

theorem HoldsRoute.trans {s t u : State} (h : HoldsRoute s t) (k : HoldsRoute t u) (hs : s.StationsSound → t.StationsSound) :
    HoldsRoute s u :=
  ⟨k.clock.trans h.clock, k.classes.trans h.classes, k.settleDelay.trans h.settleDelay, k.arrivalLead.trans h.arrivalLead,
    k.routeId.trans h.routeId, k.openTime.trans h.openTime, fun c => (h.comps c).trans (k.comps c),
    fun hsound => (h.places hsound).trans (k.places (hs hsound))⟩

theorem Upholds.trans {p : Prop} {m n : Nat} {s t u : State} (h : Upholds p m s t) (k : Upholds p n t u) : Upholds p (m + n) s u where
  pending := k.pending.trans h.pending
  power := k.power.trans h.power
  reserved := by rw [k.reserved, h.reserved]; omega
  replies hr hs := k.replies (by rw [h.reserved]; omega) (h.replies (by omega) hs)
  forwards := k.forwards ∘ h.forwards
  values := k.values ∘ h.values
  stations := k.stations ∘ h.stations
  ordered := k.ordered ∘ h.ordered
  grades := k.grades ∘ h.grades
  drops := k.drops ∘ h.drops
  route hp := (h.route hp).trans (k.route hp) h.stations

/-- What is upheld under a weaker condition is under a stronger one. -/
theorem Upholds.weaken {p q : Prop} {n : Nat} {s t : State} (h : Upholds p n s t) (hq : q → p) : Upholds q n s t :=
  { h with route := h.route ∘ hq }

/-! ### Calm changes -/

/-- A change that leaves part time, the settings, the tables and the identity of the route: what it makes of the rest, in the terms of the parts. Fields not given are the same in both states. -/
structure Calm (n : Nat) (s t : State) : Prop where
  pending : t.pending = s.pending := by rfl
  power : t.power = s.power := by rfl
  clock : t.clock = s.clock := by rfl
  config : t.config = s.config := by rfl
  classes : t.classes = s.classes := by rfl
  reserved : t.ports.reserved = s.ports.reserved - n := by rfl
  replies : n ≤ s.ports.reserved → s.RepliesFit → t.RepliesFit := by exact fun _ h => h
  forwards : s.ForwardsFit → t.ForwardsFit := by exact id
  alerts : s.AlertsInRange → t.AlertsInRange := by exact id
  stations : t.stations.entries.map (fun e => (e.addr, e.binding)) = s.stations.entries.map (fun e => (e.addr, e.binding)) := by rfl
  routeId : t.route.id = s.route.id := by rfl
  openTime : t.route.openTime = s.route.openTime := by rfl
  onRoute : t.onRoute = true → s.onRoute = true := by exact id
  comps : ∀ k, CompKept (s.comp k) (t.comp k) := by exact fun k => CompKept.refl _
  ordered : s.WindowsOrdered → t.WindowsOrdered := by exact id
  sizes : (t.drops.map fun d => (d.number, d.items.length)).Sublist (s.drops.map fun d => (d.number, d.items.length)) := by
    exact List.Sublist.refl _
  contexts : s.contexts.length ≤ Config.contextPlaces → t.contexts.length ≤ Config.contextPlaces := by exact id

theorem itemsHeld_eq (s : State) : s.itemsHeld = ((s.drops.map fun d => (d.number, d.items.length)).map (·.2)).sum := by
  simp [State.itemsHeld, List.map_map, Function.comp_def]

theorem sum_le_of_sublist {l m : List Nat} (h : l.Sublist m) : l.sum ≤ m.sum := by
  induction h with
  | slnil => exact Nat.le_refl _
  | cons a _ ih =>
    rw [List.sum_cons]
    exact Nat.le_trans ih (Nat.le_add_left _ _)
  | cons_cons a _ ih =>
    rw [List.sum_cons, List.sum_cons]
    exact Nat.add_le_add_left ih a

theorem DropsFit_of_sizes {s t : State}
    (h : (t.drops.map fun d => (d.number, d.items.length)).Sublist (s.drops.map fun d => (d.number, d.items.length)))
    (hc : s.contexts.length ≤ Config.contextPlaces → t.contexts.length ≤ Config.contextPlaces) (hs : s.DropsFit) : t.DropsFit := by
  obtain ⟨hrise, hrange, hpool, hctx⟩ := hs
  have hnumbers : (t.drops.map (·.number)).Sublist (s.drops.map (·.number)) := by
    simpa [List.map_map, Function.comp_def] using h.map Prod.fst
  refine ⟨?_, fun d hd => ?_, ?_, hc hctx⟩
  · exact List.pairwise_map.1 ((List.pairwise_map.2 hrise).sublist hnumbers)
  · obtain ⟨e, he, heq⟩ := List.mem_map.1 (hnumbers.subset (List.mem_map_of_mem hd))
    exact heq ▸ hrange e he
  · refine Nat.le_trans ?_ hpool
    rw [itemsHeld_eq, itemsHeld_eq]
    exact sum_le_of_sublist (h.map Prod.snd)

theorem StationsSound_of_entries {s t : State}
    (h : t.stations.entries.map (fun e => (e.addr, e.binding)) = s.stations.entries.map (fun e => (e.addr, e.binding)))
    (hs : s.StationsSound) : t.StationsSound := by
  obtain ⟨hlen, hrise, haddr, hapart⟩ := hs
  have hpair : ∀ {r : Byte × Binding → Byte × Binding → Prop},
      s.stations.entries.Pairwise (fun a b => r (a.addr, a.binding) (b.addr, b.binding)) →
      t.stations.entries.Pairwise (fun a b => r (a.addr, a.binding) (b.addr, b.binding)) := fun {r} hp => by
    have := List.pairwise_map (f := fun e : Station => (e.addr, e.binding)) (R := r).2 hp
    rw [← h] at this
    exact List.pairwise_map.1 this
  refine ⟨?_, hpair (r := fun a b => a.1.toNat < b.1.toNat) hrise, fun e he => ?_,
    hpair (r := fun a b => bindsPlace a.2 = true → sameBinding a.2 b.2 = false) hapart⟩
  · have := congrArg List.length h
    simp only [List.length_map] at this
    omega
  · have hm : (e.addr, e.binding) ∈ s.stations.entries.map (fun e => (e.addr, e.binding)) := h ▸ List.mem_map_of_mem he
    obtain ⟨e', he', heq⟩ := List.mem_map.1 hm
    have := haddr e' he'
    simp only [Prod.mk.injEq] at heq
    rwa [heq.1] at this

theorem PlacesKept_of_entries {s t : State}
    (h : t.stations.entries.map (fun e => (e.addr, e.binding)) = s.stations.entries.map (fun e => (e.addr, e.binding))) :
    PlacesKept s t := fun e he _ => by
  have hm : (e.addr, e.binding) ∈ t.stations.entries.map (fun e => (e.addr, e.binding)) := h ▸ List.mem_map_of_mem he
  obtain ⟨e', he', heq⟩ := List.mem_map.1 hm
  simp only [Prod.mk.injEq] at heq
  exact ⟨e', he', heq.1, heq.2 ▸ sameBinding_refl _⟩

theorem Calm.upholds {n : Nat} {s t : State} (h : Calm n s t) (p : Prop) : Upholds p n s t where
  pending := h.pending
  power := h.power
  reserved := h.reserved
  replies := h.replies
  forwards := h.forwards
  values hv := by
    obtain ⟨htime, hset, hcomp, hclass, hmask, htable⟩ := hv
    obtain ⟨hmask', htable'⟩ := h.alerts ⟨hmask, htable⟩
    refine ⟨by rw [h.clock]; exact htime, by rw [h.config]; exact hset, fun c => ?_, by rw [h.classes]; exact hclass, hmask', htable'⟩
    exact ⟨by rw [(h.comps c).profile]; exact (hcomp c).1, (h.comps c).account.range (hcomp c).2⟩
  stations := StationsSound_of_entries h.stations
  ordered := h.ordered
  grades hg hon c := by
    rw [(h.comps c).profile]
    exact (h.comps c).account.grade (hg (h.onRoute hon) c)
  drops := DropsFit_of_sizes h.sizes h.contexts
  route _ := ⟨h.clock, h.classes, by rw [h.config], by rw [h.config], h.routeId, h.openTime, h.comps,
    fun _ => PlacesKept_of_entries h.stations⟩

theorem Calm.refl (s : State) : Calm 0 s s := {}

theorem Upholds.refl (p : Prop) (s : State) : Upholds p 0 s s := (Calm.refl s).upholds p

/-- Accounting that keeps the windows in order is calm. -/
theorem AccountFrame.calm {s t : State} (h : AccountFrame s t) (ho : s.WindowsOrdered → t.WindowsOrdered) : Calm 0 s t where
  pending := h.pending
  power := h.power
  clock := h.clock
  config := h.config
  classes := h.classes
  reserved := h.reserved
  replies _ := h.replies
  forwards := by simp only [State.ForwardsFit, h.fieldForward, h.trunkForward]; exact id
  alerts := h.alertRange
  stations := by rw [h.stations]
  routeId := by rw [h.route]
  openTime := by rw [h.route]
  onRoute := by simp only [State.onRoute, h.route]; exact id
  comps k := (h.comps k).kept
  ordered := ho
  sizes := h.drops ▸ List.Sublist.refl _
  contexts hs := Nat.le_trans h.contexts hs

theorem SettleFrame.calm {s t : State} (h : SettleFrame s t) : Calm 0 s t :=
  h.toAccountFrame.calm fun hs c => by rw [h.windows]; exact hs c

/-! ### What LOCKOUT freezes -/

/-- A compartment as LOCKOUT freezes it: all of it but the live items of its doors (R59, R101). -/
structure CompFrozen (k l : Comp) : Prop where
  profile : l.profile = k.profile
  window : l.window = k.window
  account : l.account = k.account
  totals : l.totals = k.totals
  doors : ∀ p : Fin 2, l.doors[p].settled = k.doors[p].settled ∧ l.doors[p].since = k.doors[p].since

theorem CompFrozen.refl (k : Comp) : CompFrozen k k := ⟨rfl, rfl, rfl, rfl, fun _ => ⟨rfl, rfl⟩⟩

theorem CompFrozen.trans {k l m : Comp} (h : CompFrozen k l) (g : CompFrozen l m) : CompFrozen k m :=
  ⟨g.profile.trans h.profile, g.window.trans h.window, g.account.trans h.account, g.totals.trans h.totals,
    fun p => ⟨(g.doors p).1.trans (h.doors p).1, (g.doors p).2.trans (h.doors p).2⟩⟩

/-- The route without its staged part. -/
def Route.unstaged (r : Route) : Route := { r with staged := none }

/-- What an event in LOCKOUT leaves (R59, R101, R142, R161, R192). Fields not given are the same in both states. -/
structure Frozen (s t : State) : Prop where
  lockout : t.store.lockout = s.store.lockout := by rfl
  comps : ∀ k, CompFrozen (s.comp k) (t.comp k) := by exact fun k => CompFrozen.refl _
  drops : t.drops = s.drops := by rfl
  contexts : t.contexts = s.contexts := by rfl
  route : t.route.unstaged = s.route.unstaged := by rfl
  classes : t.classes = s.classes := by rfl
  config : t.config = s.config := by rfl
  clock : t.clock = s.clock := by rfl
  classTable : t.pass.classTable = s.pass.classTable := by rfl
  upRoute : t.pass.upRoute = s.pass.upRoute := by rfl
  upIdle : t.pass.upIdle = s.pass.upIdle := by rfl
  downRoute : t.pass.downRoute = s.pass.downRoute := by rfl
  downIdle : t.pass.downIdle = s.pass.downIdle := by rfl
  nextNumber : t.store.nextNumber = s.store.nextNumber := by rfl
  chain : t.store.chain = s.store.chain := by rfl

theorem Frozen.refl (s : State) : Frozen s s := {}

theorem Frozen.trans {s t u : State} (h : Frozen s t) (k : Frozen t u) : Frozen s u where
  lockout := k.lockout.trans h.lockout
  comps c := (h.comps c).trans (k.comps c)
  drops := k.drops.trans h.drops
  contexts := k.contexts.trans h.contexts
  route := k.route.trans h.route
  classes := k.classes.trans h.classes
  config := k.config.trans h.config
  clock := k.clock.trans h.clock
  classTable := k.classTable.trans h.classTable
  upRoute := k.upRoute.trans h.upRoute
  upIdle := k.upIdle.trans h.upIdle
  downRoute := k.downRoute.trans h.downRoute
  downIdle := k.downIdle.trans h.downIdle
  nextNumber := k.nextNumber.trans h.nextNumber
  chain := k.chain.trans h.chain

/-! ### The whole of what an event does -/

/-- What the last part of an event may do to the store besides: free slots (R158). -/
structure StoreMove (s t : State) : Prop where
  sound : s.StoreSound → t.StoreSound
  records : s.StoreSound → ∀ i, (s.slot i).Keeps (t.slot i) ∨ t.slot i = .free
  settled : s.LockoutSettled → t.LockoutSettled
  claims : s.claims.queue.length ≤ Config.claimPlaces → t.claims.queue.length ≤ Config.claimPlaces

theorem StoreEvent.move {s t : State} (h : StoreEvent s t) : StoreMove s t :=
  ⟨h.sound, fun hs i => .inl (h.records hs i), h.settled, h.claims⟩

/-- An event, or a part of one, that keeps the records: what it upholds, what it keeps of the store, and what LOCKOUT freezes of it. -/
structure Carries (p : Prop) (n : Nat) (s t : State) : Prop where
  upholds : Upholds p n s t
  store : StoreEvent s t
  frozen : s.store.lockout = true → s.LockoutSettled → Frozen s t

/-- An event, or the last part of one. -/
structure Handles (p : Prop) (n : Nat) (s t : State) : Prop where
  upholds : Upholds p n s t
  store : StoreMove s t
  frozen : s.store.lockout = true → s.LockoutSettled → Frozen s t

theorem Carries.handles {p : Prop} {n : Nat} {s t : State} (h : Carries p n s t) : Handles p n s t :=
  ⟨h.upholds, h.store.move, h.frozen⟩

theorem Carries.refl (p : Prop) (s : State) : Carries p 0 s s := ⟨.refl p s, .refl s, fun _ _ => .refl s⟩

theorem Carries.trans {p : Prop} {m n : Nat} {s t u : State} (h : Carries p m s t) (k : Carries p n t u) : Carries p (m + n) s u where
  upholds := h.upholds.trans k.upholds
  store := h.store.trans k.store
  frozen hl hs := by
    have hst := h.frozen hl hs
    exact hst.trans (k.frozen (hst.lockout.trans hl) (h.store.settled hs))

/-- A part that keeps the records, and then the last part. -/
theorem Carries.andThen {p : Prop} {m n : Nat} {s t u : State} (h : Carries p m s t) (k : Handles p n t u) :
    Handles p (m + n) s u where
  upholds := h.upholds.trans k.upholds
  store := by
    refine ⟨k.store.sound ∘ h.store.sound, fun hs i => ?_, k.store.settled ∘ h.store.settled, k.store.claims ∘ h.store.claims⟩
    exact (k.store.records (h.store.sound hs) i).imp_left (h.store.records hs i).trans
  frozen hl hs := by
    have hst := h.frozen hl hs
    exact hst.trans (k.frozen (hst.lockout.trans hl) (h.store.settled hs))

theorem Carries.weaken {p q : Prop} {n : Nat} {s t : State} (h : Carries p n s t) (hq : q → p) : Carries q n s t :=
  ⟨h.upholds.weaken hq, h.store, h.frozen⟩

/-- An event that is not in LOCKOUT. -/
theorem Carries.of_unlocked {p : Prop} {n : Nat} {s t : State} (hl : s.store.lockout = false) (h : Upholds p n s t)
    (hs : StoreEvent s t) : Carries p n s t :=
  ⟨h, hs, fun hlock => by rw [hl] at hlock; exact absurd hlock (by simp)⟩

/-- A calm change that leaves the store, the claims and the reservations, and what LOCKOUT freezes. -/
theorem Calm.carries {p : Prop} {n : Nat} {s t : State} (h : Calm n s t) (hs : SameStore s t) (hf : Frozen s t) :
    Carries p n s t := ⟨h.upholds p, hs.event, fun _ _ => hf⟩

/-- The same with a change of the store. -/
theorem foldl_carries {α : Type} {p : Prop} {f : State → α → State} (h : ∀ s a, Carries p 0 s (f s a)) (l : List α) (s : State) :
    Carries p 0 s (l.foldl f s) := by
  induction l generalizing s with
  | nil => exact .refl p s
  | cons a l ih => exact (h s a).trans (ih _)

theorem foldl_upholds {α : Type} {p : Prop} {f : State → α → State} (h : ∀ s a, Upholds p 0 s (f s a)) (l : List α) (s : State) :
    Upholds p 0 s (l.foldl f s) := by
  induction l generalizing s with
  | nil => exact .refl p s
  | cons a l ih => exact (h s a).trans (ih _)

end Sys2Proof.Machine
end

section
/-! SUPPORT. What retirement, hand-over, the end of a route, the stops and the deadlines uphold, said once for each operation. -/
namespace Sys2Proof.Machine

/-- Accounting that keeps the windows in order. -/
structure WindowFrame (s t : State) : Prop extends AccountFrame s t where
  ordered : s.WindowsOrdered → t.WindowsOrdered

theorem WindowFrame.refl (s : State) : WindowFrame s s := ⟨.refl s, id⟩

theorem WindowFrame.trans {s t u : State} (h : WindowFrame s t) (k : WindowFrame t u) : WindowFrame s u :=
  ⟨h.toAccountFrame.trans k.toAccountFrame, k.ordered ∘ h.ordered⟩

theorem SettleFrame.window {s t : State} (h : SettleFrame s t) : WindowFrame s t :=
  ⟨h.toAccountFrame, fun hs c => by rw [h.windows]; exact hs c⟩

theorem WindowFrame.upholds {s t : State} (h : WindowFrame s t) (p : Prop) : Upholds p 0 s t :=
  (h.toAccountFrame.calm h.ordered).upholds p

theorem SettleFrame.upholds {s t : State} (h : SettleFrame s t) (p : Prop) : Upholds p 0 s t := h.window.upholds p

theorem StoreFrame.upholds {s t : State} (h : StoreFrame s t) (p : Prop) : Upholds p 0 s t := h.settle.upholds p

theorem updWindow_comp (s : State) (c k : Fin 4) (f : Window → Window) :
    (s.updWindow c f).comp k = if k = c then { s.comp c with window := f (s.comp c).window } else s.comp k :=
  State.updComp_comp s c k _

/-- A change of window c that keeps it armed, its order, and its committed time. -/
theorem updWindow_frame {s : State} {c : Fin 4} {f : Window → Window} (ha : (f (s.comp c).window).armed = (s.comp c).window.armed)
    (hc : (f (s.comp c).window).committed = (s.comp c).window.committed)
    (ho : s.WindowsOrdered → windowOrdered (f (s.comp c).window)) : WindowFrame s (s.updWindow c f) where
  toAccountFrame := updComp_frame ⟨rfl, ha, Nat.le_of_eq hc.symm, fun _ => ⟨rfl, rfl⟩, .refl _ _⟩
  ordered hs k := by
    rw [updWindow_comp]
    split
    · exact ho hs
    · exact hs k

/-! ### Retirement -/

/-- A change of compartment c that leaves its window, its profile, its account and the live items of its doors. -/
theorem updComp_settle {s : State} {c : Fin 4} {f : Comp → Comp} (h : CompStep (s.comp c) (f (s.comp c)))
    (hw : (f (s.comp c)).window = (s.comp c).window) : SettleFrame s (s.updComp c f) :=
  ⟨updComp_frame h, fun k => by
    rw [State.updComp_comp]
    split
    · next e => subst e; exact hw
    · rfl⟩

theorem updDoor_settle {s : State} {c : Fin 4} {p : Fin 2} {f : DoorSlot → DoorSlot}
    (h : ∀ x, (f x).opening = x.opening ∧ (f x).deadline = x.deadline) : SettleFrame s (s.updDoor c p f) :=
  updComp_settle ⟨rfl, rfl, Nat.le_refl _, fun q => by
    simp only [Fin.getElem_fin, Vector.getElem_set]
    split
    · next e =>
      have hq : p = q := Fin.ext e
      subst hq
      exact h _
    · exact ⟨rfl, rfl⟩, .refl _ _⟩ rfl

theorem countOpening_frame (c : Fin 4) (t : Nat) (s : State) : SettleFrame s (countOpening c t s) := by
  unfold countOpening
  exact updComp_settle ⟨rfl, rfl, Nat.le_refl _, fun _ => ⟨rfl, rfl⟩, .refl _ _⟩ rfl

theorem applyDoor_frame (c : Fin 4) (p : Fin 2) (d : DoorState) (t : Nat) (s : State) : SettleFrame s (applyDoor c p d t s) := by
  have hset : SettleFrame s (s.updDoor c p fun x => { x with settled := d, since := t }) := updDoor_settle fun _ => ⟨rfl, rfl⟩
  unfold applyDoor
  dsimp only
  split
  · exact updComp_settle ⟨rfl, rfl, Nat.le_refl _, fun _ => ⟨rfl, rfl⟩, .refl _ _⟩ rfl
  · split
    · exact hset.trans (countOpening_frame c t _)
    · exact hset

theorem applyEvent_frame (c : Fin 4) (ev : PendingEvent) (s : State) : SettleFrame s (applyEvent c ev s) := by
  unfold applyEvent applySample
  split
  · exact (updAccount_frame ⟨id, fun _ => ⟨Nat.le_refl _, Nat.le_refl _, Nat.le_refl _, Nat.le_refl _, Nat.le_refl _,
      Nat.le_refl _, id, id⟩, id⟩).trans (evalTg_frame c _ _)
  · exact applyDoor_frame _ _ _ _ s

/-- Charging up to b, which no event pending precedes, keeps the order. -/
theorem chargeTo_window_frame {c : Fin 4} {b : Nat} {s : State} (h : s.WindowsOrdered → ∀ e ∈ (s.comp c).window.events, b ≤ e.time) :
    WindowFrame s (chargeTo c b s) := by
  have hf := chargeTo_frame c b s
  refine ⟨hf.toAccountFrame, fun hs k => ?_⟩
  by_cases hk : k = c
  · subst hk
    obtain ⟨hrise, hlow, hlen⟩ := hs k
    rw [hf.window]
    refine ⟨hrise, fun e he => ?_, hlen⟩
    exact Nat.le_trans hf.bound (Nat.max_le.2 ⟨hlow e he, h hs e he⟩)
  · rw [hf.others k hk]; exact hs k

/-- The head event of an ordered window is its earliest. -/
theorem windowOrdered_head {w : Window} {ev : PendingEvent} {rest : List PendingEvent} (h : windowOrdered w)
    (he : w.events = ev :: rest) : ∀ e ∈ w.events, ev.time ≤ e.time := fun e hm => by
  obtain ⟨hrise, -, -⟩ := h
  rw [he] at hrise hm
  rcases List.mem_cons.1 hm with rfl | hm
  · exact Nat.le_refl _
  · exact (List.pairwise_cons.1 hrise).1 e hm

theorem windowOrdered_tail {w : Window} (h : windowOrdered w) : windowOrdered { w with events := w.events.tail } := by
  obtain ⟨hrise, hlow, hlen⟩ := h
  refine ⟨hrise.sublist (List.tail_sublist _), fun e he => hlow e (List.mem_of_mem_tail he), ?_⟩
  simp only [List.length_tail]
  omega

theorem finishRetirement_frame (c : Fin 4) (ev : PendingEvent) (s : State) : WindowFrame s (finishRetirement c ev s) := by
  unfold finishRetirement
  split
  · exact .refl s
  · refine .trans ?_ (applyEvent_frame c ev _).window
    exact updWindow_frame rfl rfl fun hs => windowOrdered_tail (hs c)

theorem retireHead_frame {c : Fin 4} {ev : PendingEvent} {rest : List PendingEvent} {s : State}
    (he : (s.comp c).window.events = ev :: rest) : WindowFrame s (retireHead c ev s) :=
  (chargeTo_window_frame fun hs => windowOrdered_head (hs c) he).trans (finishRetirement_frame c ev _)

/-- A retirement leaves the events after the head, unless its charging enters LOCKOUT; and the committed time is not behind both what it was and the event's. -/
theorem retireHead_window {c : Fin 4} {ev : PendingEvent} {s : State} (hl : (retireHead c ev s).lockedOut = false) :
    ((retireHead c ev s).comp c).window.events = (s.comp c).window.events.tail
      ∧ ((retireHead c ev s).comp c).window.committed ≤ max (s.comp c).window.committed ev.time := by
  have hf := chargeTo_frame c ev.time s
  have hlc : (chargeTo c ev.time s).lockedOut = false := by
    cases hlock : (chargeTo c ev.time s).lockedOut
    · rfl
    · rw [retireHead, finishRetirement, if_pos hlock, hlock] at hl; exact absurd hl (by simp)
  rw [retireHead, finishRetirement, if_neg (by simp [hlc]), (applyEvent_frame c ev _).windows, updWindow_comp, if_pos rfl]
  refine ⟨?_, hf.bound⟩
  dsimp only
  rw [hf.window]

theorem retireWhile_frame (c : Fin 4) (due : Nat → Bool) (fuel : Nat) (s : State) : WindowFrame s (retireWhile c due fuel s) := by
  induction fuel generalizing s with
  | zero => exact .refl s
  | succ fuel ih =>
    unfold retireWhile
    split
    · split
      · exact .refl s
      · next he =>
        split
        · exact (retireHead_frame he).trans (ih _)
        · exact .refl s
    · exact .refl s

theorem retireAll_frame (c : Fin 4) (due : Nat → Bool) (s : State) : WindowFrame s (retireAll c due s) := retireWhile_frame c due _ s

theorem windowWorks_iff (s : State) (c : Fin 4) :
    windowWorks (s.windowMode c) = true ↔ s.store.lockout = false ∧ (s.comp c).window.armed = true ∧ s.onRoute = true := by
  unfold State.windowMode State.lockedOut State.onRoute
  cases s.store.lockout <;> cases (s.comp c).window.armed <;> cases s.route.state <;> decide

/-- In LOCKOUT no window works. -/
theorem windowWorks_locked {s : State} (h : s.store.lockout = true) (c : Fin 4) : windowWorks (s.windowMode c) = false := by
  rw [State.windowMode, State.lockedOut, if_pos h]; rfl

/-- Once the events due have retired, the head of the window is not due, or there is none; unless LOCKOUT was entered. -/
theorem retireWhile_done {c : Fin 4} {due : Nat → Bool} {fuel : Nat} {s : State} (hw : windowWorks (s.windowMode c) = true)
    (hfuel : (s.comp c).window.events.length ≤ fuel) (hl : (retireWhile c due fuel s).store.lockout = false) :
    ∀ ev ∈ ((retireWhile c due fuel s).comp c).window.events.head?, due ev.time = false := by
  induction fuel generalizing s with
  | zero =>
    have hnil : (s.comp c).window.events = [] := List.eq_nil_of_length_eq_zero (Nat.le_zero.1 hfuel)
    simp [retireWhile, hnil]
  | succ fuel ih =>
    unfold retireWhile at hl ⊢
    rw [if_pos hw] at hl ⊢
    split at hl
    · next he => simp [he]
    · next ev rest he =>
      split at hl
      · next hd =>
        rw [if_pos hd]
        have hf := retireHead_frame he
        have hrl : (retireHead c ev s).store.lockout = false := by
          cases hlock : (retireHead c ev s).store.lockout
          · rfl
          · rw [(retireWhile_frame c due fuel _).lockout hlock] at hl; exact absurd hl (by simp)
        refine ih ?_ ?_ hl
        · obtain ⟨-, harmed, hon⟩ := (windowWorks_iff s c).1 hw
          exact (windowWorks_iff _ c).2 ⟨hrl, by rw [(hf.comps c).armed]; exact harmed, by rw [State.onRoute, hf.route]; exact hon⟩
        · rw [(retireHead_window hrl).1, he]
          rw [he] at hfuel
          simpa using hfuel
      · next hd =>
        rw [if_neg hd]
        simpa [he] using hd

/-- Every event that LOCKOUT left pending when those before T retired is at or after T. -/
theorem retireAll_before {c : Fin 4} {T : Nat} {s : State} (hw : windowWorks (s.windowMode c) = true) (ho : s.WindowsOrdered)
    (hl : (retireAll c (fun t => t < T) s).store.lockout = false) :
    ∀ e ∈ ((retireAll c (fun t => t < T) s).comp c).window.events, T ≤ e.time := by
  have hdone := retireWhile_done hw (Nat.le_refl _) hl
  have hord := (retireAll_frame c (fun t => t < T) s).ordered ho c
  intro e he
  cases hev : ((retireAll c (fun t => t < T) s).comp c).window.events with
  | nil => rw [hev] at he; exact absurd he (by simp)
  | cons x xs =>
    have hx : T ≤ x.time := by
      have := hdone x (by change x ∈ (((retireAll c (fun t => t < T) s).comp c).window.events).head?; rw [hev]; simp)
      simpa using this
    exact Nat.le_trans hx (windowOrdered_head hord hev e he)

theorem advanceTo_frame (c : Fin 4) (T : Nat) (s : State) : WindowFrame s (advanceTo c T s) := by
  unfold advanceTo
  dsimp only
  split
  · next hw =>
    simp only [Bool.and_eq_true] at hw
    have hretire := retireAll_frame c (fun t => t < T) s
    split
    · exact hretire
    · next hl =>
      refine ⟨hretire.toAccountFrame.trans (chargeTo_frame c T _).toAccountFrame, fun ho => ?_⟩
      have hcharge : WindowFrame (retireAll c (fun t => t < T) s) (chargeTo c T (retireAll c (fun t => t < T) s)) :=
        chargeTo_window_frame fun _ => retireAll_before hw.1 ho (eq_false_of_ne_true hl)
      exact hcharge.ordered (hretire.ordered ho)
  · exact .refl s

theorem foldl_window {α : Type} {f : State → α → State} (h : ∀ s a, WindowFrame s (f s a)) (l : List α) (s : State) :
    WindowFrame s (l.foldl f s) := by
  induction l generalizing s with
  | nil => exact .refl s
  | cons a l ih => exact (h s a).trans (ih _)

/-! ### Hand-over -/

theorem refuseLate_frame (c : Fin 4) (ev : PendingEvent) (s : State) : SettleFrame s (refuseLate c ev s) := by
  refine (updAccount_frame ⟨?_, ?_, id⟩).trans (raise_frame _ _ _ _).settle
  · intro ⟨h1, h2, h3, h4, h5, _, h7⟩
    refine ⟨h1, h2, h3, h4, h5, satInc_le _ _, ?_⟩
    dsimp only
    split
    · exact satInc_le _ _
    · exact h7
  · intro ⟨_, _, _, _, _, h6, h7⟩
    refine ⟨Nat.le_refl _, Nat.le_refl _, Nat.le_refl _, Nat.le_refl _, le_satInc h6, ?_, id, id⟩
    dsimp only
    split
    · exact le_satInc h7
    · exact Nat.le_refl _

theorem reportForced_frame (c : Fin 4) (t : Nat) (s : State) : WindowFrame s (reportForced c t s) :=
  .trans (updWindow_frame rfl rfl fun hs => hs c) (raise_frame _ _ _ _).settle.window

theorem numberArrival_frame (c : Fin 4) (s : State) : WindowFrame s (numberArrival c s) :=
  updWindow_frame rfl rfl fun hs => hs c

theorem mem_insertEvent {ev e : PendingEvent} {l : List PendingEvent} : e ∈ insertEvent ev l ↔ e = ev ∨ e ∈ l := by
  induction l with
  | nil => simp [insertEvent]
  | cons x xs ih =>
    unfold insertEvent
    split
    · simp only [List.mem_cons, ih]
      exact or_left_comm
    · simp only [List.mem_cons]

theorem length_insertEvent (ev : PendingEvent) (l : List PendingEvent) : (insertEvent ev l).length = l.length + 1 := by
  induction l with
  | nil => rfl
  | cons x xs ih =>
    unfold insertEvent
    split
    · simp [ih]
    · rfl

theorem insertEvent_rises (ev : PendingEvent) {l : List PendingEvent} (h : l.Pairwise fun a b => a.time ≤ b.time) :
    (insertEvent ev l).Pairwise fun a b => a.time ≤ b.time := by
  induction l with
  | nil => simp [insertEvent]
  | cons x xs ih =>
    obtain ⟨hx, hxs⟩ := List.pairwise_cons.1 h
    unfold insertEvent
    split
    · next hle =>
      refine List.pairwise_cons.2 ⟨fun e he => ?_, ih hxs⟩
      rcases mem_insertEvent.1 he with rfl | he
      · exact hle
      · exact hx e he
    · next hgt =>
      refine List.pairwise_cons.2 ⟨fun e he => ?_, h⟩
      rcases List.mem_cons.1 he with rfl | he
      · omega
      · have := hx e he; omega

theorem windowOrdered_insert {w : Window} {ev : PendingEvent} (h : windowOrdered w) (hc : w.committed ≤ ev.time)
    (hl : w.events.length < Config.windowPlaces) (n : Nat) : windowOrdered { w with events := insertEvent ev w.events, inserted := n } := by
  obtain ⟨hrise, hlow, -⟩ := h
  refine ⟨insertEvent_rises ev hrise, fun e he => ?_, ?_⟩
  · rcases mem_insertEvent.1 he with rfl | he
    · exact hc
    · exact hlow e he
  · rw [length_insertEvent]; exact hl

theorem insertAndSettle_frame {c : Fin 4} {ev : PendingEvent} {s : State}
    (h : s.WindowsOrdered → (s.comp c).window.committed ≤ ev.time ∧ (s.comp c).window.events.length < Config.windowPlaces) :
    WindowFrame s (insertAndSettle c ev s) := by
  have hjoin : WindowFrame s (joinWindow c ev s) :=
    updWindow_frame rfl rfl fun hs => windowOrdered_insert (hs c) (h hs).1 (h hs).2 _
  unfold insertAndSettle
  dsimp only
  split
  · exact hjoin.trans (retireAll_frame c _ _)
  · exact hjoin

theorem retireArriving_frame {c : Fin 4} {x ev : PendingEvent} {xs : List PendingEvent} {s : State}
    (he : (s.comp c).window.events = x :: xs) (hlt : ev.time < x.time) : WindowFrame s (retireArriving c ev s) := by
  have hcharge : WindowFrame s (chargeTo c ev.time s) :=
    chargeTo_window_frame fun hs e hm => Nat.le_trans (Nat.le_of_lt hlt) (windowOrdered_head (hs c) he e hm)
  unfold retireArriving
  dsimp only
  split
  · exact hcharge
  · exact (hcharge.trans (applyEvent_frame c ev _).window).trans (reportForced_frame c _ _)

theorem replaceEarliest_frame {c : Fin 4} {x ev : PendingEvent} {xs : List PendingEvent} {s : State}
    (he : (s.comp c).window.events = x :: xs) (hle : x.time ≤ ev.time) (hc : (s.comp c).window.committed ≤ ev.time) :
    WindowFrame s (replaceEarliest c x ev s) := by
  have hretire := retireHead_frame he
  unfold replaceEarliest
  dsimp only
  split
  · exact hretire
  · next hl =>
    obtain ⟨hevents, hcommitted⟩ := retireHead_window (c := c) (ev := x) (s := s) (by simpa using hl)
    have hreport := hretire.trans (reportForced_frame c x.time _)
    have hwindow : ((reportForced c x.time (retireHead c x s)).comp c).window.committed = ((retireHead c x s).comp c).window.committed
        ∧ ((reportForced c x.time (retireHead c x s)).comp c).window.events = ((retireHead c x s).comp c).window.events := by
      simp [reportForced, updWindow_comp]
    refine ⟨hreport.toAccountFrame.trans ?_, fun ho => ?_⟩
    · unfold insertAndSettle
      have hjoin : AccountFrame (reportForced c x.time (retireHead c x s))
          (joinWindow c ev (reportForced c x.time (retireHead c x s))) := by
        unfold joinWindow State.updWindow
        exact updComp_frame ⟨rfl, rfl, Nat.le_refl _, fun _ => ⟨rfl, rfl⟩, .refl _ _⟩
      dsimp only
      split
      · exact hjoin.trans (retireAll_frame c _ _).toAccountFrame
      · exact hjoin
    · refine (insertAndSettle_frame fun _ => ?_).ordered (hreport.ordered ho)
      rw [hwindow.1, hwindow.2, hevents, he]
      have hlen := (ho c).2.2
      rw [he] at hlen
      exact ⟨Nat.le_trans hcommitted (Nat.max_le.2 ⟨hc, hle⟩), by simp only [List.length_cons] at hlen; simp only [List.tail_cons]; omega⟩

theorem insertIntoWindow_frame {c : Fin 4} {ev : PendingEvent} {s : State} (hc : (s.comp c).window.committed ≤ ev.time) :
    WindowFrame s (insertIntoWindow c ev s) := by
  unfold insertIntoWindow
  split
  · next x xs he =>
    split
    · next hlen => exact insertAndSettle_frame fun _ => ⟨hc, by rw [he]; exact hlen⟩
    · split
      · next hlt => exact retireArriving_frame he hlt
      · next hge => exact replaceEarliest_frame he (Nat.le_of_not_lt hge) hc
  · next he => exact insertAndSettle_frame fun _ => ⟨hc, by rw [he]; decide⟩

theorem handOver_frame (c : Fin 4) (t : Nat) (k : EventContent) (s : State) : WindowFrame s (handOver c t k s) := by
  have hnum := numberArrival_frame c s
  unfold handOver takeEvent
  dsimp only
  split
  · split
    · exact hnum.trans (refuseLate_frame c _ _).window
    · next hlate =>
      split
      · exact hnum.trans (updWindow_frame rfl rfl fun hs => hs c)
      · refine hnum.trans (insertIntoWindow_frame ?_)
        simpa [State.isLate] using hlate
  · exact .refl s

/-- In LOCKOUT nothing is handed over. -/
theorem handOver_locked {s : State} (h : s.store.lockout = true) (c : Fin 4) (t : Nat) (k : EventContent) : handOver c t k s = s := by
  have : s.handsOver c = false := by simp [State.handsOver, State.lockedOut, h]
  simp [handOver, this]

theorem handOver_carries (p : Prop) (c : Fin 4) (t : Nat) (k : EventContent) (s : State) : Carries p 0 s (handOver c t k s) :=
  ⟨(handOver_frame c t k s).upholds p, handOver_event c t k s, fun hl _ => by rw [handOver_locked hl]; exact .refl s⟩

theorem retireWhile_locked {s : State} (h : s.store.lockout = true) (c : Fin 4) (due : Nat → Bool) (n : Nat) :
    retireWhile c due n s = s := by
  cases n with
  | zero => rfl
  | succ n => rw [retireWhile, windowWorks_locked h]; rfl

theorem advanceTo_locked {s : State} (h : s.store.lockout = true) (c : Fin 4) (T : Nat) : advanceTo c T s = s := by
  simp [advanceTo, windowWorks_locked h]

/-! ### The end of a route -/

theorem dropsNotVisited_calm (s : State) : Calm 0 s (dropsNotVisited s) where
  sizes := by
    have hsame : (dropsNotVisited s).drops.map (fun d => (d.number, d.items.length)) = s.drops.map fun d => (d.number, d.items.length) := by
      simp only [dropsNotVisited, List.map_map]
      refine List.map_congr_left fun d _ => ?_
      simp only [Function.comp]
      split <;> rfl
    exact hsame ▸ List.Sublist.refl _

theorem unreserved_calm (s : State) : Calm 0 s s.unreserved := {}

theorem fillRouteClose_upholds (p : Prop) (reason : CloseReason) (s : State) : Upholds p 0 s (fillRouteClose reason s) := by
  unfold fillRouteClose
  split
  · exact ((unreserved_calm s).upholds p).trans ((fillReserved_frame _ (routeCloseBody reason s) s.unreserved).upholds p)
  · exact .refl p s

theorem freeNotVisited_calm (s : State) : Calm 0 s (freeNotVisited s) := by
  rw [freeNotVisited_only]
  exact {}

theorem routeEnded_calm (reason : CloseReason) (s : State) : Calm 0 s (s.routeEnded reason) where
  onRoute h := absurd h (by simp [State.routeEnded, State.onRoute])
  sizes := List.nil_sublist _

theorem discardWindow_frame (c : Fin 4) (s : State) : Calm 0 s (s.updWindow c discardWindow) where
  comps k := by
    rw [updWindow_comp]
    split
    · next e => subst e; exact ⟨rfl, Nat.le_refl _, .refl _ _⟩
    · exact .refl _
  ordered hs k := by
    rw [updWindow_comp]
    split
    · exact ⟨List.Pairwise.nil, fun e he => absurd he (by simp [discardWindow]), Nat.zero_le _⟩
    · exact hs k

theorem finishRoute_upholds (p : Prop) (reason : CloseReason) (s : State) : Upholds p 0 s (finishRoute reason s) := by
  rw [finishRoute_eq]
  have hended := ((freeNotVisited_calm s).upholds p).trans ((routeEnded_calm reason _).upholds p)
  exact hended.trans (foldl_upholds (fun s c => (discardWindow_frame c s).upholds p) _ _)

theorem endRoute_upholds (p : Prop) (reason : CloseReason) (s : State) : Upholds p 0 s (endRoute reason s) := by
  have h := ((dropsNotVisited_calm s).upholds p).trans (fillRouteClose_upholds p reason _)
  unfold endRoute
  dsimp only
  split
  · exact h
  · exact h.trans (finishRoute_upholds p reason _)

theorem endRouteIfComplete_upholds (p : Prop) (s : State) : Upholds p 0 s (endRouteIfComplete s) := by
  unfold endRouteIfComplete
  split
  · exact endRoute_upholds p _ s
  · exact .refl p s

theorem endRouteIfComplete_locked {s : State} (h : s.store.lockout = true) : endRouteIfComplete s = s := by
  simp [endRouteIfComplete, State.routeComplete, State.lockedOut, h]

theorem endRouteIfComplete_carries (p : Prop) (s : State) : Carries p 0 s (endRouteIfComplete s) :=
  ⟨endRouteIfComplete_upholds p s, endRouteIfComplete_event s, fun hl _ => by rw [endRouteIfComplete_locked hl]; exact .refl s⟩

theorem discardPending_frame (c : Fin 4) (s : State) : WindowFrame s (s.updWindow c discardPending) :=
  updWindow_frame rfl rfl fun _ => ⟨List.Pairwise.nil, fun e he => absurd he (by simp [discardPending]), Nat.zero_le _⟩

theorem forceWindow_frame (c : Fin 4) (s : State) : WindowFrame s (forceWindow c s) := by
  unfold forceWindow
  split
  · dsimp only
    split
    · exact retireAll_frame c _ s
    · exact (retireAll_frame c _ s).trans (advanceTo_frame c _ _)
  · dsimp only
    split
    · exact (retireAll_frame c _ s).trans (advanceTo_frame c _ _)
    · exact ((retireAll_frame c _ s).trans (advanceTo_frame c _ _)).trans (discardPending_frame c _)
  · exact .refl s

/-! ### Stops -/

theorem closeDrop_size (d : Drop) : ((closeDrop d).number, (closeDrop d).items.length) = (d.number, d.items.length) := by
  unfold closeDrop
  split
  · simp [clearItems]
  · rfl

/-- A change of drop n that keeps its number and the number of its items. -/
theorem updDrop_settle (n : Nat) {f : Drop → Drop} (h : ∀ d, ((f d).number, (f d).items.length) = (d.number, d.items.length))
    (s : State) : SettleFrame s (s.updDrop n f) := updDrop_frame s n fun d => by simpa using h d

theorem reportAbandoned_frame (x : Context) (T : Nat) (s : State) : SettleFrame s (reportAbandoned x T s) := by
  unfold reportAbandoned
  split
  · exact (raise_frame _ _ _ s).settle.trans ⟨⟨.of_accounts rfl, rfl, fun _ => .refl _, rfl, Nat.le_refl _, Nat.le_refl _⟩, fun _ => rfl⟩
  · exact .refl s

theorem closeStop_frame (n T : Nat) (s : State) : SettleFrame s (closeStop n T s) := by
  unfold closeStop resolveAtClosing
  split
  · exact .refl s
  · next x _ =>
    have hclose := ((updContext_frame s n (closeContext T)).trans (updDrop_settle n closeDrop_size _)).trans
      (reportAbandoned_frame x T _)
    refine hclose.trans (foldl_settle (fun s c => ?_) _ _)
    split
    · exact resolveAt_frame c T s
    · exact .refl s

theorem closeLive_frame (t : Nat) (s : State) : SettleFrame s (closeLive t s) := by
  unfold closeLive; split
  · exact closeStop_frame _ t s
  · exact .refl s

theorem clearItems_size (d : Drop) (v : DropState) :
    (({ clearItems d with state := v } : Drop).number, ({ clearItems d with state := v } : Drop).items.length)
      = (d.number, d.items.length) := by simp [clearItems]

theorem endHandover_frame (n : Nat) (s : State) : SettleFrame s (endHandover n s) :=
  (updContext_frame s n _).trans (updDrop_settle n (fun d => clearItems_size d .active) _)

theorem updStopCounts_frame (f : StopCounts → StopCounts) (s : State) : SettleFrame s (s.updStopCounts f) :=
  ⟨⟨.of_accounts rfl, rfl, fun _ => .refl _, rfl, Nat.le_refl _, Nat.le_refl _⟩, fun _ => rfl⟩

theorem expireIdle_carries (p : Prop) (s : State) : Carries p 0 s (expireIdle s) := by
  refine ⟨?_, (expireIdle_same s).event, fun hl _ => ?_⟩
  · unfold expireIdle
    split
    · exact .refl p s
    · split
      · split
        · exact (((endHandover_frame _ s).trans (raise_frame _ _ _ _).settle).trans (updStopCounts_frame _ _)).upholds p
        · exact .refl p s
      · exact .refl p s
  · rw [expireIdle, State.lockedOut, if_pos hl]; exact .refl s

theorem expireDeparture_carries (p : Prop) (s : State) : Carries p 0 s (expireDeparture s) := by
  refine ⟨?_, expireDeparture_event s, fun hl _ => ?_⟩
  · unfold expireDeparture
    split
    · exact .refl p s
    · split
      · split
        · exact (closeStop_frame _ _ s).upholds p
        · exact .refl p s
      · exact .refl p s
  · rw [expireDeparture, State.lockedOut, if_pos hl]; exact .refl s

theorem advanceTo_carries (p : Prop) (c : Fin 4) (T : Nat) (s : State) : Carries p 0 s (advanceTo c T s) :=
  ⟨(advanceTo_frame c T s).upholds p, advanceTo_event c T s, fun hl _ => by rw [advanceTo_locked hl]; exact .refl s⟩

theorem advanceStopEnd_carries (p : Prop) (n : Nat) (s : State) : Carries p 0 s (advanceStopEnd n s) := by
  unfold advanceStopEnd
  split
  · split
    · split
      · exact (foldl_carries (fun s c => advanceTo_carries p c _ s) _ s).trans (endRouteIfComplete_carries p _)
      · exact .refl p s
    · exact .refl p s
  · exact .refl p s

theorem advanceClose_carries (p : Prop) (s : State) : Carries p 0 s (advanceClose s) := by
  unfold advanceClose
  split
  · split
    · exact (foldl_carries (fun s c => advanceTo_carries p c _ s) _ s).trans (endRouteIfComplete_carries p _)
    · exact .refl p s
  · exact .refl p s

theorem passHorizon_carries (p : Prop) (c : Fin 4) (s : State) : Carries p 0 s (passHorizon c s) := by
  have hretire : Carries p 0 s (retireAll c (horizonDue s) s) :=
    ⟨(retireAll_frame c _ s).upholds p, retireAll_event c _ s, fun hl _ => by rw [retireAll, retireWhile_locked hl]; exact .refl s⟩
  exact hretire.trans (endRouteIfComplete_carries p _)

/-! ### The live view of the doors -/

/-- A change of one door slot's live items. -/
theorem updDoor_carries (p : Prop) (c : Fin 4) (i : Fin 2) {f : DoorSlot → DoorSlot}
    (h : ∀ x, (f x).settled = x.settled ∧ (f x).since = x.since) (s : State) : Carries p 0 s (s.updDoor c i f) := by
  have hcomp : ∀ k, (s.updDoor c i f).comp k
      = if k = c then { s.comp c with doors := (s.comp c).doors.set i.val (f (s.comp c).doors[i]) } else s.comp k :=
    fun k => State.updComp_comp s c k _
  refine Calm.carries ⟨rfl, rfl, rfl, rfl, rfl, rfl, fun _ h => h, id, id, rfl, rfl, rfl, id, fun k => ?_, fun hs k => ?_,
    List.Sublist.refl _, id⟩ ⟨rfl, rfl, rfl⟩ { comps := fun k => ?_ }
  · rw [hcomp]; split
    · next e => subst e; exact ⟨rfl, Nat.le_refl _, .refl _ _⟩
    · exact .refl _
  · rw [hcomp]; split
    · next e => subst e; exact hs _
    · exact hs k
  · rw [hcomp]; split
    · next e =>
      subst e
      refine ⟨rfl, rfl, rfl, rfl, fun q => ?_⟩
      simp only [Fin.getElem_fin, Vector.getElem_set]
      split
      · next e =>
        have hq : i = q := Fin.ext e
        subst hq
        exact h _
      · exact ⟨rfl, rfl⟩
    · exact .refl _

theorem raise_carries (p : Prop) (k : AlertCode) (x : Subject) (v : Option Int) (s : State) : Carries p 0 s (raise k x v s) :=
  ⟨(raise_frame k x v s).upholds p, (raise_same k x v s).event, fun _ _ => {}⟩

theorem expireOpening_carries (p : Prop) (c : Fin 4) (i : Fin 2) (s : State) : Carries p 0 s (expireOpening c i s) := by
  unfold expireOpening
  split
  · split
    · refine .trans (updDoor_carries p c i ?_ s) (raise_carries p _ _ _ _)
      exact fun _ => ⟨rfl, rfl⟩
    · exact .refl p s
  · exact .refl p s

theorem endOpening_carries (p : Prop) (c : Fin 4) (i : Fin 2) (s : State) : Carries p 0 s (endOpening c i s) := by
  unfold endOpening
  exact updDoor_carries p c i (f := fun x => { x with opening := none, deadline := none }) (fun _ => ⟨rfl, rfl⟩) s

theorem liveDoorChange_carries (p : Prop) (c : Fin 4) (i : Fin 2) (old : Option DoorState) (new : DoorState) (t : Nat) (s : State) :
    Carries p 0 s (liveDoorChange c i old new t s) := by
  unfold liveDoorChange
  split
  · exact .refl p s
  · split
    · have hjudge : ∀ s, Carries p 0 s (judgeOpening c i s) := fun s => by
        unfold judgeOpening
        split
        · exact raise_carries p _ _ _ s
        · exact .refl p s
      unfold beginOpening
      refine .trans (updDoor_carries p c i ?_ s) (.trans (expireOpening_carries p c i _) (hjudge _))
      exact fun _ => ⟨rfl, rfl⟩
    · split
      · exact endOpening_carries p c i s
      · exact .refl p s

theorem recoveryDue_carries (p : Prop) (s : State) : Carries p 0 s (recoveryDue s) := by
  refine ⟨(recoveryDue_frame s).upholds p, .of_frame (recoveryDue_frame s) (fun R => recoveryDue_work R s) recoveryDue_settles,
    fun hl hs => ?_⟩
  rw [recoveryDue, (hs hl).1]
  exact .refl s

end Sys2Proof.Machine
end

section
/-! SUPPORT. What the lines, the Pass Path, the Station Table's taking of a frame, the terminal requests and the lodgings uphold and keep, said once for each. -/
namespace Sys2Proof.Machine

/-! ### The ports -/

/-- A change of one port that keeps its reply and Forward queues within what they held. -/
theorem updPort_carries (p : Prop) (q : Port) {f : PortUnit → PortUnit} (s : State)
    (hr : (f (s.port q)).replies.length ≤ (s.port q).replies.length) (hf : (f (s.port q)).forward.length ≤ (s.port q).forward.length) :
    Carries p 0 s (s.updPort q f) := by
  cases q with
  | field =>
    refine Calm.carries { replies := fun _ h => ?_, forwards := fun h => ?_ } ⟨rfl, rfl, rfl⟩ {}
    · obtain ⟨h1, h2, h3⟩ := h
      exact ⟨Nat.le_trans hr h1, h2, h3⟩
    · exact ⟨Nat.le_trans hf h.1, h.2⟩
  | trunk =>
    refine Calm.carries { replies := fun _ h => ?_, forwards := fun h => ?_ } ⟨rfl, rfl, rfl⟩ {}
    · obtain ⟨h1, h2, h3⟩ := h
      exact ⟨h1, Nat.le_trans (Nat.add_le_add_right hr _) h2, h3⟩
    · exact ⟨h.1, Nat.le_trans hf h.2⟩

theorem updPortCounts_carries (p : Prop) (q : Port) (f : PortCounts → PortCounts) (s : State) :
    Carries p 0 s (s.updPortCounts q f) := updPort_carries p q s (Nat.le_refl _) (Nat.le_refl _)

theorem discardFrame_carries (p : Prop) (q : Port) (e : ReceiveFailure) (s : State) : Carries p 0 s (discardFrame q e s) :=
  updPortCounts_carries p q _ s

theorem countReceived_carries (p : Prop) (q : Port) (s : State) : Carries p 0 s (countReceived q s) := updPortCounts_carries p q _ s

theorem countUnhandled_carries (p : Prop) (q : Port) (s : State) : Carries p 0 s (countUnhandled q s) := updPortCounts_carries p q _ s

theorem updDirCounts_carries (p : Prop) (d : Direction) (f : DirCounts → DirCounts) (s : State) : Carries p 0 s (s.updDirCounts d f) := by
  cases d <;> exact Calm.carries {} ⟨rfl, rfl, rfl⟩ {}

/-- A frame joins a Forward FIFO with a place free (R13). -/
theorem forwardFrame_carries (p : Prop) (q : Port) (f : QFrame) {s : State} (h : (s.port q).forward.length < Config.fifoPlaces) :
    Carries p 0 s (s.updPort q fun u => { u with forward := u.forward ++ [f] }) := by
  cases q with
  | field =>
    refine Calm.carries { forwards := fun hs => ⟨?_, hs.2⟩ } ⟨rfl, rfl, rfl⟩ {}
    simp only [State.updPort, List.length_append, List.length_singleton]; exact h
  | trunk =>
    refine Calm.carries { forwards := fun hs => ⟨hs.1, ?_⟩ } ⟨rfl, rfl, rfl⟩ {}
    simp only [State.updPort, List.length_append, List.length_singleton]; exact h

theorem joinFifo_carries (p : Prop) (d : Direction) (f : Frame) (s : State) : Carries p 0 s (joinFifo d f s) := by
  unfold joinFifo
  split
  · next h => exact (forwardFrame_carries p (outPort d) _ h).trans (updDirCounts_carries p d _ _)
  · exact (updDirCounts_carries p d _ s).trans (raise_carries p _ _ _ _)

theorem offerUp_carries (p : Prop) (m : Marks) (f : Frame) (s : State) : Carries p 0 s (offerUp m f s) := by
  unfold offerUp holdBack
  split
  · exact joinFifo_carries p _ _ s
  · split
    · exact joinFifo_carries p _ _ s
    · exact updDirCounts_carries p _ _ s

theorem offerDown_carries (p : Prop) (f : Frame) (s : State) : Carries p 0 s (offerDown f s) := by
  unfold offerDown holdBack
  split
  · exact joinFifo_carries p _ _ s
  · split
    · exact joinFifo_carries p _ _ s
    · exact updDirCounts_carries p _ _ s

theorem raiseLink_carries (p : Prop) (s : State) : Carries p 0 s (raiseLink s) := Calm.carries {} ⟨rfl, rfl, rfl⟩ {}

theorem dropLink_carries (p : Prop) (b : Bool) (s : State) : Carries p 0 s (dropLink b s) := by
  have h : Carries p 0 s { s with ports := { s.ports with linkUp := false, trunk := { s.ports.trunk with sending := none } } } :=
    Calm.carries {} ⟨rfl, rfl, rfl⟩ {}
  unfold dropLink
  dsimp only
  split
  · exact h.trans (discardFrame_carries p _ _ _)
  · exact h

/-- A queue of a port changed to one no longer. -/
theorem updQueue_carries (p : Prop) (q : Port) (k : QueueKind) {f : List QFrame → List QFrame} (h : ∀ l, (f l).length ≤ l.length)
    (s : State) : Carries p 0 s (s.updQueue q k f) := by
  cases k with
  | reply => exact updPort_carries p q (f := fun u => { u with replies := f u.replies }) s (h _) (Nat.le_refl _)
  | forward => exact updPort_carries p q (f := fun u => { u with forward := f u.forward }) s (Nat.le_refl _) (h _)
  | alert =>
    exact Calm.carries { replies := fun _ hs => ⟨hs.1, hs.2.1, Nat.le_trans (h _) hs.2.2⟩ } ⟨rfl, rfl, rfl⟩ {}

theorem finishSending_carries (p : Prop) (q : Port) (s : State) : Carries p 0 s (finishSending q s) := by
  unfold finishSending
  split
  · exact .refl p s
  · exact (updQueue_carries p q _ (fun l => by simp) s).trans (updPort_carries p q _ (Nat.le_refl _) (Nat.le_refl _))

/-- A queue whose head is replaced. -/
theorem setHead_carries (p : Prop) (q : Port) (k : QueueKind) (g f : QFrame) (fs : List QFrame) {s : State}
    (h : s.queueFrames q k = f :: fs) : Carries p 0 s (s.updQueue q k fun l => g :: l.tail) := by
  cases k with
  | reply =>
    have hq : (s.port q).replies = f :: fs := h
    exact updPort_carries p q (f := fun u => { u with replies := g :: u.replies.tail }) s (by simp [hq]) (Nat.le_refl _)
  | forward =>
    have hq : (s.port q).forward = f :: fs := h
    exact updPort_carries p q (f := fun u => { u with forward := g :: u.forward.tail }) s (Nat.le_refl _) (by simp [hq])
  | alert =>
    have hq : s.ports.alertQueue = f :: fs := by
      cases q with
      | field => exact absurd h (by simp [State.queueFrames])
      | trunk => exact h
    refine Calm.carries { replies := fun _ hs => ⟨hs.1, hs.2.1, ?_⟩ } ⟨rfl, rfl, rfl⟩ {}
    have := hs.2.2
    simpa [State.updQueue, hq] using this

theorem startSending_carries (p : Prop) (q : Port) (s : State) : Carries p 0 s (startSending q s) := by
  unfold startSending
  split
  · split
    · exact .refl p s
    · split
      · next f fs hq =>
        unfold beginSending
        dsimp only
        split
        · exact (setHead_carries p q _ _ f fs hq).trans (updPort_carries p q _ (Nat.le_refl _) (Nat.le_refl _))
        · exact updPort_carries p q s (Nat.le_refl _) (Nat.le_refl _)
      · exact .refl p s
  · exact .refl p s

theorem offerReply_carries (p : Prop) (q : Port) (f : QFrame) (s : State) : Carries p 0 s (offerReply q f s) := by
  refine ⟨(offerReply_frame q f s).upholds p, .of_frame (offerReply_frame q f s) (fun R => offerReply_work R q f s) ?_, fun _ _ => ?_⟩
  · rw [offerReply_only]; exact id
  · rw [offerReply_only]; exact {}

/-! ### Taking a field frame -/

/-- A change of an entry that keeps its address and its binding. -/
theorem updStation_carries (p : Prop) (a : Byte) {f : Station → Station} (h : ∀ e, (f e).addr = e.addr ∧ (f e).binding = e.binding)
    (s : State) : Carries p 0 s (s.updStation a f) := by
  refine Calm.carries { stations := ?_ } ⟨rfl, rfl, rfl⟩ {}
  simp only [State.updStation, List.map_map]
  refine List.map_congr_left fun e _ => ?_
  simp only [Function.comp]
  split
  · rw [(h e).1, (h e).2]
  · rfl

/-- A change of the Station Table's counts. -/
theorem updStations_carries (p : Prop) {s t : State} {n : StationTable} (ht : t = { s with stations := n } := by rfl)
    (h : n.entries = s.stations.entries := by rfl) : Carries p 0 s t := by
  subst ht
  exact Calm.carries { stations := by rw [h] } ⟨rfl, rfl, rfl⟩ {}

theorem reportUnknown_carries (p : Prop) (a typ : Byte) (s : State) : Carries p 0 s (reportUnknown a typ s) :=
  (raise_carries p _ _ _ s).trans (updStations_carries p)

theorem takeSequence_carries (p : Prop) (a seq : Byte) (s : State) : Carries p 0 s (s.updStation a (takeSequence seq)) :=
  updStation_carries p a (f := takeSequence seq) (fun _ => ⟨rfl, rfl⟩) s

theorem countRepeat_carries (p : Prop) (a : Byte) (s : State) : Carries p 0 s (countRepeat a s) := by
  unfold countRepeat
  refine .trans (updStation_carries p a ?_ s) (updStations_carries p)
  exact fun _ => ⟨rfl, rfl⟩

theorem dropRepeat_carries (p : Prop) (f : Frame) (s : State) : Carries p 0 s (dropRepeat f s) := by
  unfold dropRepeat
  dsimp only
  split
  · exact (countRepeat_carries p _ s).trans (joinFifo_carries p _ _ _)
  · exact countRepeat_carries p _ s

theorem stationFirst_carries {p : Prop} {f : Frame} {unknown : State → State} {known : Station → State → State}
    (hu : ∀ s, Carries p 0 s (unknown s)) (hk : ∀ e s, Carries p 0 s (known e s)) (s : State) :
    Carries p 0 s (stationFirst f unknown known s) := by
  unfold stationFirst
  split
  · exact (reportUnknown_carries p _ _ s).trans (hu _)
  · split
    · exact dropRepeat_carries p f s
    · exact (takeSequence_carries p _ _ s).trans (hk _ _)

theorem markFault_keeps (k : SensorFault) (t : Nat) (e : Station) : (markFault k t e).addr = e.addr ∧ (markFault k t e).binding = e.binding := by
  unfold markFault; split <;> exact ⟨rfl, rfl⟩

theorem liveReading_keeps (v : Int) (t : Nat) (e : Station) : (liveReading v t e).addr = e.addr ∧ (liveReading v t e).binding = e.binding := by
  unfold liveReading; split <;> exact ⟨rfl, rfl⟩

theorem liveDoor_keeps (d : DoorState) (t : Nat) (e : Station) : (liveDoor d t e).addr = e.addr ∧ (liveDoor d t e).binding = e.binding := by
  unfold liveDoor; split <;> exact ⟨rfl, rfl⟩

theorem readSample_carries (p : Prop) (a : Byte) (c pos : Fin 4) (offset : Int) (age : BitVec 16) (payload : List Byte) (s : State) :
    Carries p 0 s (readSample a c pos offset age payload s).1 := by
  unfold readSample
  dsimp only
  split
  · split
    · exact ((raise_carries p _ _ _ s).trans (updStations_carries p)).trans (updStation_carries p a (markFault_keeps _ _) _)
    · refine .trans (.trans ?_ (updStation_carries p a (liveReading_keeps _ _) _)) (handOver_carries p c _ _ _)
      split
      · exact (raise_carries p _ _ _ s).trans (updStations_carries p)
      · exact .refl p s
  · exact updStations_carries p

theorem readDoor_carries (p : Prop) (a : Byte) (c : Fin 4) (i : Fin 2) (e : Station) (age : BitVec 16) (payload : List Byte) (s : State) :
    Carries p 0 s (readDoor a c i e age payload s).1 := by
  unfold readDoor
  dsimp only
  split
  · refine .trans ?_ (handOver_carries p c _ _ _)
    have h : ∀ t : State, Carries p 0 s t → Carries p 0 s (t.updStation a (liveDoor (doorStateOf ‹_›) (s.sampleTime age))) :=
      fun t ht => ht.trans (updStation_carries p a (liveDoor_keeps _ _) _)
    split
    · refine .trans (h _ ?_) (liveDoorChange_carries p c i _ _ _ _)
      split
      · exact raise_carries p _ _ _ s
      · exact .refl p s
    · refine h _ ?_
      split
      · exact raise_carries p _ _ _ s
      · exact .refl p s
  · exact updStations_carries p

theorem readSampleFrame_carries (p : Prop) (e : Station) (f : Frame) (s : State) : Carries p 0 s (readSampleFrame e f s).1 := by
  unfold readSampleFrame
  split
  · exact readSample_carries p _ _ _ _ _ _ s
  · exact updStations_carries p

theorem readDoorFrame_carries (p : Prop) (e : Station) (f : Frame) (s : State) : Carries p 0 s (readDoorFrame e f s).1 := by
  unfold readDoorFrame
  split
  · exact readDoor_carries p _ _ _ _ _ _ s
  · exact updStations_carries p

theorem passRead_carries {p : Prop} {s : State} {r : State × Marks} (h : Carries p 0 s r.1) (f : Frame) : Carries p 0 s (passRead f r) := by
  unfold passRead
  split
  · exact h
  · exact h.trans (offerUp_carries p _ _ _)

theorem takeSample_carries (p : Prop) (f : Frame) (s : State) : Carries p 0 s (takeSample f s) :=
  stationFirst_carries (fun s => passRead_carries (.refl p s) f) (fun e s => passRead_carries (readSampleFrame_carries p e f s) f) s

theorem takeDoorState_carries (p : Prop) (f : Frame) (s : State) : Carries p 0 s (takeDoorState f s) :=
  stationFirst_carries (fun s => passRead_carries (.refl p s) f) (fun e s => passRead_carries (readDoorFrame_carries p e f s) f) s

theorem takePassUp_carries (p : Prop) (f : Frame) (s : State) : Carries p 0 s (takePassUp f s) :=
  stationFirst_carries (fun s => offerUp_carries p _ f s) (fun _ s => offerUp_carries p _ f s) s

theorem takeUnhandledField_carries (p : Prop) (f : Frame) (s : State) : Carries p 0 s (takeUnhandledField f s) :=
  stationFirst_carries (fun s => countUnhandled_carries p _ s) (fun _ s => countUnhandled_carries p _ s) s

/-! ### Terminal requests -/

theorem updStopCounts_carries (p : Prop) (f : StopCounts → StopCounts) (s : State) : Carries p 0 s (s.updStopCounts f) :=
  Calm.carries {} ⟨rfl, rfl, rfl⟩ {}

theorem sendTermReply_carries (p : Prop) (src typ : Byte) (n : Nat) (index : Byte) (r : TermResult) (s : State) :
    Carries p 0 s (sendTermReply src typ n index r s) := offerReply_carries p _ _ s

theorem stopReply_carries (p : Prop) (q : Asked) (r : TermResult) (s : State) : Carries p 0 s (stopReply q r s) :=
  (updStopCounts_carries p _ s).trans (sendTermReply_carries p _ _ _ _ _ _)

/-- No request that passes its first checks is delivered in LOCKOUT (R142). -/
theorem requestCheck_unlocked {s : State} {length : Bool} {n : Nat} (h : s.requestCheck length n = none) : s.store.lockout = false := by
  cases hl : s.store.lockout
  · rfl
  · rw [State.requestCheck, State.lockedOut, if_pos hl] at h; exact absurd h (by simp)

theorem deliverRequest_carries {p : Prop} {judge : State → Drop → TermResult} {act : Drop → State → State}
    (h : ∀ d s, judge s d = .accepted → Upholds p 0 s (act d s) ∧ StoreEvent s (act d s)) (q : Asked) (length : Bool) (s : State) :
    Carries p 0 s (deliverRequest q length judge act s) := by
  have hcount := updStopCounts_carries p (fun n => { n with requests := satInc max32 n.requests }) s
  unfold deliverRequest
  dsimp only
  split
  · next d hcheck _ =>
    split
    · next hj =>
      obtain ⟨hup, hstore⟩ := h d _ hj
      exact (hcount.trans (.of_unlocked (requestCheck_unlocked hcheck) hup hstore)).trans (stopReply_carries p _ _ _)
    · exact hcount.trans (stopReply_carries p _ _ _)
  · split
    · exact (hcount.trans (updStopCounts_carries p _ _)).trans (stopReply_carries p _ _ _)
    · exact hcount.trans (stopReply_carries p _ _ _)
  · exact hcount

theorem takeRequest_carries {p : Prop} {deliver : State → State} (h : ∀ s, Carries p 0 s (deliver s)) (f : Frame) (q : Asked) (s : State) :
    Carries p 0 s (takeRequest f q deliver s) := by
  refine stationFirst_carries (fun s => sendTermReply_carries p _ _ _ _ _ s) (fun e s => ?_) s
  split
  · exact h s
  · exact sendTermReply_carries p _ _ _ _ _ s

theorem closeLive_contexts (t : Nat) (s : State) : (closeLive t s).contexts.length ≤ s.contexts.length := (closeLive_frame t s).contexts

/-- A new context, with a place free for it. -/
theorem appendContext_calm {s : State} {x : Context} (h : s.contexts.length < Config.contextPlaces) :
    Calm 0 s { s with contexts := s.contexts ++ [x] } where
  contexts _ := by simp only [List.length_append, List.length_singleton]; exact h

theorem actArrive_upholds (p : Prop) {d : Drop} {src : Byte} {s : State} (h : judgeArrive s d src = .accepted) :
    Upholds p 0 s (actArrive d src s) ∧ StoreEvent s (actArrive d src s) := by
  unfold actArrive
  split
  · next hd =>
    have hroom : s.contexts.length < Config.contextPlaces := by
      rw [judgeArrive, hd] at h
      dsimp only at h
      split at h
      · exact absurd h (by simp)
      · split at h
        · exact absurd h (by simp)
        · split at h
          · exact absurd h (by simp)
          · omega
    have hsize : ∀ e : Drop, (({ e with state := .active, owner := some src } : Drop).number,
      ({ e with state := .active, owner := some src } : Drop).items.length) = (e.number, e.items.length) := fun _ => rfl
    have hres : ∀ e : Drop, ({ e with state := .active, owner := some src } : Drop).reservation = e.reservation := fun _ => rfl
    unfold openStop
    dsimp only
    refine ⟨.trans ((closeLive_frame s.now s).upholds p) (.trans ((appendContext_calm ?_).upholds p)
      ((updDrop_settle d.number hsize _).upholds p)), .trans (closeLive_event s.now s) (SameStore.event ?_)⟩
    · exact Nat.lt_of_le_of_lt (closeLive_contexts s.now s) hroom
    · exact SameStore.trans (t := { closeLive s.now s with contexts := (closeLive s.now s).contexts ++ [_] }) ⟨rfl, rfl, rfl⟩
        (updDrop_same d.number hres _)
  · exact ⟨(updDrop_settle d.number (f := fun e => { e with owner := some src }) (fun _ => rfl) s).upholds p,
      (updDrop_same d.number (f := fun e => { e with owner := some src }) (fun _ => rfl) s).event⟩
  · exact ⟨.refl p s, .refl s⟩

theorem actOpen_upholds (p : Prop) (d : Drop) (s : State) : Upholds p 0 s (actOpen d s) ∧ StoreEvent s (actOpen d s) := by
  unfold actOpen
  split
  · refine ⟨((updContext_frame s _ _).trans (updDrop_settle d.number (fun e => clearItems_size e .handingOver) _)).upholds p, ?_⟩
    exact ((updContext_same d.number _ s).trans
      (updDrop_same d.number (f := fun e => { clearItems e with state := .handingOver }) (fun _ => rfl) _)).event
  · exact ⟨.refl p s, .refl s⟩

theorem actConfirm_upholds (p : Prop) (d : Drop) (o : ConfirmOps) (s : State) :
    Upholds p 0 s (actConfirm d o s) ∧ StoreEvent s (actConfirm d o s) := by
  unfold actConfirm
  refine ⟨((updDrop_settle d.number (f := fun e => { e with items := e.items.modify o.index (confirmItem o) })
    (fun e => by simp) s).trans (updContext_frame _ _ _)).upholds p, ?_⟩
  exact ((updDrop_same d.number (f := fun e => { e with items := e.items.modify o.index (confirmItem o) }) (fun _ => rfl) s).trans
    (updContext_same d.number _ _)).event

theorem actClose_upholds (p : Prop) (d : Drop) (g : BitVec 64) (s : State) :
    Upholds p 0 s (actClose d g s) ∧ StoreEvent s (actClose d g s) := by
  unfold actClose
  split
  · refine ⟨((updContext_frame s _ _).trans (updDrop_settle d.number (f := fun e => { e with state := .handedOver }) (fun _ => rfl) _)).upholds p, ?_⟩
    exact ((updContext_same d.number _ s).trans
      (updDrop_same d.number (f := fun e => { e with state := .handedOver }) (fun _ => rfl) _)).event
  · exact ⟨.refl p s, .refl s⟩

theorem actAbort_upholds (p : Prop) (d : Drop) (s : State) : Upholds p 0 s (actAbort d s) ∧ StoreEvent s (actAbort d s) := by
  unfold actAbort
  split
  · exact ⟨(endHandover_frame _ s).upholds p, (endHandover_same _ s).event⟩
  · exact ⟨.refl p s, .refl s⟩

theorem actDepart_upholds (p : Prop) (d : Drop) (s : State) : Upholds p 0 s (actDepart d s) ∧ StoreEvent s (actDepart d s) := by
  unfold actDepart
  split
  · exact ⟨(closeStop_frame _ _ s).upholds p, closeStop_event _ _ s⟩
  · exact ⟨(closeStop_frame _ _ s).upholds p, closeStop_event _ _ s⟩
  · exact ⟨.refl p s, .refl s⟩

theorem takeStopArrive_carries (p : Prop) (f : Frame) (s : State) : Carries p 0 s (takeStopArrive f s) :=
  takeRequest_carries (fun s => deliverRequest_carries (fun _ _ h => actArrive_upholds p h) _ _ s) f _ s

theorem takeStopDepart_carries (p : Prop) (f : Frame) (s : State) : Carries p 0 s (takeStopDepart f s) :=
  takeRequest_carries (fun s => deliverRequest_carries (fun d s _ => actDepart_upholds p d s) _ _ s) f _ s

theorem takeHandoverOpen_carries (p : Prop) (f : Frame) (s : State) : Carries p 0 s (takeHandoverOpen f s) :=
  takeRequest_carries (fun s => deliverRequest_carries (fun d s _ => actOpen_upholds p d s) _ _ s) f _ s

theorem takeHandoverAbort_carries (p : Prop) (f : Frame) (s : State) : Carries p 0 s (takeHandoverAbort f s) :=
  takeRequest_carries (fun s => deliverRequest_carries (fun d s _ => actAbort_upholds p d s) _ _ s) f _ s

theorem takeItemConfirm_carries (p : Prop) (f : Frame) (s : State) : Carries p 0 s (takeItemConfirm f s) := by
  unfold takeItemConfirm
  cases parseConfirm f.payload <;> refine takeRequest_carries (fun s => ?_) f _ s
  · exact deliverRequest_carries (fun _ s _ => ⟨.refl p s, .refl s⟩) _ _ s
  · exact deliverRequest_carries (fun d s _ => actConfirm_upholds p d _ s) _ _ s

theorem takeHandoverClose_carries (p : Prop) (f : Frame) (s : State) : Carries p 0 s (takeHandoverClose f s) := by
  unfold takeHandoverClose
  cases parseHandoverClose f.payload <;> refine takeRequest_carries (fun s => ?_) f _ s
  · exact deliverRequest_carries (fun _ s _ => ⟨.refl p s, .refl s⟩) _ _ s
  · exact deliverRequest_carries (fun d s _ => actClose_upholds p d _ s) _ _ s

/-! ### Lodgings -/

theorem updClaimCounts_carries (p : Prop) (f : ClaimCounts → ClaimCounts) (s : State) : Carries p 0 s (s.updClaimCounts f) :=
  ⟨(updClaimCounts_frame f s).upholds p, .of_frame (updClaimCounts_frame f s) (fun R => updClaimCounts_work R f s) id, fun _ _ => {}⟩

theorem sendClaimReply_carries (p : Prop) (src typ : Byte) (ref : Option ClaimRef) (r : TermResult) (s : State) :
    Carries p 0 s (sendClaimReply src typ ref r s) := offerReply_carries p _ _ s

/-- Room for a claim: a place of the queue, and a FREE slot (R168). -/
theorem claimRoom_some {s : State} {i : Fin 256} (h : s.claimRoom = some i) :
    s.claims.queue.length < Config.claimPlaces ∧ s.lowestFree = some i := by
  unfold State.claimRoom at h
  split at h
  · exact ⟨‹_›, h⟩
  · exact absurd h (by simp)

theorem joinClaim_event {i : Fin 256} {s : State} (hi : s.claimRoom = some i) (hl : s.store.lockout = false) (q : Port) (a : Byte)
    (o : LodgeOps) : StoreEvent s (joinClaim i q a o s) := by
  obtain ⟨hroom, hlow⟩ := claimRoom_some hi
  have hfree := State.lowestFree_slot hlow
  refine ⟨fun hs => (storeSound_iff _).2 ?_, fun _ => joinClaim_records hfree q a o, fun _ => LockoutSettled_of_unlocked ?_, fun _ => ?_⟩
  · rw [(joinClaim_frame i q a o s).owned]
    exact joinClaim_sound s.owned hfree q a o ((storeSound_iff s).1 hs)
  · rw [joinClaim_store]; exact hl
  · have : (joinClaim i q a o s).claims.queue.length = s.claims.queue.length + 1 := by simp [joinClaim]
    omega

theorem joinClaim_carries (p : Prop) {i : Fin 256} {s : State} (hi : s.claimRoom = some i) (hl : s.store.lockout = false) (q : Port)
    (a : Byte) (o : LodgeOps) : Carries p 0 s (joinClaim i q a o s) :=
  .of_unlocked hl ((joinClaim_frame i q a o s).upholds p) (joinClaim_event hi hl q a o)

/-- Claims are settled only outside LOCKOUT, or with none held. -/
theorem settleLodging_carries (p : Prop) (s : State) : Carries p 0 s (settleLodging s) := by
  refine ⟨(settleLodging_frame s).upholds p, .of_frame (settleLodging_frame s) (fun R => settleLodging_work R s) settleLodging_settles,
    fun _ hs => ?_⟩
  have hempty : s.claims.queue = [] := (hs ‹_›).2
  have heval : evaluateAt (s.claims.queue.length - 1) s = s := by simp [evaluateAt, hempty]
  have : settleLodging s = s := by
    unfold settleLodging releaseClaims
    rw [heval, hempty]
    cases (0 : Nat) <;> simp [releaseLoop]
  rw [this]
  exact .refl s

/-- No lodging that passes its checks is made in LOCKOUT (R167). -/
theorem lodgeCheck_unlocked {s : State} {o : Option LodgeOps} (h : s.lodgeCheck o = none) : s.store.lockout = false := by
  cases hl : s.store.lockout
  · rfl
  · rw [State.lodgeCheck.eq_def, State.lockedOut, if_pos hl] at h; exact absurd h (by simp)

theorem deliverLodge_carries (p : Prop) (src typ : Byte) (payload : List Byte) (s : State) :
    Carries p 0 s (deliverLodge src typ payload s) := by
  unfold deliverLodge
  dsimp only
  split
  · exact (updClaimCounts_carries p _ s).trans (sendClaimReply_carries p _ _ _ _ _)
  · next l hcheck hl =>
    split
    · exact (updClaimCounts_carries p _ s).trans (sendClaimReply_carries p _ _ _ _ _)
    · next i hi =>
      exact ((joinClaim_carries p hi (lodgeCheck_unlocked hcheck) _ _ _).trans (sendClaimReply_carries p _ _ _ _ _)).trans
        (settleLodging_carries p _)
  · exact .refl p s

theorem takeClaimLodge_carries (p : Prop) (f : Frame) (s : State) : Carries p 0 s (takeClaimLodge f s) := by
  refine stationFirst_carries (fun s => sendClaimReply_carries p _ _ _ _ s) (fun e s => ?_) s
  split
  · exact deliverLodge_carries p _ _ _ s
  · exact sendClaimReply_carries p _ _ _ _ s

theorem fieldHandOn_carries (p : Prop) (f : Frame) (s : State) : Carries p 0 s (fieldHandOn f s) := by
  unfold fieldHandOn fieldToDevice fieldBroadcast
  by_cases h0 : f.dst = deviceAddr
  · simp only [if_pos h0]
    split; · exact takeSample_carries p f s
    split; · exact takeDoorState_carries p f s
    split; · exact takeStopArrive_carries p f s
    split; · exact takeStopDepart_carries p f s
    split; · exact takeHandoverOpen_carries p f s
    split; · exact takeItemConfirm_carries p f s
    split; · exact takeHandoverClose_carries p f s
    split; · exact takeHandoverAbort_carries p f s
    split; · exact takeClaimLodge_carries p f s
    exact takeUnhandledField_carries p f s
  · simp only [if_neg h0]
    split
    · split; · exact takeSample_carries p f s
      split; · exact takeDoorState_carries p f s
      exact takePassUp_carries p f s
    · exact takePassUp_carries p f s

end Sys2Proof.Machine
end

section
/-! SUPPORT. What the answers of the Management Agent and the commands that write a table or a setting uphold and keep, said once for each. -/
namespace Sys2Proof.Machine

/-! ### Answers -/

theorem answer_carries (p : Prop) (code : Byte) (m : CmdHdr) (a : Answer) (s : State) : Carries p 1 s (answer code m a s) := by
  refine Calm.carries { replies := fun hr hs => ?_ } ⟨rfl, rfl, rfl⟩ {}
  obtain ⟨h1, h2, h3⟩ := hs
  refine ⟨h1, ?_, h3⟩
  simp only [answer, List.length_append, List.length_singleton]
  omega

/-- A judged command is answered, after what its judgement makes of the state. -/
theorem settle_carries {p : Prop} {s t : State} {j : Judged} (h : ∀ x, j = .ok x → Carries p 0 s x.2.2) (ht : Carries p 0 s t)
    (code : Byte) (m : CmdHdr) : Carries p 1 s (settle code m j t) := by
  unfold settle
  split
  · exact ht.trans (answer_carries p _ _ _ _)
  · exact (h _ rfl).trans (answer_carries p _ _ _ _)

theorem gated_carries {p : Prop} {run : State → State} {s : State} (h : s.store.lockout = false → Carries p 1 s (run s)) (code : Byte)
    (m : CmdHdr) : Carries p 1 s (gated code m run s) := by
  unfold gated
  split
  · exact answer_carries p _ _ _ s
  · next hl => exact h (by simpa [State.lockedOut] using hl)

theorem runGated_carries {p : Prop} {judge : State → Judged} {s : State}
    (h : s.store.lockout = false → ∀ x, judge s = .ok x → Upholds p 0 s x.2.2 ∧ StoreEvent s x.2.2) (code : Byte) (m : CmdHdr) :
    Carries p 1 s (runGated code m judge s) :=
  gated_carries (fun hl => settle_carries (fun x hx => .of_unlocked hl (h hl x hx).1 (h hl x hx).2) (.refl p s) _ _) _ _

/-! ### The Station Table -/

theorem sameBinding_symm {a b : Binding} (h : sameBinding a b = true) : sameBinding b a = true := by
  cases a <;> cases b <;> simp_all [sameBinding]

theorem placesApart_symm {a b : Station} (h : placesApart a b) : placesApart b a := fun hb => by
  cases hs : sameBinding b.binding a.binding
  · rfl
  · have hab := h (by rw [sameBinding_bindsPlace hs]; exact hb)
    rw [sameBinding_symm hs] at hab
    exact absurd hab (by simp)

/-- The addresses of a sound table are apart. -/
theorem entries_addr_unique {l : List Station} (h : l.Pairwise fun a b => a.addr.toNat < b.addr.toNat) {e e' : Station} (he : e ∈ l)
    (he' : e' ∈ l) (ha : e.addr = e'.addr) : e = e' := by
  induction h with
  | nil => cases he
  | cons hx _ ih =>
    rcases List.mem_cons.1 he with rfl | hm <;> rcases List.mem_cons.1 he' with rfl | hm'
    · rfl
    · exact absurd (hx e' hm') (by rw [ha]; exact Nat.lt_irrefl _)
    · exact absurd (hx e hm) (by rw [ha]; exact Nat.lt_irrefl _)
    · exact ih hm hm'

/-- The entry that a search by address finds is the only one of that address. -/
theorem State.findStation_eq {s : State} (h : s.StationsSound) {e : Station} (he : e ∈ s.stations.entries) :
    s.findStation e.addr = some e := by
  obtain ⟨-, hrise, -, -⟩ := h
  cases hf : s.findStation e.addr with
  | none => exact absurd (List.find?_eq_none.1 hf e he) (by simp)
  | some e' =>
    have hm := List.mem_of_find?_eq_some hf
    have ha : e'.addr = e.addr := by simpa using List.find?_some hf
    rw [entries_addr_unique hrise hm he ha]

/-- A change of the Station Table alone that keeps it sound, and the places bound on a route. -/
theorem Upholds.of_stations {s : State} {n : StationTable} (hs : s.StationsSound → State.StationsSound { s with stations := n })
    (hp : s.onRoute = true → s.StationsSound → PlacesKept s { s with stations := n }) :
    Upholds (s.onRoute = true) 0 s { s with stations := n } :=
  ⟨rfl, rfl, rfl, fun _ h => h, id, id, hs, id, id, id, fun hon => ⟨rfl, rfl, rfl, rfl, rfl, rfl, fun _ => .refl _, hp hon⟩⟩

theorem mem_insertStation {e x : Station} {l : List Station} : x ∈ insertStation e l ↔ x = e ∨ x ∈ l := by
  induction l with
  | nil => simp [insertStation]
  | cons y ys ih =>
    unfold insertStation
    split
    · simp only [List.mem_cons]
    · simp only [List.mem_cons, ih]
      exact or_left_comm

theorem length_insertStation (e : Station) (l : List Station) : (insertStation e l).length = l.length + 1 := by
  induction l with
  | nil => rfl
  | cons y ys ih =>
    unfold insertStation
    split
    · rfl
    · simp [ih]

/-- A pairwise relation with a new entry put into its place, when it holds between the new entry and each, on its side. -/
theorem pairwise_insertStation {r : Station → Station → Prop} {e : Station} {l : List Station} (h : l.Pairwise r)
    (hbefore : ∀ x ∈ l, ¬ e.addr.toNat < x.addr.toNat → r x e) (hafter : ∀ x ∈ l, r e x ∨ ¬ e.addr.toNat < x.addr.toNat)
    (hrise : l.Pairwise fun a b => a.addr.toNat < b.addr.toNat) : (insertStation e l).Pairwise r := by
  induction l with
  | nil => simp [insertStation]
  | cons y ys ih =>
    obtain ⟨hy, hys⟩ := List.pairwise_cons.1 h
    obtain ⟨ry, rys⟩ := List.pairwise_cons.1 hrise
    unfold insertStation
    split
    · next hlt =>
      refine List.pairwise_cons.2 ⟨fun x hx => (hafter x hx).resolve_right fun hn => hn ?_, h⟩
      rcases List.mem_cons.1 hx with rfl | hx
      · exact hlt
      · exact Nat.lt_trans hlt (ry x hx)
    · next hge =>
      refine List.pairwise_cons.2 ⟨fun x hx => ?_, ih hys (fun x hx => hbefore x (List.mem_cons_of_mem _ hx))
        (fun x hx => hafter x (List.mem_cons_of_mem _ hx)) rys⟩
      rcases mem_insertStation.1 hx with rfl | hx
      · exact hbefore y List.mem_cons_self hge
      · exact hy x hx

theorem rewriteStation_keeps (e : Station) (b : Binding) (ov : Option Byte) :
    (rewriteStation e b ov).addr = e.addr ∧ (rewriteStation e b ov).binding = b := by
  unfold rewriteStation; split <;> exact ⟨rfl, rfl⟩

/-- The table with the entry of address a written (R24). -/
def State.writtenStations (s : State) (a : Byte) (b : Binding) (ov : Option Byte) : StationTable :=
  match s.findStation a with
  | some _ => { s.stations with entries := s.stations.entries.map fun e => if e.addr = a then rewriteStation e b ov else e }
  | none => { s.stations with entries := insertStation (newStation a b ov) s.stations.entries }

theorem writeStation_eq (a : Byte) (b : Binding) (ov : Option Byte) (s : State) :
    writeStation a b ov s = undoDoor (s.findStation a) (some b) { s with stations := s.writtenStations a b ov } := by
  unfold writeStation State.writtenStations
  cases s.findStation a <;> rfl

/-- The table without the entry of address a (R26). -/
def State.clearedStations (s : State) (a : Byte) : StationTable :=
  { s.stations with entries := s.stations.entries.filter fun e => e.addr != a }

theorem clearStation_eq (a : Byte) (s : State) :
    clearStation a s = undoDoor (s.findStation a) none { s with stations := s.clearedStations a } := rfl

theorem undoDoor_carries (p : Prop) (old : Option Station) (new : Option Binding) (s : State) : Carries p 0 s (undoDoor old new s) := by
  unfold undoDoor
  split
  · split
    · exact .refl p s
    · exact endOpening_carries p _ _ s
  · exact .refl p s

/-- No other entry is bound to the place asked for (R23, check 4). -/
theorem bindingTaken_apart {s : State} {a : Byte} {b : Binding} (h : s.bindingTaken a b = false) {e : Station}
    (he : e ∈ s.stations.entries) (ha : e.addr ≠ a) (hb : bindsPlace b = true) : sameBinding e.binding b = false := by
  have := List.any_eq_false.1 h e he
  cases hs : sameBinding e.binding b
  · rfl
  · simp [hb, hs, ha] at this

theorem rewritten_sound {s : State} {a : Byte} {b : Binding} (ht : s.bindingTaken a b = false) (ov : Option Byte)
    (hs : s.StationsSound) :
    State.StationsSound { s with stations := { s.stations with
      entries := s.stations.entries.map fun e => if e.addr = a then rewriteStation e b ov else e } } := by
  obtain ⟨hlen, hrise, haddr, hapart⟩ := hs
  have hkeep : ∀ e : Station, (if e.addr = a then rewriteStation e b ov else e).addr = e.addr := fun e => by
    split
    · exact (rewriteStation_keeps e b ov).1
    · rfl
  refine ⟨by simpa using hlen, ?_, ?_, ?_⟩
  · exact List.pairwise_map.2 (hrise.imp fun h => by rw [hkeep, hkeep]; exact h)
  · intro e he
    obtain ⟨e', he', rfl⟩ := List.mem_map.1 he
    rw [hkeep]; exact haddr e' he'
  · refine List.pairwise_map.2 ?_
    have hboth := List.Pairwise.and_mem.1 (hrise.and hapart)
    refine hboth.imp fun {x y} ⟨hx, hy, hlt, hxy⟩ => ?_
    by_cases hxa : x.addr = a
    · have hya : y.addr ≠ a := fun e => by rw [hxa, e] at hlt; omega
      rw [if_pos hxa, if_neg hya]
      refine placesApart_symm fun _ => ?_
      rw [(rewriteStation_keeps x b ov).2]
      cases hsame : sameBinding y.binding b
      · rfl
      · have := bindingTaken_apart ht hy hya (by rw [sameBinding_bindsPlace hsame]; assumption)
        rw [hsame] at this; exact this
    · rw [if_neg hxa]
      split
      · refine fun hbx => ?_
        rw [(rewriteStation_keeps y b ov).2]
        cases hsame : sameBinding x.binding b
        · rfl
        · have := bindingTaken_apart ht hx hxa (by rw [sameBinding_bindsPlace hsame]; exact hbx)
          rw [hsame] at this; exact this
      · exact hxy

theorem inserted_sound {s : State} {a : Byte} {b : Binding} (hn : s.findStation a = none) (ha : stationAddr a = true)
    (ht : s.bindingTaken a b = false) (hroom : s.stations.entries.length < Config.stationPlaces) (ov : Option Byte)
    (hs : s.StationsSound) :
    State.StationsSound { s with stations := { s.stations with entries := insertStation (newStation a b ov) s.stations.entries } } := by
  obtain ⟨hlen, hrise, haddr, hapart⟩ := hs
  have hne : ∀ x ∈ s.stations.entries, x.addr ≠ a := fun x hx e => List.find?_eq_none.1 hn x hx (by simp [e])
  have hnat : ∀ x ∈ s.stations.entries, ¬ a.toNat < x.addr.toNat → x.addr.toNat < a.toNat := fun x hx hge => by
    have : x.addr.toNat ≠ a.toNat := fun e => hne x hx (BitVec.eq_of_toNat_eq e)
    omega
  have hnew : ∀ x ∈ s.stations.entries, placesApart x (newStation a b ov) := fun x hx hb => by
    cases hsame : sameBinding x.binding b
    · exact hsame
    · have := bindingTaken_apart ht hx (hne x hx) (by rw [sameBinding_bindsPlace hsame]; exact hb)
      rw [hsame] at this; exact absurd this (by simp)
  refine ⟨?_, ?_, ?_, ?_⟩
  · rw [length_insertStation]; exact hroom
  · exact pairwise_insertStation hrise (fun x hx hge => hnat x hx hge)
      (fun x _ => Decidable.em (a.toNat < x.addr.toNat)) hrise
  · intro e he
    rcases mem_insertStation.1 he with rfl | he
    · exact ha
    · exact haddr e he
  · exact pairwise_insertStation hapart (fun x hx _ => hnew x hx) (fun x hx => .inl (placesApart_symm (hnew x hx))) hrise

/-- On a route an entry bound to a place is rewritten to the same place alone (R25). -/
theorem bindingLocked_false {s : State} {e : Station} {new : Option Binding} (h : s.bindingLocked (some e) new = false)
    (hon : s.onRoute = true) (hb : bindsPlace e.binding = true) : (new.any fun b => sameBinding e.binding b) = true := by
  simpa [State.bindingLocked, hon, hb] using h

theorem rewritten_places {s : State} {a : Byte} {b : Binding} (ov : Option Byte)
    (hlock : s.bindingLocked (s.findStation a) (some b) = false) (hon : s.onRoute = true) (hs : s.StationsSound) :
    PlacesKept s { s with stations := { s.stations with
      entries := s.stations.entries.map fun e => if e.addr = a then rewriteStation e b ov else e } } := fun e he hb => by
  refine ⟨_, List.mem_map_of_mem he, ?_⟩
  by_cases hea : e.addr = a
  · rw [if_pos hea]
    rw [← hea, State.findStation_eq hs he] at hlock
    have hsame : sameBinding e.binding b = true := by simpa using bindingLocked_false hlock hon hb
    exact ⟨(rewriteStation_keeps e b ov).1, by rw [(rewriteStation_keeps e b ov).2]; exact hsame⟩
  · rw [if_neg hea]
    exact ⟨rfl, sameBinding_refl _⟩

theorem writtenStations_upholds {s : State} {a : Byte} {b : Binding} (ha : stationAddr a = true)
    (hlock : s.bindingLocked (s.findStation a) (some b) = false) (ht : s.bindingTaken a b = false) (hroom : s.stationRoom a = true)
    (ov : Option Byte) : Upholds (s.onRoute = true) 0 s { s with stations := s.writtenStations a b ov } := by
  unfold State.writtenStations
  split
  · exact .of_stations (rewritten_sound ht ov) fun hon hs => rewritten_places ov hlock hon hs
  · next hn =>
    refine .of_stations (inserted_sound hn ha ht ?_ ov) fun _ _ e he _ => ⟨e, mem_insertStation.2 (.inr he), rfl, sameBinding_refl _⟩
    simpa [State.stationRoom, hn] using hroom

theorem judgeStationWrite_upholds {ops : List Byte} {s : State} {x : Byte × List Byte × State} (h : judgeStationWrite ops s = .ok x) :
    Upholds (s.onRoute = true) 0 s x.2.2 ∧ StoreEvent s x.2.2 := by
  unfold judgeStationWrite at h
  split at h
  · cases h
  · split at h
    · cases h
    · split at h
      · cases h
      · split at h
        · cases h
        · split at h
          · cases h
          · split at h
            · cases h
            · next a k ov _ _ b _ ha hlock ht hroom =>
              cases h
              have hundo := undoDoor_carries (s.onRoute = true) (s.findStation a) (some b) { s with stations := s.writtenStations a b ov }
              have hwritten : SameStore s { s with stations := s.writtenStations a b ov } := ⟨rfl, rfl, rfl⟩
              rw [writeStation_eq]
              refine ⟨(writtenStations_upholds ?_ ?_ ?_ ?_ ov).trans hundo.upholds, hwritten.event.trans hundo.store⟩
              · simpa using ha
              · simpa using hlock
              · simpa using ht
              · simpa using hroom

theorem clearedStations_upholds {s : State} {a : Byte} (hlock : s.bindingLocked (s.findStation a) none = false) :
    Upholds (s.onRoute = true) 0 s { s with stations := s.clearedStations a } := by
  refine .of_stations (fun ⟨hlen, hrise, haddr, hapart⟩ => ?_) fun hon hs e he hb => ⟨e, ?_, rfl, sameBinding_refl _⟩
  · exact ⟨Nat.le_trans (List.length_filter_le _ _) hlen, hrise.filter _, fun e he => haddr e (List.mem_filter.1 he).1, hapart.filter _⟩
  · refine List.mem_filter.2 ⟨he, ?_⟩
    simp only [bne_iff_ne, ne_eq]
    intro hea
    rw [← hea, State.findStation_eq hs he] at hlock
    exact absurd (bindingLocked_false hlock hon hb) (by simp)

theorem judgeStationClear_upholds {ops : List Byte} {s : State} {x : Byte × List Byte × State} (h : judgeStationClear ops s = .ok x) :
    Upholds (s.onRoute = true) 0 s x.2.2 ∧ StoreEvent s x.2.2 := by
  unfold judgeStationClear at h
  split at h
  · split at h
    · cases h
    · split at h
      · cases h
      · split at h
        · cases h
        · next a _ _ hlock =>
          cases h
          have hundo := undoDoor_carries (s.onRoute = true) (s.findStation a) none { s with stations := s.clearedStations a }
          have hcleared : SameStore s { s with stations := s.clearedStations a } := ⟨rfl, rfl, rfl⟩
          rw [clearStation_eq]
          exact ⟨(clearedStations_upholds (by simpa using hlock)).trans hundo.upholds,
            hcleared.event.trans hundo.store⟩
  · cases h

/-! ### The tables of the route -/

/-- A change off a route upholds its tables: there is no route. -/
theorem Upholds.off_route {n : Nat} {s t : State} (h : s.onRoute = false) (hu : Upholds False n s t) : Upholds (s.onRoute = true) n s t :=
  hu.weaken fun hon => by rw [h] at hon; exact absurd hon (by simp)

theorem updProfile_comp (s : State) (c k : Fin 4) (q : Profile) :
    (s.updComp c fun k => { k with profile := q }).comp k = if k = c then { s.comp c with profile := q } else s.comp k :=
  State.updComp_comp s c k _

theorem updProfile_upholds {s : State} {q : Profile} (c : Fin 4) (hq : profileValid q = true) (hoff : s.onRoute = false) :
    Upholds False 0 s (s.updComp c fun k => { k with profile := q }) := by
  refine ⟨rfl, rfl, rfl, fun _ h => h, id, fun ⟨h1, h2, hcomp, h4⟩ => ⟨h1, h2, fun k => ?_, h4⟩, id, fun hs k => ?_, fun _ hon => ?_, id, False.elim⟩
  · rw [updProfile_comp]
    split
    · exact ⟨hq, (hcomp c).2⟩
    · exact hcomp k
  · rw [updProfile_comp]
    split
    · exact hs c
    · exact hs k
  · have : s.onRoute = true := hon
    rw [hoff] at this; exact absurd this (by simp)

theorem judgeCompartmentWrite_upholds {ops : List Byte} {s : State} {x : Byte × List Byte × State}
    (h : judgeCompartmentWrite ops s = .ok x) : Upholds (s.onRoute = true) 0 s x.2.2 ∧ StoreEvent s x.2.2 := by
  unfold judgeCompartmentWrite at h
  split at h
  · cases h
  · split at h
    · split at h
      · cases h
      · split at h
        · cases h
        · split at h
          · cases h
          · next hvalid hoff _ =>
            cases h
            simp only [Bool.or_eq_true, Bool.not_eq_true', not_or, Bool.not_eq_false] at hvalid
            have hoff' : s.onRoute = false := by simpa using hoff
            exact ⟨.off_route hoff' (updProfile_upholds _ hvalid.2 hoff'), SameStore.event ⟨rfl, rfl, rfl⟩⟩
    · cases h

/-- A class whose shock byte is sound is sound with the byte it is told by. -/
theorem classValid_told {k : ProductClass} {sh : Byte} (h : classValid k sh = true) :
    classValid k (yesNo k.shockSensitive) = true := by
  simp only [classValid, Bool.and_eq_true, decide_eq_true_eq] at h ⊢
  refine ⟨h.1, ?_⟩
  cases k.shockSensitive <;> simp [yesNo]

theorem setClass_upholds {s : State} {entry : Option ProductClass} (n : Fin 16)
    (hv : ∀ k, entry = some k → classValid k (yesNo k.shockSensitive) = true) :
    Upholds False 0 s { s with classes := s.classes.set n.val entry } := by
  refine ⟨rfl, rfl, rfl, fun _ h => h, id, fun ⟨h1, h2, h3, hclass, h5⟩ => ⟨h1, h2, h3, fun i k hk => ?_, h5⟩, id, id, id, id, False.elim⟩
  simp only [Fin.getElem_fin, Vector.getElem_set] at hk
  split at hk
  · exact hv k hk
  · exact hclass i k hk

theorem judgeClassWrite_upholds {ops : List Byte} {s : State} {x : Byte × List Byte × State} (h : judgeClassWrite ops s = .ok x) :
    Upholds (s.onRoute = true) 0 s x.2.2 ∧ StoreEvent s x.2.2 := by
  unfold judgeClassWrite at h
  split at h
  · cases h
  · next n entry _ =>
    split at h
    · next hn =>
      split at h
      · cases h
      · next hvalid =>
        split at h
        · cases h
        · next hoff =>
          split at h
          · cases h
          · cases h
            refine ⟨.off_route (by simpa using hoff) (setClass_upholds ⟨n, hn⟩ fun k hk => ?_), SameStore.event ⟨rfl, rfl, rfl⟩⟩
            cases entry with
            | none => exact absurd hk (by simp)
            | some e =>
              obtain ⟨k', sh⟩ := e
              simp only [Option.map_some, Option.some.injEq] at hk
              subst hk
              exact classValid_told (by simpa using hvalid)
    · cases h

/-! ### The Pass Path, the alert settings, the configuration, part time -/

/-- A change of the Pass Path alone. -/
theorem setPass_upholds (p : Prop) (s : State) (n : PassPath) :
    Upholds p 0 s { s with pass := n } ∧ StoreEvent s { s with pass := n } :=
  ⟨Calm.upholds {} p, SameStore.event ⟨rfl, rfl, rfl⟩⟩

theorem judgeFrameClassWrite_upholds {ops : List Byte} {s : State} {x : Byte × List Byte × State}
    (h : judgeFrameClassWrite ops s = .ok x) (p : Prop) : Upholds p 0 s x.2.2 ∧ StoreEvent s x.2.2 := by
  unfold judgeFrameClassWrite at h
  split at h
  · cases h
  · split at h
    · cases h
    · cases h; exact setPass_upholds p s _

theorem judgePassMaskSet_upholds {ops : List Byte} {s : State} {x : Byte × List Byte × State} (h : judgePassMaskSet ops s = .ok x)
    (p : Prop) : Upholds p 0 s x.2.2 ∧ StoreEvent s x.2.2 := by
  unfold judgePassMaskSet at h
  split at h
  · cases h
  · cases h; exact setPass_upholds p s _

theorem judgeAlertLevelWrite_upholds {ops : List Byte} {s : State} {x : Byte × List Byte × State}
    (h : judgeAlertLevelWrite ops s = .ok x) (p : Prop) : Upholds p 0 s x.2.2 ∧ StoreEvent s x.2.2 := by
  unfold judgeAlertLevelWrite at h
  split at h
  · split at h
    · next hok =>
      cases h
      refine ⟨Calm.upholds { alerts := fun ⟨hm, ht⟩ => ⟨hm, fun i => ?_⟩ } p, SameStore.event ⟨rfl, rfl, rfl⟩⟩
      simp only [Fin.getElem_fin, Vector.getElem_set]
      split
      · exact ⟨hok.2.2, (ht ⟨_, hok.1⟩).2⟩
      · exact ht i
    · cases h
  · cases h

theorem judgeAlertMaskSet_upholds {ops : List Byte} {s : State} {x : Byte × List Byte × State} (h : judgeAlertMaskSet ops s = .ok x)
    (p : Prop) : Upholds p 0 s x.2.2 ∧ StoreEvent s x.2.2 := by
  unfold judgeAlertMaskSet at h
  split at h
  · split at h
    · next hok =>
      cases h
      exact ⟨Calm.upholds { alerts := fun ⟨_, ht⟩ => ⟨hok, ht⟩ } p, SameStore.event ⟨rfl, rfl, rfl⟩⟩
    · cases h
  · cases h

theorem clampNat_range {lo hi : Nat} (h : lo ≤ hi) (n : Nat) : lo ≤ clampNat lo hi n ∧ clampNat lo hi n ≤ hi := by
  unfold clampNat
  split
  · omega
  · split <;> omega

/-- A value given is clamped into its range, and one held was within it. -/
theorem clampGiven_range {lo hi v : Nat} (h : lo ≤ hi) (hv : lo ≤ v ∧ v ≤ hi) (o : Option Nat) :
    lo ≤ (o.map (clampNat lo hi)).getD v ∧ (o.map (clampNat lo hi)).getD v ≤ hi := by
  cases o with
  | none => exact hv
  | some n => exact clampNat_range h n

theorem clampConfig_range (o : ConfigOps) {k : Settings} (h : settingsInRange k) : settingsInRange (clampConfig o k) := by
  obtain ⟨h1, h2, h3, h4, h5, h6, h7, h8⟩ := h
  have hd := clampGiven_range (by decide : 16 ≤ 480) ⟨h1, h2⟩ o.settleDelay
  have hi := clampGiven_range (by decide : 120 ≤ 2400) ⟨h4, h5⟩ o.idleTimeout
  have hp := clampGiven_range (by decide : 120 ≤ 2400) ⟨h6, h7⟩ o.departTimeout
  have hh := clampGiven_range (by decide : 0 ≤ 1200) ⟨Nat.zero_le _, h8⟩ o.alertHoldoff
  refine ⟨hd.1, hd.2, ?_, hi.1, hi.2, hp.1, hp.2, hh.2⟩
  unfold clampConfig
  dsimp only
  cases o.arrivalLead with
  | some v => exact (clampNat_range (Nat.zero_le _) v).2
  | none =>
    cases hs : o.settleDelay with
    | none => simpa [hs] using h3
    | some d => exact Nat.min_le_right _ _

theorem judgeConfigWrite_upholds {ops : List Byte} {s : State} {x : Byte × List Byte × State} (h : judgeConfigWrite ops s = .ok x) :
    Upholds (s.onRoute = true) 0 s x.2.2 ∧ StoreEvent s x.2.2 := by
  unfold judgeConfigWrite at h
  split at h
  · cases h
  · next o _ =>
    dsimp only at h
    split at h
    · cases h
    · next hlock =>
      cases h
      refine ⟨⟨rfl, rfl, rfl, fun _ h => h, id, fun ⟨h1, h2, h3⟩ => ⟨h1, clampConfig_range o h2, h3⟩, id, id, id, id, fun hon => ?_⟩,
        SameStore.event ⟨rfl, rfl, rfl⟩⟩
      have hsame : (clampConfig o s.config).settleDelay = s.config.settleDelay
          ∧ (clampConfig o s.config).arrivalLead = s.config.arrivalLead := by
        simpa [hon, not_or] using hlock
      exact ⟨rfl, rfl, hsame.1, hsame.2, rfl, rfl, fun _ => .refl _, fun _ => PlacesKept_of_entries rfl⟩

theorem beNat_lt (l : List Byte) : beNat l < 256 ^ l.length := by
  have h : ∀ (l : List Byte) (a : Nat), l.foldl (fun a b => a * 256 + b.toNat) a < (a + 1) * 256 ^ l.length := by
    intro l
    induction l with
    | nil => intro a; simp
    | cons b l ih =>
      intro a
      have hb := b.isLt
      calc l.foldl (fun a b => a * 256 + b.toNat) (a * 256 + b.toNat)
          < (a * 256 + b.toNat + 1) * 256 ^ l.length := ih _
        _ ≤ ((a + 1) * 256) * 256 ^ l.length := Nat.mul_le_mul_right _ (by omega)
        _ = (a + 1) * 256 ^ (l.length + 1) := by rw [Nat.pow_succ, Nat.mul_assoc, Nat.mul_comm 256]
  simpa [beNat] using h l 0

theorem parseWord_le {ops : List Byte} {v : Nat} (h : parseWord ops = some v) : v ≤ max32 := by
  unfold parseWord at h
  split at h
  · next a b c d =>
    cases h
    have hlt := beNat_lt [a, b, c, d]
    simp only [max32]
    simp only [List.length_cons, List.length_nil] at hlt
    omega
  · cases h

end Sys2Proof.Machine
end

section
/-! SUPPORT. What the commands of part time, the manifest, the route, the Proof Store and the resets uphold and keep, said once for each. -/
namespace Sys2Proof.Machine

/-! ### Part time -/

/-- Part time set to v. -/
def State.timed (s : State) (v : Nat) : State := { s with clock := { partTime := v, timeSet := true } }

theorem setTime_eq (v : Nat) (s : State) :
    setTime v s = recoveryDue (doorSlots.foldl (fun s d => expireOpening d.1 d.2 s) (s.timed v)) := rfl

theorem timed_upholds {v : Nat} (hv : v ≤ max32) (s : State) : Upholds False 0 s (s.timed v) :=
  ⟨rfl, rfl, rfl, fun _ h => h, id, fun ⟨_, h2⟩ => ⟨hv, h2⟩, id, id, id, id, False.elim⟩

theorem timed_same (v : Nat) (s : State) : SameStore s (s.timed v) := ⟨rfl, rfl, rfl⟩

theorem expireOpenings_carries (p : Prop) (l : List (Fin 4 × Fin 2)) (s : State) :
    Carries p 0 s (l.foldl (fun s d => expireOpening d.1 d.2 s) s) :=
  foldl_carries (fun s d => expireOpening_carries p d.1 d.2 s) l s

theorem setTime_carries {v : Nat} (hv : v ≤ max32) {s : State} (hl : s.store.lockout = false) : Carries False 0 s (setTime v s) := by
  have htimed : Carries False 0 s (s.timed v) := .of_unlocked hl (timed_upholds hv s) (timed_same v s).event
  have hdoors := htimed.trans (expireOpenings_carries False doorSlots (s.timed v))
  rw [setTime_eq]
  exact hdoors.trans (recoveryDue_carries False _)

theorem judgeTimeSet_carries {ops : List Byte} {s : State} {x : Byte × List Byte × State} (h : judgeTimeSet ops s = .ok x) :
    Carries (s.onRoute = true) 0 s x.2.2 := by
  unfold judgeTimeSet at h
  split at h
  · cases h
  · next v hv =>
    split at h
    · cases h
    · next hl =>
      split at h
      · cases h
      · next hoff =>
        cases h
        have hset := setTime_carries (parseWord_le hv) (s := s) (by simpa [State.lockedOut] using hl)
        have hoffRoute : Carries (s.onRoute = true) 0 s (setTime v s) := hset.weaken hoff
        dsimp only
        exact hoffRoute

/-! ### The manifest -/

theorem mem_insertDrop {d x : Drop} {l : List Drop} : x ∈ insertDrop d l ↔ x = d ∨ x ∈ l := by
  induction l with
  | nil => simp [insertDrop]
  | cons y ys ih =>
    unfold insertDrop
    split
    · simp only [List.mem_cons]
    · simp only [List.mem_cons, ih]
      exact or_left_comm

theorem sum_eq_of_perm {l m : List Nat} (h : l.Perm m) : l.sum = m.sum := by
  induction h with
  | nil => rfl
  | cons a _ ih => rw [List.sum_cons, List.sum_cons, ih]
  | swap a b l => simp only [List.sum_cons]; omega
  | trans _ _ ih ih' => exact ih.trans ih'

theorem insertDrop_perm (d : Drop) (l : List Drop) : (insertDrop d l).Perm (d :: l) := by
  induction l with
  | nil => exact .refl _
  | cons y ys ih =>
    unfold insertDrop
    split
    · exact .refl _
    · exact (ih.cons y).trans (.swap d y ys)

theorem insertDrop_rises {d : Drop} {l : List Drop} (h : l.Pairwise fun a b => a.number < b.number) (hn : ∀ x ∈ l, x.number ≠ d.number) :
    (insertDrop d l).Pairwise fun a b => a.number < b.number := by
  induction l with
  | nil => simp [insertDrop]
  | cons y ys ih =>
    obtain ⟨hy, hys⟩ := List.pairwise_cons.1 h
    have hne := hn y List.mem_cons_self
    unfold insertDrop
    split
    · next hlt =>
      refine List.pairwise_cons.2 ⟨fun x hx => ?_, h⟩
      rcases List.mem_cons.1 hx with rfl | hx
      · exact hlt
      · exact Nat.lt_trans hlt (hy x hx)
    · next hge =>
      refine List.pairwise_cons.2 ⟨fun x hx => ?_, ih hys fun x hx => hn x (List.mem_cons_of_mem _ hx)⟩
      rcases mem_insertDrop.1 hx with rfl | hx
      · omega
      · exact hy x hx

/-- A change of the drops alone. -/
theorem Upholds.of_drops {p : Prop} {s : State} {ds : List Drop} (h : s.DropsFit → State.DropsFit { s with drops := ds }) :
    Upholds p 0 s { s with drops := ds } :=
  ⟨rfl, rfl, rfl, fun _ h => h, id, id, id, id, id, h, fun _ => ⟨rfl, rfl, rfl, rfl, rfl, rfl, fun _ => .refl _,
    fun _ => PlacesKept_of_entries rfl⟩⟩

/-- The drops with a new one put into its place. -/
def State.withDrop (s : State) (d : Drop) : State := { s with drops := insertDrop d s.drops }

theorem withDrop_upholds {p : Prop} {s : State} {d : Drop} (hn : s.findDrop d.number = none) (hr : 1 ≤ d.number ∧ d.number ≤ 64)
    (hpool : s.itemsHeld ≤ Config.poolPlaces → s.itemsHeld + d.items.length ≤ Config.poolPlaces) : Upholds p 0 s (s.withDrop d) := by
  refine .of_drops fun ⟨hrise, hrange, hheld, hctx⟩ => ⟨insertDrop_rises hrise fun x hx e => ?_, fun x hx => ?_, ?_, hctx⟩
  · exact List.find?_eq_none.1 hn x hx (by simp [e])
  · rcases mem_insertDrop.1 hx with rfl | hx
    · exact hr
    · exact hrange x hx
  · have hsum : ((insertDrop d s.drops).map fun d => d.items.length).sum = d.items.length + s.itemsHeld := by
      rw [sum_eq_of_perm ((insertDrop_perm d s.drops).map _)]; simp [State.itemsHeld]
    have := hpool hheld
    simp only [State.itemsHeld] at *
    omega

/-- A new drop's reservation is counted with the others. -/
theorem withDrop_event {s : State} {d : Drop} {i : Fin 256} (hi : s.lowestFree = some i) (hd : d.reservation = some i) :
    StoreEvent s ((reserveSlot i s).withDrop d) := by
  have hframe := reserveSlot_frame i s
  have howned : ((reserveSlot i s).withDrop d).owned.Perm (i :: s.owned) := by
    have hperm := (insertDrop_perm d (reserveSlot i s).drops).filterMap (·.reservation)
    rw [List.filterMap_cons_some hd, hframe.drops] at hperm
    simp only [State.owned, State.withDrop, hframe.route, hframe.drops]
    exact hperm.append_right _
  have hwork := reserveSlot_work s.owned (State.lowestFree_slot hi)
  have hall : StoreWork s.owned ((reserveSlot i s).withDrop d).owned s ((reserveSlot i s).withDrop d) :=
    .trans (.trans hwork (.forget (.of_perm howned) _)) (.of_same _ rfl rfl)
  refine .of_work hall fun hs hl => ?_
  have hstore : (reserveSlot i s).store = (s.setSlot i .reserved).store := storeLowCheck_store _
  have hl' : s.store.lockout = true := by
    have : (reserveSlot i s).store.lockout = true := hl
    rwa [hstore] at this
  refine ⟨?_, ?_⟩
  · change (reserveSlot i s).store.recovery = none
    rw [hstore]; exact (hs hl').1
  · change (reserveSlot i s).claims.queue = []
    rw [reserveSlot_claims]; exact (hs hl').2

/-- The drop of number n replaced by one of other items: what it makes of the items held. -/
theorem updDrop_itemsHeld {s : State} {n : Nat} {f : Drop → Drop} {k : Nat} (hf : ∀ d, (f d).items.length = k)
    (hrise : s.drops.Pairwise fun a b => a.number < b.number) {d : Drop} (hd : s.findDrop n = some d) :
    (s.updDrop n f).itemsHeld + d.items.length = s.itemsHeld + k := by
  obtain ⟨hnum, before, after, hsplit, hbefore⟩ := List.find?_eq_some_iff_append.1 hd
  have hnum' : d.number = n := by simpa using hnum
  have hsame : ∀ l : List Drop, (∀ x ∈ l, x.number ≠ n) →
      ((l.map fun d => if d.number = n then f d else d).map fun d => d.items.length) = l.map fun d => d.items.length := by
    intro l hl
    rw [List.map_map]
    refine List.map_congr_left fun x hx => ?_
    simp [hl x hx]
  have hafter : ∀ x ∈ after, x.number ≠ n := fun x hx e => by
    rw [hsplit] at hrise
    have := (List.pairwise_cons.1 (List.pairwise_append.1 hrise).2.1).1 x hx
    omega
  simp only [State.itemsHeld, State.updDrop, hsplit, List.map_append, List.map_cons, hnum', if_true, List.sum_append, List.sum_cons, hf]
  rw [hsame before fun x hx => by simpa using hbefore x hx, hsame after hafter]
  omega

theorem updDrop_dropsFit {s : State} {n : Nat} {f : Drop → Drop} {k : Nat} (hn : ∀ d, (f d).number = d.number)
    (hf : ∀ d, (f d).items.length = k) {d : Drop} (hd : s.findDrop n = some d)
    (hpool : s.itemsHeld ≤ Config.poolPlaces → s.itemsHeld + k ≤ Config.poolPlaces + d.items.length) (hs : s.DropsFit) :
    (s.updDrop n f).DropsFit := by
  obtain ⟨hrise, hrange, hheld, hctx⟩ := hs
  have hnumber : ∀ d : Drop, (if d.number = n then f d else d).number = d.number := fun d => by
    split
    · exact hn d
    · rfl
  refine ⟨?_, fun x hx => ?_, ?_, hctx⟩
  · exact List.pairwise_map.2 (hrise.imp fun h => by rw [hnumber, hnumber]; exact h)
  · obtain ⟨y, hy, rfl⟩ := List.mem_map.1 hx
    rw [hnumber]; exact hrange y hy
  · have := updDrop_itemsHeld hf hrise hd
    have := hpool hheld
    omega

theorem loadDrop_upholds {l : StagedPart} {s t : State} (p : Prop) (h : loadDrop l s = some t) (hr : 1 ≤ l.number ∧ l.number ≤ 64)
    (hroom : l.items.length ≤ s.poolFree + s.replacedItems l.number) : Upholds p 0 s t ∧ StoreEvent s t := by
  unfold loadDrop at h
  split at h
  · next d hd =>
    cases h
    refine ⟨.of_drops (updDrop_dropsFit (k := l.items.length) (fun _ => rfl) (fun _ => rfl) hd fun hheld => ?_),
      (updDrop_same l.number (f := replaceDrop l) (fun _ => rfl) s).event⟩
    rw [State.replacedItems, hd] at hroom
    simp only [State.poolFree] at hroom
    omega
  · next hn =>
    split at h
    · cases h
    · next i hi =>
      cases h
      have hframe := reserveSlot_frame i s
      refine ⟨.trans (t := reserveSlot i s) (hframe.upholds p) (withDrop_upholds ?_ hr fun hheld => ?_), withDrop_event hi rfl⟩
      · rw [State.findDrop, hframe.drops]; exact hn
      · rw [State.replacedItems, hn] at hroom
        simp only [State.itemsHeld, hframe.drops] at hheld ⊢
        simp only [State.poolFree, State.itemsHeld] at hroom
        simp only [newDrop]
        omega

theorem loadInRange_number {l : StagedPart} (h : loadInRange l = true) : 1 ≤ l.number ∧ l.number ≤ 64 := by
  simp only [loadInRange, Bool.and_eq_true, decide_eq_true_eq] at h
  obtain ⟨⟨⟨⟨⟨⟨hlow, hhigh⟩, -⟩, -⟩, -⟩, -⟩, -⟩ := h
  exact ⟨hlow, hhigh⟩

theorem judgeLoad_upholds {l : StagedPart} {s : State} {x : Byte × List Byte × State} (p : Prop) (h : judgeLoad l s = .ok x) :
    Upholds p 0 s x.2.2 ∧ StoreEvent s x.2.2 := by
  unfold judgeLoad at h
  split at h
  · cases h
  · split at h
    · cases h
    · split at h
      · cases h
      · next hrange =>
        split at h
        · cases h
        · split at h
          · cases h
          · next hroom =>
            split at h
            · cases h
            · next t ht =>
              cases h
              exact loadDrop_upholds p ht (loadInRange_number (by simpa using hrange)) (Nat.le_of_not_lt hroom)

theorem judgeLoadSingle_upholds {ops : List Byte} {s : State} {x : Byte × List Byte × State} (p : Prop)
    (h : judgeLoadSingle ops s = .ok x) : Upholds p 0 s x.2.2 ∧ StoreEvent s x.2.2 := by
  unfold judgeLoadSingle at h
  split at h
  · cases h
  · exact judgeLoad_upholds p h

/-- A change of the staged part. -/
theorem stage_carries (p : Prop) (s : State) (x : Option StagedPart) : Carries p 0 s { s with route := { s.route with staged := x } } :=
  Calm.carries {} ⟨rfl, rfl, rfl⟩ {}

theorem judgeLoadPartOne_upholds {ops : List Byte} {s : State} {x : Byte × List Byte × State} (p : Prop)
    (h : judgeLoadPartOne ops s = .ok x) : Upholds p 0 s x.2.2 ∧ StoreEvent s x.2.2 := by
  unfold judgeLoadPartOne at h
  split at h
  · cases h
  · cases h; exact ⟨(stage_carries p s _).upholds, (stage_carries p s _).store⟩

theorem runLoadPartTwo_carries (p : Prop) (m : CmdHdr) (ops : List Byte) (s : State) : Carries p 1 s (runLoadPartTwo m ops s) := by
  refine gated_carries (fun hl => ?_) _ _
  have hstage : Carries p 0 s (dropStaged s) := stage_carries p s none
  refine .trans (m := 0) (n := 1) hstage (settle_carries (fun x hx => ?_) (.refl p _) _ _)
  have hload : Upholds p 0 (dropStaged s) x.2.2 ∧ StoreEvent (dropStaged s) x.2.2 := by
    unfold judgeLoadPartTwo at hx
    split at hx
    · cases hx
    · exact judgeLoad_upholds p hx
  exact .of_unlocked hl hload.1 hload.2

/-- The drops without the one of number n. -/
def State.withoutDrop (s : State) (n : Nat) : State := { s with drops := s.drops.filter fun e => e.number != n }

theorem withoutDrop_calm (s : State) (n : Nat) : Calm 0 s (s.withoutDrop n) where
  sizes := List.filter_sublist.map _

theorem deleteDrop_eq (d : Drop) (s : State) :
    deleteDrop d s = (match d.reservation with | some i => handBack i s | none => s).withoutDrop d.number := by
  unfold deleteDrop; cases d.reservation <;> rfl

/-- The reservations without a drop of the manifest, and its own. -/
theorem withoutDrop_reservations {ds : List Drop} {n : Nat} {d : Drop} (hd : ds.find? (fun d => d.number = n) = some d) :
    Within (d.reservation.toList ++ (ds.filter fun e => e.number != n).filterMap (·.reservation)) (ds.filterMap (·.reservation)) := by
  have h := reservations_given_up (f := fun d => { d with reservation := none }) (fun _ => rfl) hd
  have hsame : (ds.map fun d => if d.number = n then { d with reservation := none } else d).filterMap (·.reservation)
      = (ds.filter fun e => e.number != n).filterMap (·.reservation) := by
    clear hd h
    induction ds with
    | nil => rfl
    | cons x xs ih =>
      by_cases hx : x.number = n
      · simp [hx, ih]
      · simp [hx, ih, List.filterMap_cons]
  rwa [hsame] at h

theorem deleteDrop_upholds {s : State} {n : Nat} {d : Drop} (hd : s.findDrop n = some d) (p : Prop) :
    Upholds p 0 s (deleteDrop d s) ∧ StoreEvent s (deleteDrop d s) := by
  have hnum : d.number = n := by simpa using List.find?_some hd
  subst hnum
  rw [deleteDrop_eq]
  refine ⟨.trans ?_ ((withoutDrop_calm _ _).upholds p), ?_⟩
  · split
    · exact (handBack_frame _ s).upholds p
    · exact .refl p s
  · have hsub := (withoutDrop_reservations hd).append_right s.route.reservation.toList
    rw [List.append_assoc] at hsub
    split
    · next i hi =>
      rw [hi] at hsub
      exact .of_work (.trans (.forget hsub s) (.trans (handBack_work i _ s) (.of_same _ rfl rfl))) id
    · next hi =>
      rw [hi] at hsub
      exact .of_work (.trans (.forget hsub s) (.of_same _ rfl rfl)) id

theorem judgeManifestDelete_upholds {ops : List Byte} {s : State} {x : Byte × List Byte × State} (p : Prop)
    (h : judgeManifestDelete ops s = .ok x) : Upholds p 0 s x.2.2 ∧ StoreEvent s x.2.2 := by
  unfold judgeManifestDelete at h
  split at h
  · cases h
  · split at h
    · cases h
    · split at h
      · cases h
      · next d hd =>
        split at h
        · cases h; exact deleteDrop_upholds hd p
        · cases h

/-! ### Opening and closing a route -/

/-- A seeded compartment, before its Tg is taken. -/
def State.seeded (s : State) (t : Nat) (c : Fin 4) : State :=
  s.setComp c
    { profile := (s.comp c).profile, window := seedWindow (s.comp c).profile.enabled t, account := s.seedAccount c t,
      doors := s.seedDoors c t, totals := {} }

theorem seedComp_eq (t : Nat) (s : State) (c : Fin 4) :
    seedComp t s c = if (s.comp c).profile.enabled then seedThermal c t (s.seeded t c) else s.seeded t c := rfl

theorem seeded_comp (s : State) (t : Nat) (c k : Fin 4) : (s.seeded t c).comp k
    = if k = c then { profile := (s.comp c).profile, window := seedWindow (s.comp c).profile.enabled t, account := s.seedAccount c t,
                      doors := s.seedDoors c t, totals := {} } else s.comp k := State.setComp_comp s c k _

theorem seedAccount_agrees (s : State) (c : Fin 4) (t : Nat) (q : Profile) :
    accountInRange (s.seedAccount c t) ∧ gradeAgrees q (s.seedAccount c t) := by
  unfold State.seedAccount
  split <;> exact ⟨⟨Nat.zero_le _, Nat.zero_le _, Nat.zero_le _, Nat.zero_le _, Nat.zero_le _, Nat.zero_le _, Nat.zero_le _⟩, trivial⟩

theorem seeded_upholds {s : State} (t : Nat) (c : Fin 4) (hoff : s.onRoute = false) : Upholds False 0 s (s.seeded t c) := by
  refine ⟨rfl, rfl, rfl, fun _ h => h, id, fun ⟨h1, h2, hcomp, h4⟩ => ⟨h1, h2, fun k => ?_, h4⟩, id, fun hs k => ?_, fun _ hon => ?_, id, False.elim⟩
  · rw [seeded_comp]
    split
    · exact ⟨(hcomp c).1, (seedAccount_agrees s c t (s.comp c).profile).1⟩
    · exact hcomp k
  · rw [seeded_comp]
    split
    · exact ⟨List.Pairwise.nil, fun e he => absurd he (by simp [seedWindow]), Nat.zero_le _⟩
    · exact hs k
  · have : s.onRoute = true := hon
    rw [hoff] at this; exact absurd this (by simp)

theorem seeded_same (t : Nat) (c : Fin 4) (s : State) : SameStore s (s.seeded t c) := ⟨rfl, rfl, rfl⟩

theorem seedThermal_frame (c : Fin 4) (t : Nat) (s : State) : SettleFrame s (seedThermal c t s) := by
  unfold seedThermal
  split
  · exact setTg_frame _ _ _ s
  · exact (raise_frame _ _ _ s).settle

/-- Seeding leaves the route, and makes the grades of the compartments seeded agree. -/
structure Seeding (cs : List (Fin 4)) (s t : State) : Prop where
  upholds : Upholds False 0 s t
  same : SameStore s t
  route : t.route = s.route
  grades : ∀ c, c ∈ cs ∨ gradeAgrees (s.comp c).profile (s.comp c).account → gradeAgrees (t.comp c).profile (t.comp c).account

theorem seedThermal_same (c : Fin 4) (t : Nat) (s : State) : SameStore s (seedThermal c t s) := by
  unfold seedThermal
  split
  · exact setTg_same _ _ _ s
  · exact raise_same _ _ _ s

theorem seedComp_seeding {s : State} (t : Nat) (c : Fin 4) (hoff : s.onRoute = false) : Seeding [c] s (seedComp t s c) := by
  have hgrade : ∀ k, k ∈ [c] ∨ gradeAgrees (s.comp k).profile (s.comp k).account →
      gradeAgrees ((s.seeded t c).comp k).profile ((s.seeded t c).comp k).account := fun k hk => by
    rw [seeded_comp]
    split
    · exact (seedAccount_agrees s c t _).2
    · next hne => exact hk.resolve_left fun hm => hne (by simpa using hm)
  rw [seedComp_eq]
  split
  · have hframe := seedThermal_frame c t (s.seeded t c)
    refine ⟨(seeded_upholds t c hoff).trans (hframe.upholds False), .trans (seeded_same t c s) (seedThermal_same c t _), hframe.route,
      fun k hk => ?_⟩
    rw [(hframe.comps k).profile]
    exact (hframe.comps k).account.grade (hgrade k hk)
  · exact ⟨seeded_upholds t c hoff, ⟨rfl, rfl, rfl⟩, rfl, hgrade⟩

theorem seedAll_seeding (t : Nat) (cs : List (Fin 4)) {s : State} (hoff : s.onRoute = false) : Seeding cs s (cs.foldl (seedComp t) s) := by
  induction cs generalizing s with
  | nil => exact ⟨.refl _ s, .refl s, rfl, fun c h => h.resolve_left (by simp)⟩
  | cons c cs ih =>
    have hone := seedComp_seeding t c hoff
    have hrest := ih (s := seedComp t s c) (by rw [State.onRoute, hone.route]; exact hoff)
    refine ⟨hone.upholds.trans hrest.upholds, hone.same.trans hrest.same, hrest.route.trans hone.route, fun k hk => ?_⟩
    refine hrest.grades k ?_
    rcases hk with hk | hk
    · rcases List.mem_cons.1 hk with rfl | hk
      · exact .inr (hone.grades k (.inl (by simp)))
      · exact .inl hk
    · exact .inr (hone.grades k (.inr hk))

/-- The route identified, with slot i for its reservation. -/
def State.identified (s : State) (id : Nat) (i : Fin 256) : State :=
  { s with route := { s.route with id := id, openTime := s.now, closeTime := none, closeReason := none, reservation := some i } }

theorem beginRoute_eq (id : Nat) (i : Fin 256) (s : State) : beginRoute id i s = reserveSlot i (s.identified id i) := rfl

theorem identified_upholds (n : Nat) (i : Fin 256) (s : State) : Upholds False 0 s (s.identified n i) :=
  ⟨rfl, rfl, rfl, fun _ h => h, id, id, id, id, id, id, False.elim⟩

theorem beginRoute_event {s : State} {i : Fin 256} (id : Nat) (hi : s.lowestFree = some i) : StoreEvent s (beginRoute id i s) := by
  have hframe := reserveSlot_frame i (s.identified id i)
  have hsub : Within (beginRoute id i s).owned (i :: s.owned) := by
    rw [beginRoute_eq, hframe.owned]
    change Within (s.drops.filterMap (·.reservation) ++ [i]) _
    refine (Within.of_perm (List.perm_append_singleton i _)).trans ?_
    exact .of_sublist ((List.sublist_append_left (s.drops.filterMap (·.reservation)) s.route.reservation.toList).cons_cons i)
  have hwork : StoreWork s.owned (beginRoute id i s).owned s (beginRoute id i s) :=
    .trans (t := s.identified id i) (.of_same _ rfl rfl)
      (.trans (reserveSlot_work s.owned (State.lowestFree_slot (s := s) hi)) (.forget hsub _))
  refine .of_work hwork fun hs => ?_
  have hstore : (beginRoute id i s).store = (s.setSlot i .reserved).store := storeLowCheck_store _
  have hclaims : (beginRoute id i s).claims = s.claims := reserveSlot_claims i _
  intro hl
  rw [hstore] at hl ⊢
  rw [hclaims]
  exact hs hl

theorem fillRouteOpen_frame (s : State) : StoreFrame s (fillRouteOpen s) := by
  unfold fillRouteOpen
  split
  · exact fillFree_frame _ _ s
  · exact .refl s

theorem fillRouteOpen_event (s : State) : StoreEvent s (fillRouteOpen s) := by
  unfold fillRouteOpen
  split
  · next i hi =>
    exact .of_frame (fillFree_frame _ _ s) (fun R => fillFree_work R (State.lowestFree_slot hi) _)
      fun hs => fillFree_settles _ _ hs.noLockedRecovery
  · exact .refl s

/-- The route is OPEN. -/
def State.opened (s : State) : State := { s with route := { s.route with state := .opened } }

theorem openRoute_eq (id : Nat) (i : Fin 256) (s : State) :
    openRoute id i s = (fillRouteOpen (compartments.foldl (seedComp s.now) (beginRoute id i s))).opened := rfl

theorem opened_upholds {s : State} (hg : ∀ c, gradeAgrees (s.comp c).profile (s.comp c).account) : Upholds False 0 s s.opened :=
  ⟨rfl, rfl, rfl, fun _ h => h, id, id, id, id, fun _ _ => hg, id, False.elim⟩

theorem opened_same (s : State) : SameStore s s.opened := ⟨rfl, rfl, rfl⟩

theorem mem_compartments (c : Fin 4) : c ∈ compartments := by revert c; decide

/-- The route opens, with the compartments cs seeded, which are all of them. -/
theorem openOver_upholds {s : State} {i : Fin 256} (n : Nat) (hi : s.lowestFree = some i) (hoff : s.onRoute = false)
    {cs : List (Fin 4)} (hcs : ∀ c, c ∈ cs) :
    Upholds False 0 s (fillRouteOpen (cs.foldl (seedComp s.now) (beginRoute n i s))).opened
      ∧ StoreEvent s (fillRouteOpen (cs.foldl (seedComp s.now) (beginRoute n i s))).opened := by
  have hbegin := reserveSlot_frame i (s.identified n i)
  have hseed := seedAll_seeding s.now cs (s := beginRoute n i s) (by
    rw [beginRoute_eq, State.onRoute, hbegin.route]; exact hoff)
  have hfill := fillRouteOpen_frame (cs.foldl (seedComp s.now) (beginRoute n i s))
  have hgrades : ∀ c, gradeAgrees ((fillRouteOpen (cs.foldl (seedComp s.now) (beginRoute n i s))).comp c).profile
      ((fillRouteOpen (cs.foldl (seedComp s.now) (beginRoute n i s))).comp c).account := fun c => by
    have hc := hseed.grades c (.inl (hcs c))
    rwa [← State.comp_congr hfill.comps] at hc
  have hup := ((identified_upholds n i s).trans (hbegin.upholds False)).trans hseed.upholds
  exact ⟨(hup.trans (hfill.upholds False)).trans (opened_upholds hgrades),
    ((beginRoute_event n hi).trans hseed.same.event).trans ((fillRouteOpen_event _).trans (opened_same _).event)⟩

theorem openRoute_upholds {s : State} {i : Fin 256} (n : Nat) (hi : s.lowestFree = some i) (hoff : s.onRoute = false) :
    Upholds False 0 s (openRoute n i s) ∧ StoreEvent s (openRoute n i s) :=
  openOver_upholds n hi hoff mem_compartments

theorem judgeRouteOpen_upholds {ops : List Byte} {s : State} {x : Byte × List Byte × State} (h : judgeRouteOpen ops s = .ok x) :
    Upholds (s.onRoute = true) 0 s x.2.2 ∧ StoreEvent s x.2.2 := by
  unfold judgeRouteOpen at h
  split at h
  · cases h
  · split at h
    · cases h
    · next hoff =>
      split at h
      · cases h
      · split at h
        · cases h
        · split at h
          · cases h
          · split at h
            · cases h
            · next i hi =>
              cases h
              have hoff' : s.onRoute = false := by simpa using hoff
              obtain ⟨hup, hstore⟩ := openRoute_upholds _ hi hoff'
              exact ⟨.off_route hoff' hup, hstore⟩

/-- The route closes at part time. -/
def State.closesNow (s : State) : State := { s with route := { s.route with closeTime := some s.now } }

/-- The route is CLOSING. -/
def State.closing (s : State) : State := { s with route := { s.route with state := .closing } }

theorem closeRoute_eq (s : State) : closeRoute s = (closeLive s.now s.closesNow).closing := rfl

theorem closesNow_calm (s : State) : Calm 0 s s.closesNow := {}

theorem closing_calm {s : State} (h : s.onRoute = true) : Calm 0 s s.closing where
  onRoute _ := h

theorem closesNow_same (s : State) : SameStore s s.closesNow := ⟨rfl, rfl, rfl⟩

theorem closing_same (s : State) : SameStore s s.closing := ⟨rfl, rfl, rfl⟩

theorem closeRoute_upholds (p : Prop) {s : State} (hopen : s.route.state = .opened) :
    Upholds p 0 s (closeRoute s) ∧ StoreEvent s (closeRoute s) := by
  rw [closeRoute_eq]
  have hlive := closeLive_frame s.now s.closesNow
  have hon : (closeLive s.now s.closesNow).onRoute = true := by
    rw [State.onRoute, hlive.route]
    simp [State.closesNow, hopen]
  exact ⟨(((closesNow_calm s).upholds p).trans (hlive.upholds p)).trans ((closing_calm hon).upholds p),
    ((closesNow_same s).event.trans (closeLive_event _ _)).trans (closing_same _).event⟩

theorem judgeRouteClose_upholds {ops : List Byte} {s : State} {x : Byte × List Byte × State} (p : Prop)
    (h : judgeRouteClose ops s = .ok x) : Upholds p 0 s x.2.2 ∧ StoreEvent s x.2.2 := by
  unfold judgeRouteClose at h
  split at h
  · cases h
  · split at h
    · cases h
    · next hopen =>
      split at h
      · cases h
      · cases h
        exact closeRoute_upholds p (by simpa using hopen)

end Sys2Proof.Machine
end

section
/-! SUPPORT. What the commands of the Proof Store and the resets uphold and keep, the taking of a command, and what a cold start leaves. -/
namespace Sys2Proof.Machine

/-! ### PROOF_FETCH -/

theorem afterRead_carries (p : Prop) (s : State) : Carries p 0 s s.afterRead := Calm.carries {} ⟨rfl, rfl, rfl⟩ {}

/-- A slot changed from one form of its record to another that the record's keeping allows. -/
theorem keepSlot_carries (p : Prop) {s : State} {i : Fin 256} {v : Slot} (hk : (s.slot i).Keeps v)
    (hi : (s.slot i).header?.isSome = true) (hv : v.header?.isSome = true) : Carries p 0 s (s.setSlot i v) := by
  refine ⟨(setSlot_frame i v s).upholds p, ⟨fun hs => ?_, fun _ => .setSlot hk, id, id⟩, fun _ _ => {}⟩
  exact (storeSound_iff _).2 (((storeSound_iff s).1 hs).setSlot_record hi hv)

/-- A detection in LOCKOUT is counted and reported (R159). -/
theorem detectFault_locked {s : State} (hl : s.store.lockout = true) (src : FaultSource) (i : Fin 256) (n : Nat) (k : RecordKind) :
    detectFault src i n k s = (raise .storeFault (.slot i) (some (sourceCode src).toNat) s).updStoreCounts (countFault src) := by
  rw [detectFault]; exact if_pos hl

theorem sweepClaims_empty {s : State} (h : s.claims.queue = []) : sweepClaims s = s := by
  unfold sweepClaims abortClaims
  rw [h]
  split <;> rfl

/-- The detection of a failed read, and the sweep of the claims. -/
theorem sweepFault_carries (p : Prop) (src : FaultSource) (i : Fin 256) (n : Nat) (k : RecordKind) (s : State) :
    Carries p 0 s (sweepClaims (detectFault src i n k s)) := by
  have hframe := (detectFault_frame src i n k s).trans (sweepClaims_frame _)
  refine ⟨hframe.upholds p, .of_frame hframe (fun R => (detectFault_work R src i n k s).trans (sweepClaims_work R _)) fun hs => ?_,
    fun hl hs => ?_⟩
  · exact sweepClaims_settles ((detectFault_work [] src i n k s).recovery hs.noLockedRecovery)
  · rw [detectFault_locked hl, sweepClaims_empty (s := (raise _ _ _ s).updStoreCounts _) (hs hl).2]
    exact {}

theorem fetchFault_carries (p : Prop) {s : State} {i : Fin 256} {h : RecordHeader} {f : Bool} (hk : (s.slot i).Keeps (.corrupt h f))
    (hi : (s.slot i).header?.isSome = true) : Carries p 0 s (fetchFault i h f s) :=
  ((afterRead_carries p s).trans (keepSlot_carries p (s := s.afterRead) hk hi rfl)).trans (sweepFault_carries p _ _ _ _ _)

theorem answerRecord_carries (p : Prop) (m : CmdHdr) (payload : List Byte) (s : State) : Carries p 1 s (answerRecord m payload s) := by
  have hcount : Carries p 0 s (s.updStoreCounts fun n => { n with fetched := satInc max32 n.fetched }) :=
    ⟨(updStoreCounts_frame _ s).upholds p, .of_frame (updStoreCounts_frame _ s) (fun R => updStoreCounts_work R _ s) id, fun _ _ => {}⟩
  exact hcount.trans (answer_carries p _ _ _ _)

theorem fetchNextSlot_carries (p : Prop) (m : CmdHdr) (i : Fin 256) (s : State) : Carries p 1 s (fetchNextSlot m i s) := by
  unfold fetchNextSlot
  split
  · next h b hs =>
    split
    · exact (fetchFault_carries p (by rw [hs]; exact .inr (.inr ⟨true, rfl⟩)) (by rw [hs]; rfl)).trans (answerRecord_carries p _ _ _)
    · have htaken : Carries p 0 s.afterRead (s.afterRead.setSlot i (.taken h b)) :=
        keepSlot_carries p (s := s.afterRead) (by change (s.slot i).Keeps _; rw [hs]; exact .inr (.inl rfl))
          (by change (s.slot i).header?.isSome = true; rw [hs]; rfl) rfl
      exact ((afterRead_carries p s).trans htaken).trans (answerRecord_carries p _ _ _)
  · next h f hs =>
    exact (keepSlot_carries p (by rw [hs]; exact .inr rfl) (by rw [hs]; rfl) rfl).trans (answerRecord_carries p _ _ _)
  · exact answer_carries p _ _ _ s

theorem runFetchNext_carries (p : Prop) (m : CmdHdr) (ops : List Byte) (s : State) : Carries p 1 s (runFetchNext m ops s) := by
  unfold runFetchNext
  split
  · split
    · exact answer_carries p _ _ _ s
    · split
      · exact answer_carries p _ _ _ s
      · exact fetchNextSlot_carries p m _ s
  · exact answer_carries p _ _ _ s

theorem fetchSlot_carries (p : Prop) (m : CmdHdr) (i : Fin 256) (g : Nat) (s : State) : Carries p 1 s (fetchSlot m i g s) := by
  unfold fetchSlot
  split
  · next h b hs =>
    split
    · exact answer_carries p _ _ _ s
    · split
      · exact (fetchFault_carries p (by rw [hs]; exact .inr (.inr ⟨false, rfl⟩)) (by rw [hs]; rfl)).trans (answerRecord_carries p _ _ _)
      · exact (afterRead_carries p s).trans (answerRecord_carries p _ _ _)
  · next h b hs =>
    split
    · exact answer_carries p _ _ _ s
    · split
      · exact (fetchFault_carries p (by rw [hs]; exact .inr rfl) (by rw [hs]; rfl)).trans (answerRecord_carries p _ _ _)
      · exact (afterRead_carries p s).trans (answerRecord_carries p _ _ _)
  · exact answerRecord_carries p _ _ s
  · exact answer_carries p _ _ _ s

theorem runFetchNumber_carries (p : Prop) (m : CmdHdr) (ops : List Byte) (s : State) : Carries p 1 s (runFetchNumber m ops s) := by
  unfold runFetchNumber
  split
  · exact answer_carries p _ _ _ s
  · split
    · exact answer_carries p _ _ _ s
    · split
      · exact answer_carries p _ _ _ s
      · exact fetchSlot_carries p m _ _ s

/-! ### PROOF_RELEASE -/

theorem foldl_free_slot (js : List (Fin 256)) (v : Vector Slot 256) (k : Fin 256) :
    (js.foldl (fun v j => v.set j.val .free) v)[k] = if k ∈ js then .free else v[k] := by
  induction js generalizing v with
  | nil => simp
  | cons j js ih =>
    rw [List.foldl_cons, ih]
    by_cases hk : k ∈ js
    · simp [hk]
    · by_cases hj : j = k
      · subst hj; simp [hk]
      · have hne : j.val ≠ k.val := fun e => hj (Fin.ext e)
        simp [hk, Ne.symm hj, hne]

/-- A release makes the slots given FREE, and leaves every other (R158). -/
theorem freeSlots_slot (js : List (Fin 256)) (s : State) (k : Fin 256) :
    (freeSlots js s).slot k = if k ∈ js then .free else s.slot k := foldl_free_slot js s.store.slots k

/-- Slots that hold records are freed: the store stays sound (R158). -/
theorem freeSlots_sound {js : List (Fin 256)} {s : State} (hjs : ∀ j ∈ js, (s.slot j).header?.isSome = true) (hs : s.StoreSound) :
    (freeSlots js s).StoreSound := by
  obtain ⟨honce, hlisted, hapart, hheld, hnum⟩ := hs
  refine ⟨honce.filter _, fun i => ?_, hapart, fun i hi => ?_, hnum⟩
  · rw [freeSlots_slot]
    have hmem : i ∈ (freeSlots js s).store.fillList ↔ i ∈ s.store.fillList ∧ i ∉ js := by
      simp [freeSlots, List.mem_filter]
    rw [hmem]
    split
    · next hi => simp [Slot.header?, hi]
    · next hi => simp [hi, hlisted i]
  · have hres : s.slot i = .reserved := hheld i hi
    rw [freeSlots_slot, if_neg fun hm => ?_]
    · exact hres
    · have := hjs i hm
      rw [hres] at this
      exact absurd this (by simp [Slot.header?])

theorem releasable_header {x : Slot} (h : releasable x = true) : x.header?.isSome = true := by
  cases x <;> simp_all [releasable, Slot.header?]

theorem freedBy_header {s : State} {i j : Fin 256} (h : j ∈ s.freedBy i) : (s.slot j).header?.isSome = true :=
  releasable_header (List.mem_filter.1 h).2

theorem freeSlots_calm (js : List (Fin 256)) (s : State) : Calm 0 s (freeSlots js s) := {}

theorem freeSlots_move {js : List (Fin 256)} {s : State} (hjs : ∀ j ∈ js, (s.slot j).header?.isSome = true) :
    StoreMove s (freeSlots js s) where
  sound := freeSlots_sound hjs
  records _ i := by
    rw [freeSlots_slot]
    split
    · exact .inr rfl
    · exact .inl (.refl _)
  settled := id
  claims := id

/-- The last part of an event, and then an answer, which leaves the store. -/
theorem Handles.answered {p : Prop} {s t : State} (h : Handles p 0 s t) (code : Byte) (m : CmdHdr) (a : Answer) :
    Handles p 1 s (answer code m a t) where
  upholds := h.upholds.trans (answer_carries p code m a t).upholds
  store := ⟨h.store.sound, h.store.records, h.store.settled, h.store.claims⟩
  frozen hl hs := (h.frozen hl hs).trans {}

theorem judgeRelease_handles {ops : List Byte} {s : State} {x : Byte × List Byte × State} (p : Prop) (h : judgeRelease ops s = .ok x) :
    Handles p 0 s x.2.2 := by
  unfold judgeRelease at h
  split at h
  · cases h
  · split at h
    · cases h
    · split at h
      · cases h
      · next i _ =>
        cases h
        have hfree : Handles p 0 s (freeSlots (s.freedBy i) s) :=
          ⟨(freeSlots_calm _ s).upholds p, freeSlots_move fun _ => freedBy_header, fun _ _ => {}⟩
        exact hfree

theorem runRelease_handles (p : Prop) (code : Byte) (m : CmdHdr) (ops : List Byte) (s : State) :
    Handles p 1 s (settle code m (judgeRelease ops s) s) := by
  cases hj : judgeRelease ops s with
  | error r => exact (answer_carries p _ _ _ s).handles
  | ok x => exact (judgeRelease_handles p hj).answered _ _ _

/-! ### Lodgings from the trunk, queries, MONITOR_RESET -/

theorem trunkLodgeCheck_unlocked {s : State} {o : Option LodgeOps} (h : s.trunkLodgeCheck o = none) : s.store.lockout = false := by
  cases hl : s.store.lockout
  · rfl
  · rw [State.trunkLodgeCheck.eq_def, State.lockedOut, if_pos hl] at h; exact absurd h (by simp)

theorem trunkLodgeCheck_parsed {s : State} (h : s.trunkLodgeCheck none = none) : False := by
  rw [State.trunkLodgeCheck.eq_def] at h
  split at h <;> exact absurd h (by simp)

theorem runClaimLodge_carries (p : Prop) (m : CmdHdr) (ops : List Byte) (s : State) : Carries p 1 s (runClaimLodge m ops s) := by
  unfold runClaimLodge
  split
  · exact (updClaimCounts_carries p _ s).trans (answer_carries p _ _ _ _)
  · next o hcheck ho =>
    split
    · exact (updClaimCounts_carries p _ s).trans (answer_carries p _ _ _ _)
    · next i hi =>
      exact ((joinClaim_carries p hi (trunkLodgeCheck_unlocked hcheck) _ _ _).trans (answer_carries p _ _ _ _)).trans
        (settleLodging_carries p _)
  · next hcheck ho =>
    rw [ho] at hcheck
    exact (trunkLodgeCheck_parsed hcheck).elim

theorem runQuery_carries (p : Prop) (m : CmdHdr) (r : State → QueryResult) (s : State) : Carries p 1 s (runQuery m r s) := by
  unfold runQuery
  split <;> exact answer_carries p _ _ _ s

theorem zeroAlerts_calm (s : State) : Calm 0 s (zeroAlerts s) where
  alerts := fun ⟨hm, ht⟩ => ⟨hm, fun i => by
    simp only [zeroAlerts, Fin.getElem_fin, Vector.getElem_map]
    exact ⟨(ht i).1, Nat.zero_le _, Nat.zero_le _⟩⟩

theorem zeroAlerts_same (s : State) : SameStore s (zeroAlerts s) := ⟨rfl, rfl, rfl⟩

theorem beginForced_eq (s : State) :
    beginForced s = closeLive s.now (if s.route.state = .opened then s.closesNow else s) := rfl

theorem beginForced_upholds (p : Prop) (s : State) : Upholds p 0 s (beginForced s) ∧ StoreEvent s (beginForced s) := by
  rw [beginForced_eq]
  split
  · exact ⟨((closesNow_calm s).upholds p).trans ((closeLive_frame _ _).upholds p), (closesNow_same s).event.trans (closeLive_event _ _)⟩
  · exact ⟨(closeLive_frame _ _).upholds p, closeLive_event _ _⟩

theorem forceWindows_upholds (p : Prop) (s : State) : Upholds p 0 s (forceWindows s) ∧ StoreEvent s (forceWindows s) :=
  ⟨(foldl_window (fun s c => forceWindow_frame c s) _ s).upholds p, foldl_event (fun s c => forceWindow_event c s) _ s⟩

theorem abortClaims_event (s : State) : StoreEvent s (abortClaims s) :=
  .of_frame (abortClaims_frame s) (fun R => abortClaims_work R s) fun hs hl => by
    have hstore := abortClaims_store s
    rw [hstore] at hl ⊢
    exact ⟨(hs hl).1, abortClaims_queue s⟩

/-- A part of an event with the answer after it. -/
theorem answered_upholds {p : Prop} {s t : State} (h : Upholds p 0 s t ∧ StoreEvent s t) (code : Byte) (m : CmdHdr) (a : Answer) :
    Upholds p 1 s (answer code m a t) ∧ StoreEvent s (answer code m a t) :=
  ⟨h.1.trans (answer_carries p code m a t).upholds, h.2.trans (answer_carries p code m a t).store⟩

theorem endForced_upholds (p : Prop) (m : CmdHdr) (start settling : State) (s : State) :
    Upholds p 1 s (endForced m start settling s) ∧ StoreEvent s (endForced m start settling s) := by
  have hend := endRoute_upholds p .reset s
  unfold endForced
  dsimp only
  split
  · exact answered_upholds ⟨hend, endRoute_event _ s⟩ _ _ _
  · exact answered_upholds ⟨hend.trans ((abortClaims_frame _).upholds p), (endRoute_event _ s).trans (abortClaims_event _)⟩ _ _ _

theorem forcedSettlement_upholds (p : Prop) (m : CmdHdr) (s : State) :
    Upholds p 1 s (forcedSettlement m s) ∧ StoreEvent s (forcedSettlement m s) := by
  have hbegin := beginForced_upholds p (zeroAlerts s)
  have hup := ((zeroAlerts_calm s).upholds p).trans hbegin.1
  have hstore := (zeroAlerts_same s).event.trans hbegin.2
  unfold forcedSettlement
  dsimp only
  split
  · exact answered_upholds ⟨hup, hstore⟩ _ _ _
  · have hforce := forceWindows_upholds p (beginForced (zeroAlerts s))
    split
    · exact answered_upholds ⟨hup.trans hforce.1, hstore.trans hforce.2⟩ _ _ _
    · have hend := endForced_upholds p m s (beginForced (zeroAlerts s)) (forceWindows (beginForced (zeroAlerts s)))
      exact ⟨(hup.trans hforce.1).trans hend.1, (hstore.trans hforce.2).trans hend.2⟩

theorem runMonitorReset_carries (p : Prop) (m : CmdHdr) (ops : List Byte) (s : State) : Carries p 1 s (runMonitorReset m ops s) := by
  refine gated_carries (fun hl => ?_) _ _
  split
  · exact answer_carries p _ _ _ s
  · split
    · obtain ⟨hup, hstore⟩ := forcedSettlement_upholds p m s
      exact .of_unlocked hl hup hstore
    · have h := answered_upholds (s := s) (t := abortClaims (zeroAlerts s))
        ⟨((zeroAlerts_calm s).upholds p).trans ((abortClaims_frame _).upholds p), (zeroAlerts_same s).event.trans (abortClaims_event _)⟩
        cmdMonitorReset m (.done markNone (beBytes 1 s.claims.queue.length))
      exact .of_unlocked hl h.1 h.2

/-! ### Taking a command -/

/-- A FULL_CLEAR is carried out: a cold start, off a route or in LOCKOUT, and its reply (R202). -/
def Cleared (s t : State) : Prop :=
  (s.onRoute = false ∨ s.store.lockout = true) ∧ ∃ m, t = placeClearReply m (coldStart s)

/-- How a command's carrying out, or the rest of it, can end: it handles the state, or clears it. -/
def Ends (n : Nat) (s t : State) : Prop := Handles (s.onRoute = true) n s t ∨ Cleared s t

theorem Carries.ends {n : Nat} {s t : State} (h : Carries (s.onRoute = true) n s t) : Ends n s t := .inl h.handles

theorem runFullClear_ends (m : CmdHdr) (ops : List Byte) (s : State) : Ends 1 s (runFullClear m ops s) := by
  unfold runFullClear
  split
  · exact (answer_carries _ _ _ _ s).ends
  · split
    · exact (answer_carries _ _ _ _ s).ends
    · next hok =>
      refine .inr ⟨?_, m, rfl⟩
      simpa [State.lockedOut, Decidable.or_iff_not_imp_left] using hok

/-- A choice between two ways to carry a command out. -/
theorem ite_ends {c : Prop} [Decidable c] {n : Nat} {s : State} {a b : State → State} (ha : Ends n s (a s)) (hb : Ends n s (b s)) :
    Ends n s ((if c then a else b) s) := by
  split
  · exact ha
  · exact hb

theorem runCode_ends (m : CmdHdr) (code : Byte) (ops : List Byte) (s : State) : Ends 1 s (runCode m code ops s) := by
  unfold runCode
  refine ite_ends ?_ ?_; · exact (runGated_carries (fun _ _ h => judgeStationWrite_upholds h) _ _).ends
  refine ite_ends ?_ ?_; · exact (runGated_carries (fun _ _ h => judgeStationClear_upholds h) _ _).ends
  refine ite_ends ?_ ?_; · exact (runGated_carries (fun _ _ h => judgeCompartmentWrite_upholds h) _ _).ends
  refine ite_ends ?_ ?_; · exact (runGated_carries (fun _ _ h => judgeClassWrite_upholds h) _ _).ends
  refine ite_ends ?_ ?_; · exact (runGated_carries (fun _ _ h => judgeFrameClassWrite_upholds h _) _ _).ends
  refine ite_ends ?_ ?_; · exact (runGated_carries (fun _ _ h => judgePassMaskSet_upholds h _) _ _).ends
  refine ite_ends ?_ ?_; · exact (runGated_carries (fun _ _ h => judgeAlertLevelWrite_upholds h _) _ _).ends
  refine ite_ends ?_ ?_; · exact (runGated_carries (fun _ _ h => judgeAlertMaskSet_upholds h _) _ _).ends
  refine ite_ends ?_ ?_; · exact (runGated_carries (fun _ _ h => judgeConfigWrite_upholds h) _ _).ends
  refine ite_ends ?_ ?_; · exact (settle_carries (fun _ h => judgeTimeSet_carries h) (.refl _ s) _ _).ends
  refine ite_ends ?_ ?_
  · unfold runManifestLoad
    split
    · exact (runGated_carries (fun _ _ h => judgeLoadSingle_upholds _ h) _ _).ends
    · exact (runGated_carries (fun _ _ h => judgeLoadPartOne_upholds _ h) _ _).ends
    · exact (runLoadPartTwo_carries _ m _ s).ends
    · exact (runGated_carries (fun _ _ h => by cases h) _ _).ends
  refine ite_ends ?_ ?_; · exact (runGated_carries (fun _ _ h => judgeManifestDelete_upholds _ h) _ _).ends
  refine ite_ends ?_ ?_; · exact (runGated_carries (fun _ _ h => judgeRouteOpen_upholds h) _ _).ends
  refine ite_ends ?_ ?_; · exact (runGated_carries (fun _ _ h => judgeRouteClose_upholds _ h) _ _).ends
  refine ite_ends ?_ ?_
  · unfold runQueryCommand
    split <;> exact (runQuery_carries _ m _ s).ends
  refine ite_ends ?_ ?_
  · unfold runFetch
    split
    · exact (runFetchNext_carries _ m _ s).ends
    · exact (runFetchNumber_carries _ m _ s).ends
    · exact (answer_carries _ _ _ _ s).ends
  refine ite_ends ?_ ?_; · exact .inl (runRelease_handles _ _ m ops s)
  refine ite_ends ?_ ?_; · exact (runClaimLodge_carries _ m _ s).ends
  refine ite_ends ?_ ?_; · exact (runMonitorReset_carries _ m _ s).ends
  refine ite_ends ?_ ?_; · exact runFullClear_ends m _ s
  exact (answer_carries _ _ _ _ s).ends

theorem runPayload_ends (m : CmdHdr) (payload : List Byte) (s : State) : Ends 1 s (runPayload m payload s) := by
  unfold runPayload
  split
  · exact (answer_carries _ _ _ _ s).ends
  · exact runCode_ends m _ _ s

/-- A command taken: a place is reserved for its answer, which fills it (R14, R190). -/
theorem admitCommand_ends {run : State → State} (h : ∀ s, Ends 1 s (run s)) (s : State) : Ends 0 s (admitCommand run s) := by
  unfold admitCommand
  split
  · next hroom =>
    rcases h { s with
      ports := { s.ports with reserved := s.ports.reserved + 1 }
      agent := { s.agent with taken := satInc max32 s.agent.taken } } with hh | hc
    · obtain ⟨hup, hstore, hfrozen⟩ := hh
      refine .inl ⟨⟨hup.pending, hup.power, ?_, fun _ hs => ?_, hup.forwards, hup.values, hup.stations, hup.ordered, hup.grades, hup.drops, fun hp => ?_⟩,
        ⟨hstore.sound, hstore.records, hstore.settled, hstore.claims⟩, fun hl hs => ?_⟩
      · rw [hup.reserved]; rfl
      · refine hup.replies (Nat.le_add_left _ _) ⟨hs.1, ?_, hs.2.2⟩
        change s.ports.trunk.replies.length + (s.ports.reserved + 1) ≤ _
        have : s.ports.trunk.replies.length + s.ports.reserved < Config.replyPlaces := hroom
        omega
      · obtain ⟨h1, h2, h3, h4, h5, h6, h7, h8⟩ := hup.route hp
        exact ⟨h1, h2, h3, h4, h5, h6, h7, h8⟩
      · exact Frozen.trans (t := { s with
          ports := { s.ports with reserved := s.ports.reserved + 1 }
          agent := { s.agent with taken := satInc max32 s.agent.taken } }) {} (hfrozen hl hs)
    · exact .inr hc
  · have hdiscard : Carries (s.onRoute = true) 0 s { s with ports := { s.ports with mgmtDiscards := satInc max32 s.ports.mgmtDiscards } } :=
      Calm.carries {} ⟨rfl, rfl, rfl⟩ {}
    exact hdiscard.ends

/-! ### A reception -/

/-- A reception is counted by its port, and then handed on. -/
theorem received_ends {p : Port} {s t : State} (h : Ends 0 (countReceived p s) t) : Ends 0 s t := by
  have hon : (countReceived p s).onRoute = s.onRoute := by cases p <;> rfl
  rcases h with hh | hc
  · rw [hon] at hh
    exact .inl ((countReceived_carries _ p s).andThen hh)
  · cases p <;> exact .inr hc

theorem whileListening_ends {p : Port} {receive : State → State} {s : State} (h : Ends 0 s (receive s)) :
    Ends 0 s (whileListening p receive s) := by
  unfold whileListening
  split
  · exact h
  · exact (Carries.refl _ s).ends

theorem arrives_ends {p : Port} {f : Frame} {handOn : State → State} (h : ∀ s, Ends 0 s (handOn s)) (s : State) :
    Ends 0 s (arrives p f handOn s) := by
  refine whileListening_ends ?_
  split
  · exact (discardFrame_carries _ p _ s).ends
  · exact received_ends (h _)

theorem trunkHandOn_ends (f : Frame) (s : State) : Ends 0 s (trunkHandOn f s) := by
  unfold trunkHandOn trunkToDevice
  split
  · split
    · exact admitCommand_ends (runPayload_ends _ _) s
    · split
      · exact admitCommand_ends (fun s => (runClaimLodge_carries _ _ _ s).ends) s
      · exact (countUnhandled_carries _ _ s).ends
  · exact (offerDown_carries _ f s).ends

theorem handOn_ends (p : Port) (f : Frame) (s : State) : Ends 0 s (handOn p f s) := by
  cases p with
  | field => exact (fieldHandOn_carries _ f s).ends
  | trunk => exact trunkHandOn_ends f s

theorem receiveBytes_ends (p : Port) (bytes : List Byte) (s : State) : Ends 0 s (receiveBytes p bytes s) := by
  refine whileListening_ends ?_
  split
  · exact (discardFrame_carries _ p _ s).ends
  · exact received_ends (handOn_ends p _ _)
  · exact (Carries.refl _ s).ends

end Sys2Proof.Machine
end

section
/-! SUPPORT. The outcome of every command: the conditions it keeps, what it leaves of a route's tables, what LOCKOUT freezes of it, and when it ends in a cold start (R202, R205, R208). -/
namespace Sys2Proof.Machine

/-! ### What a cold start holds -/

theorem reset_comp (c : Fin 4) : State.reset.comp c = {} := by revert c; decide

theorem reset_slot (i : Fin 256) : State.reset.slot i = .free := by
  simp [State.slot, State.reset]

theorem reset_queuesBounded : State.reset.QueuesBounded := by
  refine ⟨rfl, ?_, ?_, ?_, ?_, ?_⟩ <;> exact Nat.zero_le _

theorem reset_storeSound : State.reset.StoreSound := by
  refine ⟨List.nodup_nil, fun i => ?_, List.nodup_nil, fun i hi => absurd hi (by simp [State.reservations, State.reset]), ?_, ?_⟩
  · rw [reset_slot]; exact iff_of_false (by simp [Slot.header?]) (by simp [State.reset])
  · exact Nat.le_refl 1
  · decide

theorem reset_windowsOrdered : State.reset.WindowsOrdered := fun c => by
  rw [reset_comp]; exact ⟨List.Pairwise.nil, fun e he => absurd he (by simp), Nat.zero_le _⟩

theorem reset_valuesInRange : State.reset.ValuesInRange := by
  refine ⟨by decide, by unfold settingsInRange; decide, fun c => ?_, fun i k hk => ?_, by decide, by decide⟩
  · rw [reset_comp]; unfold accountInRange; decide
  · exact absurd hk (by simp [State.reset])

theorem reset_stationsSound : State.reset.StationsSound :=
  ⟨Nat.zero_le _, List.Pairwise.nil, fun e he => absurd he (by simp [State.reset]), List.Pairwise.nil⟩

theorem reset_gradesAgree : State.reset.GradesAgree := fun hon => absurd hon (by decide)

theorem reset_lockoutSettled : State.reset.LockoutSettled := fun hl => absurd hl (by decide)

theorem reset_manifestSound : State.reset.ManifestSound :=
  ⟨List.Pairwise.nil, fun d hd => absurd hd (by simp [State.reset]), by decide, by decide, by decide⟩

/-! ### The conditions together -/

/-- The conditions that every event keeps, the cold start among them, and what becomes of the records. -/
structure KeepsAll (s t : State) : Prop where
  pending : t.pending = s.pending
  queues : s.QueuesBounded → t.QueuesBounded
  values : s.ValuesInRange → t.ValuesInRange
  stations : s.StationsSound → t.StationsSound
  ordered : s.WindowsOrdered → t.WindowsOrdered
  grades : s.GradesAgree → t.GradesAgree
  manifest : s.ManifestSound → t.ManifestSound
  store : StoreMove s t

/-- An event that is no cold start. -/
structure Routine (s t : State) : Prop where
  keeps : KeepsAll s t
  route : s.onRoute = true → HoldsRoute s t
  frozen : s.store.lockout = true → s.LockoutSettled → Frozen s t

theorem queuesBounded_iff (s : State) : s.QueuesBounded ↔ s.ports.reserved = 0 ∧ s.RepliesFit ∧ s.ForwardsFit := by
  constructor
  · exact fun ⟨h1, h2, h3, h4, h5, h6⟩ => ⟨h1, ⟨h2, by rw [h1]; exact h3, h4⟩, h5, h6⟩
  · exact fun ⟨h1, ⟨h2, h3, h4⟩, h5, h6⟩ => ⟨h1, h2, Nat.le_trans (Nat.le_add_right _ _) h3, h4, h5, h6⟩

theorem Handles.routine {s t : State} (h : Handles (s.onRoute = true) 0 s t) : Routine s t where
  keeps :=
    { pending := h.upholds.pending
      queues := fun hs => by
        obtain ⟨hres, hrep, hfwd⟩ := (queuesBounded_iff s).1 hs
        exact (queuesBounded_iff t).2 ⟨by rw [h.upholds.reserved, hres], h.upholds.replies (Nat.zero_le _) hrep, h.upholds.forwards hfwd⟩
      values := h.upholds.values
      stations := h.upholds.stations
      ordered := h.upholds.ordered
      grades := h.upholds.grades
      manifest := fun hs => by
        obtain ⟨hdrops, hclaims⟩ := (manifestSound_iff s).1 hs
        exact (manifestSound_iff t).2 ⟨h.upholds.drops hdrops, h.store.claims hclaims⟩
      store := h.store }
  route := h.upholds.route
  frozen := h.frozen

/-- The power domain's own items are not spoken of. -/
theorem KeepsAll.withPower {s t : State} (h : KeepsAll s t) (w : Power) : KeepsAll s { t with power := w } :=
  ⟨h.pending, h.queues, h.values, h.stations, h.ordered, h.grades, h.manifest,
    ⟨h.store.sound, h.store.records, h.store.settled, h.store.claims⟩⟩

theorem HoldsRoute.withPower {s t : State} (h : HoldsRoute s t) (w : Power) : HoldsRoute s { t with power := w } :=
  ⟨h.clock, h.classes, h.settleDelay, h.arrivalLead, h.routeId, h.openTime, h.comps, h.places⟩

theorem Routine.withPower {s t : State} (h : Routine s t) (w : Power) : Routine s { t with power := w } :=
  ⟨h.keeps.withPower w, fun hon => (h.route hon).withPower w, fun hl hs => (h.frozen hl hs).trans {}⟩

theorem Routine.fromPower {s t : State} {w : Power} (h : Routine { s with power := w } t) : Routine s t := by
  obtain ⟨⟨h1, h2, h3, h4, h5, h6, h7, ⟨h8, h9, h10, h11⟩⟩, hroute, hfrozen⟩ := h
  refine ⟨⟨h1, h2, h3, h4, h5, h6, h7, ⟨h8, h9, h10, h11⟩⟩, fun hon => ?_, fun hl hs => Frozen.trans (t := { s with power := w }) {} (hfrozen hl hs)⟩
  obtain ⟨r1, r2, r3, r4, r5, r6, r7, r8⟩ := hroute hon
  exact ⟨r1, r2, r3, r4, r5, r6, r7, r8⟩

theorem Routine.keepCheckWord {s t : State} (h : Routine s t) : Routine s (keepCheckWord s t) := by
  rw [keepCheckWord_only]; exact h.withPower _

/-! ### Cold starts -/

/-- What a cold start leaves at the values of R208, as LOCKOUT's end is told by it. -/
structure ColdParts (s t : State) : Prop where
  store : t.store = { State.reset.store with spareMap := s.store.spareMap }
  route : t.route = State.reset.route
  drops : t.drops = []
  contexts : t.contexts = []
  claims : t.claims = State.reset.claims
  comps : t.comps = State.reset.comps
  clock : t.clock = State.reset.clock

theorem coldStart_keeps (s : State) : KeepsAll s (coldStart s) where
  pending := rfl
  queues _ := reset_queuesBounded
  values _ := reset_valuesInRange
  stations _ := reset_stationsSound
  ordered _ := reset_windowsOrdered
  grades _ := reset_gradesAgree
  manifest _ := reset_manifestSound
  store := ⟨fun _ => reset_storeSound, fun _ i => .inr (reset_slot i), fun _ => reset_lockoutSettled, fun _ => Nat.zero_le _⟩

theorem coldStart_parts (s : State) : ColdParts s (coldStart s) := ⟨rfl, rfl, rfl, rfl, rfl, rfl, rfl⟩

theorem placeClearReply_keeps (m : CmdHdr) (s : State) : KeepsAll s (placeClearReply m (coldStart s)) :=
  ⟨rfl, fun _ => ⟨rfl, Nat.zero_le _, Nat.succ_le_of_lt (by decide), Nat.zero_le _, Nat.zero_le _, Nat.zero_le _⟩, fun _ => reset_valuesInRange,
    fun _ => reset_stationsSound, fun _ => reset_windowsOrdered, fun _ => reset_gradesAgree, fun _ => reset_manifestSound,
    ⟨(coldStart_keeps s).store.sound, (coldStart_keeps s).store.records, (coldStart_keeps s).store.settled,
      (coldStart_keeps s).store.claims⟩⟩

theorem placeClearReply_parts (m : CmdHdr) (s : State) : ColdParts s (placeClearReply m (coldStart s)) :=
  ⟨rfl, rfl, rfl, rfl, rfl, rfl, rfl⟩

/-! ### The outcome -/

/-- A device that is not under way: off a route, in LOCKOUT, or with a domain that is lost. -/
def State.mayStartCold (s : State) : Prop := s.onRoute = false ∨ s.store.lockout = true ∨ s.checkAgrees = false

/-- How a command but TICK ends: as a routine event, or in a cold start. -/
inductive Outcome (s t : State) : Prop
  | routine (h : Routine s t)
  | cold (keeps : KeepsAll s t) (parts : ColdParts s t) (may : s.mayStartCold)

theorem Outcome.keeps {s t : State} (h : Outcome s t) : KeepsAll s t := by
  cases h with
  | routine h => exact h.keeps
  | cold h _ _ => exact h

/-- An event of a device that is not stopped (R204, R205). -/
theorem whileWorking_outcome {f : State → State} {s : State} (h : Ends 0 s (f s)) : Outcome s (whileWorking f s) := by
  unfold whileWorking
  split
  · rcases h with hh | ⟨hmay, m, ht⟩
    · exact .routine hh.routine.keepCheckWord
    · have hagrees : (f s).checkAgrees = true := by rw [ht]; rfl
      rw [keepCheckWord_of_agrees hagrees, ht]
      exact .cold (placeClearReply_keeps m s) (placeClearReply_parts m s) (hmay.imp_right .inl)
  · exact .routine (Carries.refl _ s).handles.routine

theorem arrives_outcome {p : Port} {f : Frame} {handOn : State → State} (h : ∀ s, Ends 0 s (handOn s)) (s : State) :
    Outcome s (whileWorking (arrives p f handOn) s) := whileWorking_outcome (arrives_ends h s)

/-- An event that carries the state on. -/
theorem carries_outcome {f : State → State} {s : State} (h : Carries (s.onRoute = true) 0 s (f s)) : Outcome s (whileWorking f s) :=
  whileWorking_outcome h.ends

theorem commandArrives_outcome {m : CmdHdr} {payload : List Byte} {run : State → State} (h : ∀ s, Ends 1 s (run s)) (s : State) :
    Outcome s (commandArrives m payload run s) := arrives_outcome (admitCommand_ends h) s

theorem gatedArrives_outcome {m : CmdHdr} {payload : List Byte} {code : Byte} {judge : State → Judged}
    (h : ∀ s x, judge s = .ok x → Upholds (s.onRoute = true) 0 s x.2.2 ∧ StoreEvent s x.2.2) (s : State) :
    Outcome s (commandArrives m payload (runGated code m judge) s) :=
  commandArrives_outcome (fun s => (runGated_carries (fun _ x hx => h s x hx) _ _).ends) s

/-! ### Power -/

theorem Routine.refl (s : State) : Routine s s := (Carries.refl _ s).handles.routine

theorem stopDevice_routine (b : Bool) (s : State) : Routine s (stopDevice b s) := by
  have hfield := updPort_carries (s.onRoute = true) .field (f := fun u => { u with sending := none }) s (Nat.le_refl _) (Nat.le_refl _)
  have htrunk := updPort_carries (s.onRoute = true) .trunk (f := fun u => { u with sending := none })
    (s.updPort .field fun u => { u with sending := none }) (Nat.le_refl _) (Nat.le_refl _)
  exact (hfield.trans htrunk).handles.routine.withPower _

theorem losePower_routine (cause : StopCause) (s : State) : Routine s (losePower cause s) := by
  have hstop : ∀ b, Routine s (if s.powered then stopDevice b s else s) := fun b => by
    split
    · exact stopDevice_routine b s
    · exact .refl s
  cases cause with
  | mainSupply marked => exact (hstop marked).withPower _
  | resetLine => exact (hstop true).withPower _

theorem clearVolatile_comp (s : State) (c : Fin 4) :
    (clearVolatile s).comp c = { s.comp c with doors := (s.comp c).doors.map resumeDoor } := by
  simp [clearVolatile, State.comp]

theorem clearVolatile_compFrozen (s : State) (c : Fin 4) : CompFrozen (s.comp c) ((clearVolatile s).comp c) := by
  rw [clearVolatile_comp]
  refine ⟨rfl, rfl, rfl, rfl, fun p => ?_⟩
  simp only [Fin.getElem_fin, Vector.getElem_map]
  exact ⟨rfl, rfl⟩

theorem clearVolatile_places (s : State) : (clearVolatile s).stations.entries.map (fun e => (e.addr, e.binding))
    = s.stations.entries.map (fun e => (e.addr, e.binding)) := by
  simp only [clearVolatile, List.map_map]
  rfl

/-- What a warm resume loses leaves every condition (R206). -/
theorem clearVolatile_routine (s : State) : Routine s (clearVolatile s) ∧ SameStore s (clearVolatile s) := by
  have hprofile : ∀ c, ((clearVolatile s).comp c).profile = (s.comp c).profile := fun c => (clearVolatile_compFrozen s c).profile
  have haccount : ∀ c, ((clearVolatile s).comp c).account = (s.comp c).account := fun c => (clearVolatile_compFrozen s c).account
  have hwindow : ∀ c, ((clearVolatile s).comp c).window = (s.comp c).window := fun c => (clearVolatile_compFrozen s c).window
  have hcomp : ∀ c, CompKept (s.comp c) ((clearVolatile s).comp c) := fun c => by
    rw [clearVolatile_comp]; exact ⟨rfl, Nat.le_refl _, .refl _ _⟩
  refine ⟨⟨⟨rfl, fun _ => ?_, fun ⟨h1, h2, h3, h4⟩ => ⟨h1, h2, fun c => ?_, h4⟩, StationsSound_of_entries (clearVolatile_places s),
    fun hs c => ?_, fun hs hon c => ?_, id, ?_⟩, fun _ => ?_, fun _ _ => { comps := clearVolatile_compFrozen s }⟩, ⟨rfl, rfl, rfl⟩⟩
  · exact ⟨rfl, Nat.zero_le _, Nat.zero_le _, Nat.zero_le _, Nat.zero_le _, Nat.zero_le _⟩
  · rw [hprofile, haccount]; exact h3 c
  · rw [hwindow]; exact hs c
  · rw [hprofile, haccount]; exact hs hon c
  · exact (SameStore.event (s := s) (t := clearVolatile s) ⟨rfl, rfl, rfl⟩).move
  · exact ⟨rfl, rfl, rfl, rfl, rfl, rfl, hcomp, fun _ => PlacesKept_of_entries (clearVolatile_places s)⟩

/-- A routine event that leaves the store, and then a part that keeps the records. -/
theorem Routine.andThen {s t u : State} (h : Routine s t) (hs : SameStore s t) (k : Carries True 0 t u) : Routine s u where
  keeps :=
    { pending := k.upholds.pending.trans h.keeps.pending
      queues := fun hq => (k.weaken fun _ => trivial).handles.routine.keeps.queues (h.keeps.queues hq)
      values := k.upholds.values ∘ h.keeps.values
      stations := k.upholds.stations ∘ h.keeps.stations
      ordered := k.upholds.ordered ∘ h.keeps.ordered
      grades := k.upholds.grades ∘ h.keeps.grades
      manifest := fun hm => (k.weaken fun _ => trivial).handles.routine.keeps.manifest (h.keeps.manifest hm)
      store := (hs.event.trans k.store).move }
  route hon := (h.route hon).trans (k.upholds.route trivial) h.keeps.stations
  frozen hl hset := by
    have hst := h.frozen hl hset
    exact hst.trans (k.frozen (hst.lockout.trans hl) (hs.settled hset))

/-- A recovery under way begins again (R160). -/
theorem restart_carries (p : Prop) (s : State) :
    Carries p 0 s { s with store := { s.store with recovery := s.store.recovery.map (restartRecovery s.now) } } := by
  refine ⟨Calm.upholds {} p, .of_work (.of_marks _ rfl rfl rfl (fun h hl => ?_) rfl) fun h hl => ⟨?_, (h hl).2⟩, fun _ _ => {}⟩
  · change s.store.recovery.map _ = none
    rw [h hl]; rfl
  · change s.store.recovery.map _ = none
    rw [(h hl).1]; rfl

theorem warmResume_routine (s : State) : Routine s (warmResume s) := by
  obtain ⟨hclear, hsame⟩ := clearVolatile_routine s
  have hraise := raise_carries True .resumed .part s.outage (clearVolatile s)
  exact (hclear.andThen hsame (hraise.trans (restart_carries True _))).withPower _

theorem restorePower_outcome (cause : StartCause) (s : State) : Outcome s (restorePower cause s) := by
  have hroutine : Routine s { s with power := raisePower cause s.power } := (Routine.refl s).withPower _
  have hsame : SameStore s { s with power := raisePower cause s.power } := ⟨rfl, rfl, rfl⟩
  have hcheck : State.checkAgrees { s with power := raisePower cause s.power } = s.checkAgrees := by
    cases cause <;> rfl
  unfold restorePower startDevice
  dsimp only
  split
  · rw [hcheck]
    split
    · exact .routine (warmResume_routine _).fromPower
    · next hlost =>
      exact .cold ⟨rfl, (coldStart_keeps s).queues, (coldStart_keeps s).values, (coldStart_keeps s).stations, (coldStart_keeps s).ordered,
        (coldStart_keeps s).grades, (coldStart_keeps s).manifest, ⟨(coldStart_keeps s).store.sound, (coldStart_keeps s).store.records,
        (coldStart_keeps s).store.settled, (coldStart_keeps s).store.claims⟩⟩ ⟨rfl, rfl, rfl, rfl, rfl, rfl, rfl⟩
        (.inr (.inr (by simpa using hlost)))
  · exact .routine hroutine

/-! ### Every command -/

theorem fieldArrives_outcome {f : Frame} {take : State → State} (h : ∀ p s, Carries p 0 s (take s)) (s : State) :
    Outcome s (whileWorking (arrives .field f take) s) := arrives_outcome (fun s => (h _ s).ends) s

theorem queryArrives_outcome {m : CmdHdr} {payload : List Byte} (r : State → QueryResult) (s : State) :
    Outcome s (commandArrives m payload (runQuery m r) s) := commandArrives_outcome (fun s => (runQuery_carries _ m r s).ends) s

/-- The next state of every command but TICK, and how it ends. -/
theorem exec_outcome {i : Instr} (hi : i ≠ .tick) (s : State) : ∃ t, exec i s = .next t ∧ Outcome s t := by
  cases i with
  | tick => exact absurd rfl hi
  | horizonRetire c => exact ⟨_, rfl, carries_outcome (passHorizon_carries _ c s)⟩
  | stopEndAdvance n => exact ⟨_, rfl, carries_outcome (advanceStopEnd_carries _ n s)⟩
  | closeAdvance => exact ⟨_, rfl, carries_outcome (advanceClose_carries _ s)⟩
  | idleDeadlineExpiry => exact ⟨_, rfl, carries_outcome (expireIdle_carries _ s)⟩
  | departureDeadlineExpiry => exact ⟨_, rfl, carries_outcome (expireDeparture_carries _ s)⟩
  | openingDeadlineExpiry c p => exact ⟨_, rfl, carries_outcome (expireOpening_carries _ c p s)⟩
  | recoveryEnd => exact ⟨_, rfl, carries_outcome (recoveryDue_carries _ s)⟩
  | linkUp => exact ⟨_, rfl, carries_outcome (raiseLink_carries _ s)⟩
  | linkDown b => exact ⟨_, rfl, carries_outcome (dropLink_carries _ b s)⟩
  | transmitStart p => exact ⟨_, rfl, carries_outcome (startSending_carries _ p s)⟩
  | transmitDone p => exact ⟨_, rfl, carries_outcome (finishSending_carries _ p s)⟩
  | receiveError p bytes => exact ⟨_, rfl, whileWorking_outcome (receiveBytes_ends p bytes s)⟩
  | sample dst h payload =>
    refine ⟨_, rfl, fieldArrives_outcome (fun p s => ?_) s⟩
    split
    · exact takeSample_carries p _ s
    · exact takePassUp_carries p _ s
  | doorState dst h payload =>
    refine ⟨_, rfl, fieldArrives_outcome (fun p s => ?_) s⟩
    split
    · exact takeDoorState_carries p _ s
    · exact takePassUp_carries p _ s
  | fieldFramePassUp dst typ h payload => exact ⟨_, rfl, fieldArrives_outcome (fun p s => fieldHandOn_carries p _ s) s⟩
  | unhandledFrame p typ h payload trailer => exact ⟨_, rfl, arrives_outcome (handOn_ends p _) s⟩
  | trunkFramePassDown dst typ h payload trailer => exact ⟨_, rfl, arrives_outcome (trunkHandOn_ends _) s⟩
  | stopArrive h payload => exact ⟨_, rfl, fieldArrives_outcome (fun p s => takeStopArrive_carries p _ s) s⟩
  | stopDepart h payload => exact ⟨_, rfl, fieldArrives_outcome (fun p s => takeStopDepart_carries p _ s) s⟩
  | handoverOpen h payload => exact ⟨_, rfl, fieldArrives_outcome (fun p s => takeHandoverOpen_carries p _ s) s⟩
  | itemConfirm h payload => exact ⟨_, rfl, fieldArrives_outcome (fun p s => takeItemConfirm_carries p _ s) s⟩
  | handoverClose h payload => exact ⟨_, rfl, fieldArrives_outcome (fun p s => takeHandoverClose_carries p _ s) s⟩
  | handoverAbort h payload => exact ⟨_, rfl, fieldArrives_outcome (fun p s => takeHandoverAbort_carries p _ s) s⟩
  | terminalClaimLodge h payload => exact ⟨_, rfl, fieldArrives_outcome (fun p s => takeClaimLodge_carries p _ s) s⟩
  | stationWrite m ops => exact ⟨_, rfl, gatedArrives_outcome (fun _ _ h => judgeStationWrite_upholds h) s⟩
  | stationClear m ops => exact ⟨_, rfl, gatedArrives_outcome (fun _ _ h => judgeStationClear_upholds h) s⟩
  | compartmentWrite m ops => exact ⟨_, rfl, gatedArrives_outcome (fun _ _ h => judgeCompartmentWrite_upholds h) s⟩
  | classWrite m ops => exact ⟨_, rfl, gatedArrives_outcome (fun _ _ h => judgeClassWrite_upholds h) s⟩
  | frameClassWrite m ops => exact ⟨_, rfl, gatedArrives_outcome (fun _ _ h => judgeFrameClassWrite_upholds h _) s⟩
  | passMaskSet m ops => exact ⟨_, rfl, gatedArrives_outcome (fun _ _ h => judgePassMaskSet_upholds h _) s⟩
  | alertLevelWrite m ops => exact ⟨_, rfl, gatedArrives_outcome (fun _ _ h => judgeAlertLevelWrite_upholds h _) s⟩
  | alertMaskSet m ops => exact ⟨_, rfl, gatedArrives_outcome (fun _ _ h => judgeAlertMaskSet_upholds h _) s⟩
  | configWrite m ops => exact ⟨_, rfl, gatedArrives_outcome (fun _ _ h => judgeConfigWrite_upholds h) s⟩
  | timeSet m ops =>
    exact ⟨_, rfl, commandArrives_outcome (fun s => (settle_carries (fun _ h => judgeTimeSet_carries h) (.refl _ s) _ _).ends) s⟩
  | manifestLoadSingle m ops => exact ⟨_, rfl, gatedArrives_outcome (fun _ _ h => judgeLoadSingle_upholds _ h) s⟩
  | manifestLoadPartOne m ops => exact ⟨_, rfl, gatedArrives_outcome (fun _ _ h => judgeLoadPartOne_upholds _ h) s⟩
  | manifestLoadPartTwo m ops => exact ⟨_, rfl, commandArrives_outcome (fun s => (runLoadPartTwo_carries _ m ops s).ends) s⟩
  | manifestDelete m ops => exact ⟨_, rfl, gatedArrives_outcome (fun _ _ h => judgeManifestDelete_upholds _ h) s⟩
  | routeOpen m ops => exact ⟨_, rfl, gatedArrives_outcome (fun _ _ h => judgeRouteOpen_upholds h) s⟩
  | routeClose m ops => exact ⟨_, rfl, gatedArrives_outcome (fun _ _ h => judgeRouteClose_upholds _ h) s⟩
  | queryPart m ops => exact ⟨_, rfl, queryArrives_outcome _ s⟩
  | queryCompartment m ops => exact ⟨_, rfl, queryArrives_outcome _ s⟩
  | queryDoor m ops => exact ⟨_, rfl, queryArrives_outcome _ s⟩
  | queryStation m ops => exact ⟨_, rfl, queryArrives_outcome _ s⟩
  | queryDrop m ops => exact ⟨_, rfl, queryArrives_outcome _ s⟩
  | queryStore m ops => exact ⟨_, rfl, queryArrives_outcome _ s⟩
  | queryClaims m ops => exact ⟨_, rfl, queryArrives_outcome _ s⟩
  | queryCounters m ops => exact ⟨_, rfl, queryArrives_outcome _ s⟩
  | proofFetchNext m ops => exact ⟨_, rfl, commandArrives_outcome (fun s => (runFetchNext_carries _ m ops s).ends) s⟩
  | proofFetchNumber m ops => exact ⟨_, rfl, commandArrives_outcome (fun s => (runFetchNumber_carries _ m ops s).ends) s⟩
  | proofRelease m ops => exact ⟨_, rfl, commandArrives_outcome (fun s => .inl (runRelease_handles _ _ m ops s)) s⟩
  | claimLodge asFrame m ops =>
    cases asFrame with
    | false => exact ⟨_, rfl, commandArrives_outcome (fun s => (runClaimLodge_carries _ m ops s).ends) s⟩
    | true => exact ⟨_, rfl, arrives_outcome (admitCommand_ends fun s => (runClaimLodge_carries _ m ops s).ends) s⟩
  | monitorReset m ops => exact ⟨_, rfl, commandArrives_outcome (fun s => (runMonitorReset_carries _ m ops s).ends) s⟩
  | fullClear m ops => exact ⟨_, rfl, commandArrives_outcome (runFullClear_ends m ops) s⟩
  | powerLoss cause => exact ⟨_, rfl, .routine (losePower_routine cause s)⟩
  | backupSupplyLoss => exact ⟨_, rfl, .routine ((Routine.refl s).withPower _)⟩
  | deviceStart cause => exact ⟨_, rfl, restorePower_outcome cause s⟩
  | unknownCommandCode m payload => exact ⟨_, rfl, commandArrives_outcome (runPayload_ends m payload) s⟩

/-- A tick changes part time and the check word alone. -/
theorem countTick_cases (s : State) : countTick s = s
    ∨ ∃ w, countTick s = { s with clock := { s.clock with partTime := satInc max32 s.clock.partTime }, power := w } := by
  unfold countTick
  dsimp only
  split
  · rw [keepCheckWord_only]; exact .inr ⟨_, rfl⟩
  · split
    · exact .inr ⟨s.power, rfl⟩
    · exact .inl rfl

/-- A tick keeps every condition. -/
theorem countTick_keeps (s : State) : KeepsAll s (countTick s) := by
  rcases countTick_cases s with h | ⟨w, h⟩ <;> rw [h]
  · exact (Carries.refl _ s).handles.routine.keeps
  · exact ⟨rfl, id, fun ⟨_, h2⟩ => ⟨satInc_le _ _, h2⟩, id, id, id, id, ⟨id, fun _ _ => .inl (.refl _), id, id⟩⟩

/-- The next state of every command, and what it keeps. -/
theorem exec_keeps (i : Instr) (s : State) : ∃ t, exec i s = .next t ∧ KeepsAll s t := by
  by_cases hi : i = .tick
  · subst hi; exact ⟨_, rfl, countTick_keeps s⟩
  · obtain ⟨t, ht, hout⟩ := exec_outcome hi s
    exact ⟨t, ht, hout.keeps⟩

theorem exec_keeps_of {i : Instr} {s t : State} (h : exec i s = .next t) : KeepsAll s t := by
  obtain ⟨u, hu, hk⟩ := exec_keeps i s
  rw [hu] at h
  cases h
  exact hk

theorem exec_outcome_of {i : Instr} {s t : State} (hi : i ≠ .tick) (h : exec i s = .next t) : Outcome s t := by
  obtain ⟨u, hu, hk⟩ := exec_outcome hi s
  rw [hu] at h
  cases h
  exact hk

/-- A step keeps a condition that a queue taken one shorter has, and that every command keeps. -/
theorem step_keeps {P : State → Prop} (hqueue : ∀ s q, P s → P { s with pending := q }) (hkeeps : ∀ s t, KeepsAll s t → P s → P t)
    {s t : State} (hs : P s) (h : step s = .next t) : P t := by
  unfold step at h
  split at h
  · cases h; exact hs
  · exact hkeeps _ _ (exec_keeps_of h) (hqueue s _ hs)

/-- On a device under way every command but TICK leaves the route's tables. -/
theorem exec_holdsRoute {i : Instr} {s t : State} (hs : s.underWay) (hi : i ≠ .tick) (h : exec i s = .next t) : HoldsRoute s t := by
  obtain ⟨hon, hl, hc⟩ := hs
  cases exec_outcome_of hi h with
  | routine hr => exact hr.route hon
  | cold _ _ hmay =>
    rcases hmay with hm | hm | hm
    · rw [hon] at hm; exact absurd hm (by simp)
    · rw [hl] at hm; exact absurd hm (by simp)
    · rw [hc] at hm; exact absurd hm (by simp)

end Sys2Proof.Machine
end

section
open Sys2Proof Sys2Proof.Machine

/-- Settles O1. -/
theorem stepTakesFrontCommand : Obligations.StepTakesFrontCommand := fun s =>
  ⟨fun hp => by rw [step, hp], fun c rest hp => by rw [step, hp]⟩

/-- Settles O2. -/
theorem coldStartValues : Obligations.ColdStartValues := by
  refine ⟨rfl, rfl, rfl, rfl, rfl, rfl, rfl, rfl, rfl, rfl, rfl, rfl, rfl, rfl, reset_slot, fun i => ?_, rfl, rfl, rfl, rfl,
    fun c => ?_, fun c => ?_, by decide, rfl, reset_queuesBounded, reset_storeSound, reset_windowsOrdered, reset_valuesInRange,
    reset_stationsSound, reset_gradesAgree, reset_lockoutSettled, reset_manifestSound⟩
  · simp [State.reset]
  · rw [reset_comp]
  · rw [reset_comp]
    exact ⟨rfl, rfl, rfl, rfl, rfl, by decide⟩

/-- Settles O4: every arm but those of time and power works on a device with power alone. -/
theorem stoppedDeviceIsStill : Obligations.StoppedDeviceIsStill := by
  intro c s hs htick hloss hbackup hstart
  have hstill : ∀ f : State → State, (.next (whileWorking f s) : Host.Outcome State Fault Refusal) = .next s := fun f => by
    rw [whileWorking_stopped hs]
  cases c with
  | tick => exact absurd rfl htick
  | powerLoss x => exact absurd rfl (hloss x)
  | backupSupplyLoss => exact absurd rfl hbackup
  | deviceStart x => exact absurd rfl (hstart x)
  | claimLodge asFrame m ops => cases asFrame <;> exact hstill _
  | _ => exact hstill _

/-- Settles O3: every arm of the command table answers a next state, and none touches the queue of commands. -/
theorem commandsKeepQueue : Obligations.CommandsKeepQueue := by
  intro c s
  obtain ⟨t, ht, hk⟩ := exec_keeps c s
  exact ⟨t, ht, hk.pending⟩

/-- Settles O5. -/
theorem queuesStayBounded : Obligations.QueuesStayBounded := fun _ _ hs h =>
  step_keeps (P := State.QueuesBounded) (fun _ _ hs => hs) (fun _ _ hk => hk.queues) hs h

/-- Settles O6. -/
theorem storeStaysSound : Obligations.StoreStaysSound := fun _ _ hs h =>
  step_keeps (P := State.StoreSound) (fun _ _ hs => hs) (fun _ _ hk => hk.store.sound) hs h

/-- Settles O7. -/
theorem windowsStayOrdered : Obligations.WindowsStayOrdered := fun _ _ hs h =>
  step_keeps (P := State.WindowsOrdered) (fun _ _ hs => hs) (fun _ _ hk => hk.ordered) hs h

/-- Settles O8. -/
theorem valuesStayInRange : Obligations.ValuesStayInRange := fun _ _ hs h =>
  step_keeps (P := State.ValuesInRange) (fun _ _ hs => hs) (fun _ _ hk => hk.values) hs h

/-- Settles O9. -/
theorem stationsStaySound : Obligations.StationsStaySound := fun _ _ hs h =>
  step_keeps (P := State.StationsSound) (fun _ _ hs => hs) (fun _ _ hk => hk.stations) hs h

/-- Settles O10. -/
theorem gradesStayAgreed : Obligations.GradesStayAgreed := fun _ _ hs h =>
  step_keeps (P := State.GradesAgree) (fun _ _ hs => hs) (fun _ _ hk => hk.grades) hs h

/-- Settles O11. -/
theorem lockoutStaysSettled : Obligations.LockoutStaysSettled := fun _ _ hs h =>
  step_keeps (P := State.LockoutSettled) (fun _ _ hs => hs) (fun _ _ hk => hk.store.settled) hs h

/-- Settles O12. -/
theorem manifestStaysSound : Obligations.ManifestStaysSound := fun _ _ hs h =>
  step_keeps (P := State.ManifestSound) (fun _ _ hs => hs) (fun _ _ hk => hk.manifest) hs h

/-- Settles O13: a routine event leaves what LOCKOUT freezes, and every other is a cold start. -/
theorem lockoutFreezesAccount : Obligations.LockoutFreezesAccount := by
  intro c s t hl hs h
  by_cases hc : c = .tick
  · subst hc
    have ht : countTick s = t := by cases h; rfl
    subst ht
    left
    rcases countTick_cases s with e | ⟨w, e⟩
    all_goals rw [e]
    · exact ⟨hl, fun k => ⟨rfl, rfl, rfl, rfl, fun _ => ⟨rfl, rfl⟩⟩, rfl, rfl, rfl, rfl, rfl, rfl, rfl, rfl, rfl, rfl, rfl, rfl, rfl,
        fun hne => absurd rfl hne⟩
    · exact ⟨hl, fun k => ⟨rfl, rfl, rfl, rfl, fun _ => ⟨rfl, rfl⟩⟩, rfl, rfl, rfl, rfl, rfl, rfl, rfl, rfl, rfl, rfl, rfl, rfl, rfl,
        fun hne => absurd rfl hne⟩
  · cases exec_outcome_of hc h with
    | routine hr =>
      have hf := hr.frozen hl hs
      exact .inl ⟨hf.lockout.trans hl, fun k => ⟨(hf.comps k).profile, (hf.comps k).window, (hf.comps k).account, (hf.comps k).totals,
        (hf.comps k).doors⟩, hf.drops, hf.contexts, hf.route, hf.classes, hf.config, by rw [hf.clock], hf.classTable, hf.upRoute,
        hf.upIdle, hf.downRoute, hf.downIdle, hf.nextNumber, hf.chain, fun _ => by rw [State.now, hf.clock]; rfl⟩
    | cold _ hp _ => exact .inr ⟨hp.store, hp.route, hp.drops, hp.contexts, hp.claims, hp.comps, hp.clock⟩

/-- A tick leaves every compartment. -/
theorem countTick_comp (s : State) (k : Fin 4) : (countTick s).comp k = s.comp k := by
  rcases countTick_cases s with e | ⟨w, e⟩
  · rw [e]
  · rw [e]; rfl

/-- Settles O14. -/
theorem committedTimeNeverFalls : Obligations.CommittedTimeNeverFalls := by
  intro c s t hs h k
  by_cases hc : c = .tick
  · subst hc; cases h; exact Nat.le_of_eq (by rw [countTick_comp])
  · exact ((exec_holdsRoute hs hc h).comps k).committed

/-- Settles O15. -/
theorem exposureNeverFalls : Obligations.ExposureNeverFalls := by
  intro c s t hs hr h k
  have hg : AccountGrows (s.comp k).account (t.comp k).account := by
    by_cases hc : c = .tick
    · subst hc; cases h; rw [countTick_comp]; exact .refl _
    · exact ((exec_holdsRoute hs hc h).comps k).account.grows (hr k)
  exact ⟨hg.e, hg.h, hg.gap, hg.severeCount, hg.late, hg.lateWarm, hg.satFlag, hg.budgetFlag⟩

/-- Settles O16. -/
theorem routeHoldsItsTables : Obligations.RouteHoldsItsTables := by
  intro c s t hs hsound h
  by_cases hc : c = .tick
  · subst hc
    have ht : countTick s = t := by cases h; rfl
    subst ht
    rcases countTick_cases s with e | ⟨w, e⟩ <;> rw [e]
    · exact ⟨fun _ => rfl, rfl, rfl, rfl, rfl, rfl, rfl, PlacesKept_of_entries rfl, fun hne => absurd rfl hne⟩
    · exact ⟨fun _ => rfl, rfl, rfl, rfl, rfl, rfl, rfl, PlacesKept_of_entries rfl, fun hne => absurd rfl hne⟩
  · have hr := exec_holdsRoute hs hc h
    exact ⟨fun k => (hr.comps k).profile, hr.classes, hr.settleDelay, hr.arrivalLead, hr.routeId, hr.openTime, by rw [hr.clock],
      hr.places hsound, fun _ => by rw [State.now, hr.clock]; rfl⟩

/-- Settles O17. -/
theorem recordsAreNeverRewritten : Obligations.RecordsAreNeverRewritten := by
  intro c s t i h hs ht
  have hrec := (exec_keeps_of ht).store.records hs i
  refine ⟨fun b hb => ?_, fun b hb => ?_, fun f hf => ?_⟩
  · rw [hb] at hrec
    rcases hrec with (hk | hk | hk) | hk
    · exact .inl hk
    · exact .inr (.inl hk)
    · exact .inr (.inr (.inl hk))
    · exact .inr (.inr (.inr hk))
  · rw [hb] at hrec
    rcases hrec with (hk | hk) | hk
    · exact .inl hk
    · exact .inr (.inl hk)
    · exact .inr (.inr hk)
  · rw [hf] at hrec
    rcases hrec with (hk | hk) | hk
    · exact .inl hk
    · exact .inr (.inl hk)
    · exact .inr (.inr hk)

end

section
/-! SUPPORT. Events of a working device, and the lines: what the arbiter picks, and what the bytes of a frame read back as (R1 to R3, R17). -/
namespace Sys2Proof.Machine

/-! ### Events -/

/-- An event that does nothing leaves a device with power as it is, whatever its check word. -/
theorem whileWorking_unchanged {f : State → State} {s : State} (h : f s = s) : whileWorking f s = s := by
  unfold whileWorking
  split
  · simp [keepCheckWord, h]
  · rfl

theorem next_whileWorking {f : State → State} {s t : State} (hw : s.working = true) (h : f s = t) (hp : t.power = s.power) :
    (.next (whileWorking f s) : Host.Outcome State Fault Refusal) = .next t := by
  rw [whileWorking_working hw (by rw [h]; exact hp), h]

theorem next_unchanged {f : State → State} {s : State} (h : f s = s) :
    (.next (whileWorking f s) : Host.Outcome State Fault Refusal) = .next s := by rw [whileWorking_unchanged h]

/-- What a working device does with an event is what the event's operation makes of its state (R204). -/
theorem whileWorking_ends {f : State → State} {s : State} (hw : s.working = true) (h : Ends 0 s (f s)) : whileWorking f s = f s := by
  rcases h with h | ⟨-, m, ht⟩
  · exact whileWorking_working hw h.upholds.power
  · obtain ⟨hpowered, -⟩ := Bool.and_eq_true_iff.1 hw
    have hagrees : (f s).checkAgrees = true := by rw [ht]; rfl
    rw [whileWorking, if_pos hpowered, keepCheckWord_of_agrees hagrees]

theorem next_ends {f : State → State} {s t : State} (hw : s.working = true) (h : Ends 0 s (f s)) (ht : f s = t) :
    (.next (whileWorking f s) : Host.Outcome State Fault Refusal) = .next t := by rw [whileWorking_ends hw h, ht]

theorem satInc_max32 (n : Nat) : satInc max32 n = min (n + 1) 4294967295 := rfl

/-! ### The arbiter -/

/-- The first queue that is not empty is the arbiter's choice (R17). -/
theorem arbiterChoice_first {s : State} {p : Port} {q : QueueKind} {f : QFrame} {fs : List QFrame} (hq : s.queueFrames p q = f :: fs)
    (hr : q ≠ .reply → s.queueFrames p .reply = []) (ha : q = .forward → s.queueFrames p .alert = []) :
    s.arbiterChoice p = some q := by
  cases q with
  | reply => simp [State.arbiterChoice, queueOrder, hq]
  | alert => simp [State.arbiterChoice, queueOrder, hq, hr]
  | forward => simp [State.arbiterChoice, queueOrder, hq, hr, ha]

theorem arbiterChoice_none {s : State} {p : Port} (h : ∀ q, s.queueFrames p q = []) : s.arbiterChoice p = none := by
  simp [State.arbiterChoice, queueOrder, h]

theorem portFree_iff (s : State) (p : Port) :
    s.portFree p = true ↔ (s.port p).sending = none ∧ (p = .trunk → s.ports.linkUp = true) := by
  cases p <;> simp [State.portFree]

/-- A free port begins to send the head of its first queue that is not empty (R17). -/
theorem startSending_head {s : State} {p : Port} {q : QueueKind} {f : QFrame} {fs : List QFrame} (hfree : s.portFree p = true)
    (hq : s.queueFrames p q = f :: fs) (hr : q ≠ .reply → s.queueFrames p .reply = [])
    (ha : q = .forward → s.queueFrames p .alert = []) : startSending p s = beginSending p q f s := by
  rw [startSending, if_pos hfree, arbiterChoice_first hq hr ha]
  simp only [hq]

theorem updQueue_congr {s : State} {p : Port} {q : QueueKind} {f g : List QFrame → List QFrame}
    (h : f (s.queueFrames p q) = g (s.queueFrames p q)) (hp : p = .trunk ∨ q ≠ .alert) : s.updQueue p q f = s.updQueue p q g := by
  cases q <;> cases p <;> simp_all [State.updQueue, State.queueFrames, State.updPort, State.port]

/-- A queue that holds frames is none but the trunk's alert queue, or another kind. -/
theorem queueFrames_kind {s : State} {p : Port} {q : QueueKind} {f : QFrame} {fs : List QFrame} (hq : s.queueFrames p q = f :: fs) :
    p = .trunk ∨ q ≠ .alert := by
  cases p with
  | trunk => exact .inl rfl
  | field => exact .inr fun e => by subst e; exact absurd hq (by simp [State.queueFrames])

theorem updPort_power (s : State) (p : Port) (f : PortUnit → PortUnit) : (s.updPort p f).power = s.power := by cases p <;> rfl

theorem updQueue_power (s : State) (p : Port) (q : QueueKind) (f : List QFrame → List QFrame) : (s.updQueue p q f).power = s.power := by
  cases q with
  | reply => exact updPort_power s p _
  | alert => rfl
  | forward => exact updPort_power s p _

theorem updQueue_port_seqCounter (s : State) (p : Port) (q : QueueKind) (f : List QFrame → List QFrame) :
    ((s.updQueue p q f).port p).seqCounter = (s.port p).seqCounter := by
  cases q <;> cases p <;> rfl

theorem updPort_congr {s : State} {p : Port} {f g : PortUnit → PortUnit} (h : f (s.port p) = g (s.port p)) :
    s.updPort p f = s.updPort p g := by
  cases p <;> simp_all [State.updPort, State.port]

/-! ### The bytes of a frame -/

/-- A frame's bytes, one by one. -/
theorem frameBody_eq (f : Frame) : frameBody f
    = f.dst :: f.src :: f.typ :: f.flags :: f.seq :: BitVec.ofNat 8 (f.age.toNat / 256) :: BitVec.ofNat 8 f.age.toNat
      :: BitVec.ofNat 8 f.payload.length :: (f.payload ++ f.trailer) := by
  simp [frameBody, beBytes]

theorem length_frameBody (f : Frame) : (frameBody f).length = 8 + f.payload.length + f.trailer.length := by
  rw [frameBody_eq]; simp; omega

/-- The two bytes of an age read back as the age. -/
theorem age_bytes (a : BitVec 16) : (BitVec.ofNat 8 (a.toNat / 256) : Byte) ++ (BitVec.ofNat 8 a.toNat : Byte) = a := by
  refine BitVec.eq_of_toNat_eq ?_
  have ha := a.isLt
  rw [BitVec.toNat_append, BitVec.toNat_ofNat, BitVec.toNat_ofNat, ← Nat.shiftLeft_add_eq_or_of_lt (Nat.mod_lt _ (by decide)),
    Nat.shiftLeft_eq]
  omega

/-- The bytes of a frame with two more read back as the frame (13.1). -/
theorem parseFrame_body {f : Frame} (hp : f.payload.length ≤ 255) (ht : f.trailer.length = trailerLength f.flags) (x y : Byte) :
    parseFrame (frameBody f ++ [x, y]) = some f := by
  rw [frameBody_eq]
  have hlen : (BitVec.ofNat 8 f.payload.length : Byte).toNat = f.payload.length := by
    rw [BitVec.toNat_ofNat]; omega
  simp only [parseFrame, List.cons_append, hlen, age_bytes, List.append_assoc, List.take_left', List.drop_left', ← ht]

/-- What the length test reads of a frame's bytes. -/
theorem lengthValid_body {f : Frame} (hp : f.payload.length ≤ 255) (x y : Byte) :
    lengthValid (frameBody f ++ [x, y]) = (decide (f.payload.length ≤ 240) && decide (f.trailer.length = trailerLength f.flags)) := by
  have hlen : (BitVec.ofNat 8 f.payload.length : Byte).toNat = f.payload.length := by
    rw [BitVec.toNat_ofNat]; omega
  have htotal : (frameBody f ++ [x, y]).length = 10 + f.payload.length + f.trailer.length := by
    rw [List.length_append, length_frameBody]; simp; omega
  have hvalid : lengthValid (frameBody f ++ [x, y]) = (decide (f.payload.length ≤ 240)
      && decide ((frameBody f ++ [x, y]).length = 10 + f.payload.length + trailerLength f.flags)) := by
    rw [frameBody_eq]
    simp only [List.cons_append, lengthValid, hlen]
  rw [hvalid, htotal]
  congr 1
  simp

/-- The CRC test on a frame's bytes: the last two are those that the CRC gives (R2). -/
theorem crcValid_body (f : Frame) (x y : Byte) :
    crcValid (frameBody f ++ [x, y]) = (beBytes 2 (crc16 (frameBody f)).toNat == [x, y]) := by
  simp [crcValid]

/-- The bytes of a frame are those on the line exactly when the last two are its CRC. -/
theorem body_eq_wire (f : Frame) (x y : Byte) :
    frameBody f ++ [x, y] = frameWire f ↔ (beBytes 2 (crc16 (frameBody f)).toNat == [x, y]) = true := by
  rw [frameWire, List.append_cancel_left_eq, beq_iff_eq, eq_comm]

/-- Fewer than ten bytes are no frame (R3). -/
theorem lengthValid_short {bytes : List Byte} (h : bytes.length < 10) : lengthValid bytes = false := by
  unfold lengthValid
  split
  · simp only [Bool.and_eq_false_iff, decide_eq_false_iff_not]
    right
    simp only [List.length_cons] at h ⊢
    omega
  · rfl

theorem sourceOk_addressesValid (dst src : Byte) : addressesValid dst src = (sourceOk src && dst != 0) := rfl

/-- The tests of R3 on a frame's bytes with two more. -/
theorem bytesFailure_body {f : Frame} (p : Port) (hp : f.payload.length ≤ 255) (x y : Byte) :
    bytesFailure p (frameBody f ++ [x, y])
      = if ¬ (f.payload.length ≤ 240 ∧ f.trailer.length = trailerLength f.flags) then some .length
        else if p = .field ∧ annotated f.flags = true then some .format
        else if (beBytes 2 (crc16 (frameBody f)).toNat == [x, y]) = false then some .crc
        else if addressesValid f.dst f.src = false then some .address
        else none := by
  rw [bytesFailure, lengthValid_body hp, crcValid_body]
  by_cases hl : f.payload.length ≤ 240 ∧ f.trailer.length = trailerLength f.flags
  · rw [parseFrame_body hp hl.2]
    simp [hl]
  · have hinvalid : (decide (f.payload.length ≤ 240) && decide (f.trailer.length = trailerLength f.flags)) = false := by
      rw [← Bool.decide_and, decide_eq_false hl]
    rw [if_pos hl, hinvalid]
    rfl

/-- A frame that is no annotated field frame passes the format test. -/
theorem plain_format {p : Port} {flags : Byte} (h : p = .trunk ∨ flags.getLsbD 0 = false) :
    ¬ (p = .field ∧ annotated flags = true) := fun ⟨hp, ha⟩ => by
  rcases h with h | h
  · rw [hp] at h; exact absurd h (by simp)
  · rw [annotated, h] at ha; exact absurd ha (by simp)

theorem receiveBytes_failure {s : State} {p : Port} {bytes : List Byte} {e : ReceiveFailure} (hl : s.listens p = true)
    (h : bytesFailure p bytes = some e) : receiveBytes p bytes s = discardFrame p e s := by
  rw [receiveBytes, whileListening, if_pos hl, h]

theorem receiveBytes_frame {s : State} {p : Port} {bytes : List Byte} {f : Frame} (hl : s.listens p = true)
    (h : bytesFailure p bytes = none) (hf : parseFrame bytes = some f) : receiveBytes p bytes s = handOn p f (countReceived p s) := by
  rw [receiveBytes, whileListening, if_pos hl, h, hf]

theorem discardFrame_power (p : Port) (e : ReceiveFailure) (s : State) : (discardFrame p e s).power = s.power := by
  cases p <;> rfl

/-- A reception that fails a test is counted, and nothing else (R3). -/
theorem exec_receiveError_failure {s : State} {p : Port} {bytes : List Byte} {e : ReceiveFailure} (hw : s.working = true)
    (hl : s.listens p = true) (h : bytesFailure p bytes = some e) :
    exec (.receiveError p bytes) s = .next (s.updPortCounts p (countFailure e)) :=
  next_whileWorking hw (receiveBytes_failure hl h) (discardFrame_power p e s)

/-- A field port that transmits hears nothing (R7). -/
theorem whileListening_deaf {s : State} (h : s.ports.field.sending ≠ none) (receive : State → State) :
    whileListening .field receive s = s := by
  have : s.listens .field = false := by
    cases hs : s.ports.field.sending
    · exact absurd hs h
    · simp [State.listens, hs]
  rw [whileListening, this]
  rfl

end Sys2Proof.Machine
end

section
open Sys2Proof Sys2Proof.Machine

/-- Settles O18: a device with power brings its check word up to date, and a stopped one counts while the domain is held. -/
theorem tickCountsPartTime : Obligations.TickCountsPartTime := by
  intro s
  have hexec : exec .tick s = .next (countTick s) := rfl
  have hagrees : State.checkAgrees { s with clock := { s.clock with partTime := satInc max32 s.clock.partTime } } = s.checkAgrees := rfl
  refine ⟨fun hc => ?_, fun hp hc hmax => ?_, fun hc h => ?_⟩
  · rw [hexec, countTick]
    dsimp only
    rw [hc, keepCheckWord_of_agrees (hagrees.trans hc)]
    simp [satInc_max32]
  · rw [hexec, countTick]
    dsimp only
    rw [if_pos hp, keepCheckWord, hagrees, hc, if_neg ?_]
    · rfl
    · simp only [Bool.false_or, beq_iff_eq]
      intro hret
      have hclock : satInc max32 s.clock.partTime = s.clock.partTime := congrArg (fun t => t.clock.partTime) hret
      simp only [satInc_max32] at hclock
      omega
  · rw [hexec, countTick]
    dsimp only
    rcases h with hp | hmax
    · rw [hp, hc]; rfl
    · have hsame : { s with clock := { s.clock with partTime := satInc max32 s.clock.partTime } } = s := by
        have hsat : satInc max32 s.clock.partTime = s.clock.partTime := by rw [satInc_max32]; omega
        rw [hsat]
      rw [hsame, hc, keepCheckWord]
      simp

/-- Settles O24. -/
theorem linkFollowsIdlePattern : Obligations.LinkFollowsIdlePattern := fun _ hw =>
  ⟨next_whileWorking hw rfl rfl, next_whileWorking hw rfl rfl, next_whileWorking hw rfl rfl⟩

/-- Settles O25: the arbiter picks the first queue that holds a frame, and whether the frame takes a number turns on its queue and its mark. -/
theorem transmissionsStartAndEnd : Obligations.TransmissionsStartAndEnd := by
  intro s p hw
  refine ⟨fun q f fs hsend hlink hq hr ha => ?_, fun h => ?_, fun x hx => ?_, fun hx => ?_⟩
  · have hstart := startSending_head ((portFree_iff s p).2 ⟨hsend, hlink⟩) hq hr ha
    refine ⟨fun ⟨hkind, hnum⟩ => ?_, fun h => ?_⟩
    · have htakes : takesNumber q f = true := by simp [takesNumber, hkind, hnum]
      have hbegin : beginSending p q f s = (s.updQueue p q fun _ => numberFrame (s.port p).seqCounter f :: fs).updPort p fun u =>
          { u with seqCounter := (s.port p).seqCounter + 1,
                   sending := some { queue := q, wire := frameWire (numberFrame (s.port p).seqCounter f).frame } } := by
        rw [beginSending, if_pos htakes]
        dsimp only
        rw [updQueue_congr (g := fun _ => numberFrame (s.port p).seqCounter f :: fs) (by rw [hq]; rfl) (queueFrames_kind hq)]
        refine updPort_congr ?_
        rw [updQueue_port_seqCounter]
      exact next_whileWorking hw (hstart.trans hbegin) ((updPort_power _ p _).trans (updQueue_power s p q _))
    · have htakes : takesNumber q f = false := by
        rcases h with rfl | h
        · simp [takesNumber]
        · simp [takesNumber, h]
      have hbegin : beginSending p q f s = s.updPort p fun u => { u with sending := some { queue := q, wire := frameWire f.frame } } := by
        rw [beginSending, htakes]; rfl
      exact next_whileWorking hw (hstart.trans hbegin) (updPort_power s p _)
  · refine next_unchanged ?_
    unfold startSending
    split
    · next hfree =>
      obtain ⟨hsend, hlink⟩ := (portFree_iff s p).1 hfree
      rcases h with h | ⟨hp, hdown⟩ | h
      · exact absurd hsend h
      · rw [hlink hp] at hdown; exact absurd hdown (by simp)
      · rw [arbiterChoice_none h]
    · rfl
  · refine next_whileWorking hw ?_ ((updPort_power _ p _).trans (updQueue_power s p _ _))
    rw [finishSending, hx]
  · refine next_unchanged ?_
    rw [finishSending, hx]

/-- Settles O27: the tests of R3 in their order, read off the bytes of the frame. -/
theorem damagedFramesAreDiscarded : Obligations.DamagedFramesAreDiscarded := by
  refine ⟨fun s hs => ⟨fun bytes => next_unchanged (whileListening_deaf hs _), fun i x hi => ?_⟩, fun s p hw hl => ⟨fun bytes hb => ?_, ?_⟩⟩
  · have hdeaf : ∀ (f : Frame) (k : State → State),
        (.next (whileWorking (arrives .field f k) s) : Host.Outcome State Fault Refusal) = .next s :=
      fun f k => next_unchanged (whileListening_deaf hs _)
    unfold fieldRow? at hi
    split at hi
    rotate_right
    · cases hi
    all_goals exact hdeaf _ _
  · refine exec_receiveError_failure hw hl (e := .length) ?_
    rw [bytesFailure, lengthValid_short hb]; rfl
  · intro f x y bytes hbytes hp
    subst hbytes
    have hfail := bytesFailure_body p hp x y
    refine ⟨fun hbad => ?_, fun hlen htr => ⟨fun ⟨hfield, hann⟩ => ?_, fun hunann hcrc => ?_, fun hunann hcrc haddr => ?_⟩⟩
    · refine exec_receiveError_failure hw hl (e := .length) ?_
      rw [hfail, if_pos fun h => ?_]
      rcases hbad with hbad | hbad
      · omega
      · exact hbad h.2
    · refine exec_receiveError_failure hw hl (e := .format) ?_
      rw [hfail, if_neg (Decidable.not_not.2 ⟨hlen, htr⟩), if_pos ⟨hfield, hann⟩]
    · have hformat : ¬ (p = .field ∧ annotated f.flags = true) := plain_format hunann
      refine exec_receiveError_failure hw hl (e := .crc) ?_
      rw [hfail, if_neg (Decidable.not_not.2 ⟨hlen, htr⟩), if_neg hformat, if_pos ?_]
      exact eq_false_of_ne_true fun h => hcrc ((body_eq_wire f x y).2 h)
    · have hformat : ¬ (p = .field ∧ annotated f.flags = true) := plain_format hunann
      refine exec_receiveError_failure hw hl (e := .address) ?_
      rw [hfail, if_neg (Decidable.not_not.2 ⟨hlen, htr⟩), if_neg hformat, if_neg ?_, if_pos ?_]
      · rw [sourceOk_addressesValid]
        rcases haddr with h | h <;> simp [h]
      · rw [(body_eq_wire f x y).1 hcrc]; simp

/-- Settles O26: the bytes pass every test, and parse as the frame. -/
theorem receivedWireIsHandedOn : Obligations.ReceivedWireIsHandedOn := by
  intro s p f hw hl hp htr hann hsrc hdst
  obtain ⟨x, y, hcrc⟩ : ∃ x y, beBytes 2 (crc16 (frameBody f)).toNat = [x, y] := ⟨_, _, rfl⟩
  have hwire : frameWire f = frameBody f ++ [x, y] := by rw [frameWire, hcrc]
  have hnone : bytesFailure p (frameWire f) = none := by
    rw [hwire, bytesFailure_body p (by omega), if_neg (Decidable.not_not.2 ⟨hp, htr⟩), if_neg ?_, if_neg ?_, if_neg ?_]
    · rw [sourceOk_addressesValid, hsrc]; simpa using hdst
    · rw [hcrc]; simp
    · exact plain_format (Decidable.or_iff_not_imp_left.2 fun hne => hann (by cases p <;> simp_all))
  have hparse : parseFrame (frameWire f) = some f := by rw [hwire]; exact parseFrame_body (by omega) htr x y
  have hreceive : receiveBytes p (frameWire f) s = handOn p f (countReceived p s) := receiveBytes_frame hl hnone hparse
  exact next_ends hw (receiveBytes_ends _ _ _) hreceive

end

section
/-! SUPPORT. Commands of the Management Agent as they arrive: when they are taken, behind the gate of LOCKOUT, discarded, and how they are answered (R14, R190 to R192). -/
namespace Sys2Proof.Machine

/-! ### Taking a command -/

/-- A command that arrives is one of a frame that passes the tests, admitted by the reply queue (R3, R14). -/
def CommandFrame (run : State → State) (i : Instr) : Prop :=
  ∃ f, frameFailure .trunk f = none ∧ ∀ s, exec i s = .next (whileWorking (arrives .trunk f (admitCommand run)) s)

theorem commandFrame_of {m : CmdHdr} {payload : List Byte} {run : State → State} {i : Instr} (hs : sourceOk m.src = true)
    (hp : payload.length ≤ 240) (h : ∀ s, exec i s = .next (commandArrives m payload run s)) : CommandFrame run i :=
  ⟨_, frameFailure_command hs hp, h⟩

theorem lodgeFrame_of {m : CmdHdr} {payload : List Byte} {run : State → State} {i : Instr} (hs : sourceOk m.src = true)
    (hp : payload.length ≤ 240)
    (h : ∀ s, exec i s = .next (whileWorking (arrives .trunk (lodgeFrame m payload) (admitCommand run)) s)) : CommandFrame run i :=
  ⟨_, frameFailure_command hs hp, h⟩

theorem arrives_trunk {f : Frame} (h : frameFailure .trunk f = none) (handOn : State → State) (s : State) :
    arrives .trunk f handOn s = handOn (countReceived .trunk s) := by
  simp only [arrives, whileListening_trunk, h]

/-- A command taken runs on the state with its frame, itself and its reply place counted (R14, R190). -/
theorem CommandFrame.runs {run : State → State} {i : Instr} (h : CommandFrame run i) {s : State} {m : CmdHdr} (ht : s.takes m)
    (hr : ∀ s, Ends 1 s (run s)) : exec i s = .next (run s.admitted) := by
  obtain ⟨f, hf, hexec⟩ := h
  obtain ⟨hw, -, hroom⟩ := ht
  have hplace : (countReceived .trunk s).replyPlacesUsed .trunk < Config.replyPlaces := hroom
  have harr : arrives .trunk f (admitCommand run) s = run s.admitted := by
    rw [arrives_trunk hf, admitCommand, if_pos hplace]; rfl
  rw [hexec]
  exact next_ends hw (arrives_ends (admitCommand_ends hr) s) harr

/-- The same, of a command that is known to leave the power inputs alone. -/
theorem CommandFrame.runs_to {run : State → State} {i : Instr} (h : CommandFrame run i) {s t : State} {m : CmdHdr} (ht : s.takes m)
    (hrun : run s.admitted = t) (hpower : t.power = s.power) : exec i s = .next t := by
  obtain ⟨f, hf, hexec⟩ := h
  obtain ⟨hw, -, hroom⟩ := ht
  have hplace : (countReceived .trunk s).replyPlacesUsed .trunk < Config.replyPlaces := hroom
  have harr : arrives .trunk f (admitCommand run) s = t := by
    rw [arrives_trunk hf, admitCommand, if_pos hplace, ← hrun]; rfl
  rw [hexec]
  exact next_whileWorking hw harr hpower

/-- A command that finds no reply place is discarded, and counted (R14). -/
theorem CommandFrame.discards {run : State → State} {i : Instr} (h : CommandFrame run i) {s : State} (hw : s.working = true)
    (hfull : 4 ≤ s.ports.trunk.replies.length + s.ports.reserved) :
    exec i s = .next { s with ports := { s.ports with
        mgmtDiscards := satInc max32 s.ports.mgmtDiscards
        trunk := { s.ports.trunk with
          counts := { s.ports.trunk.counts with received := satInc max32 s.ports.trunk.counts.received } } } } := by
  obtain ⟨f, hf, hexec⟩ := h
  have hplace : ¬ (countReceived .trunk s).replyPlacesUsed .trunk < Config.replyPlaces := Nat.not_lt.2 hfull
  rw [hexec]
  refine next_whileWorking hw ?_ rfl
  rw [arrives_trunk hf, admitCommand, if_neg hplace]
  rfl

/-- A gated command that is taken is judged behind the gate (R192). -/
theorem gatedCommands_frame {m : CmdHdr} {ops : List Byte} (hs : sourceOk m.src = true) (hlen : ops.length ≤ 238) :
    ∀ x ∈ gatedCommands m ops, ∃ run, CommandFrame (gated x.2 m run) x.1 := by
  have h1 : ∀ code : Byte, (code :: ops).length ≤ 240 := fun _ => by simp only [List.length_cons]; omega
  have h2 : ∀ code part : Byte, (code :: part :: ops).length ≤ 240 := fun _ _ => by simp only [List.length_cons]; omega
  simp only [gatedCommands, List.forall_mem_cons]
  refine ⟨⟨_, commandFrame_of hs (h1 _) fun _ => rfl⟩, ⟨_, commandFrame_of hs (h1 _) fun _ => rfl⟩, ⟨_, commandFrame_of hs (h1 _) fun _ => rfl⟩,
    ⟨_, commandFrame_of hs (h1 _) fun _ => rfl⟩, ⟨_, commandFrame_of hs (h1 _) fun _ => rfl⟩, ⟨_, commandFrame_of hs (h1 _) fun _ => rfl⟩,
    ⟨_, commandFrame_of hs (h1 _) fun _ => rfl⟩, ⟨_, commandFrame_of hs (h1 _) fun _ => rfl⟩, ⟨_, commandFrame_of hs (h1 _) fun _ => rfl⟩,
    ⟨_, commandFrame_of hs (h2 _ _) fun _ => rfl⟩, ⟨_, commandFrame_of hs (h2 _ _) fun _ => rfl⟩, ⟨_, commandFrame_of hs (h2 _ _) fun _ => rfl⟩,
    ⟨_, commandFrame_of hs (h1 _) fun _ => rfl⟩, ⟨_, commandFrame_of hs (h1 _) fun _ => rfl⟩, ⟨_, commandFrame_of hs (h1 _) fun _ => rfl⟩,
    ⟨_, commandFrame_of hs (h1 _) fun _ => rfl⟩, nofun⟩

/-- Every command arrives in a frame of its own (R190). -/
theorem commands_frame {m : CmdHdr} {ops : List Byte} (hs : sourceOk m.src = true) (hlen : ops.length ≤ 238) :
    ∀ c ∈ commands m ops, ∃ run, CommandFrame run c := by
  have h1 : ∀ code : Byte, (code :: ops).length ≤ 240 := fun _ => by simp only [List.length_cons]; omega
  have h2 : ∀ code part : Byte, (code :: part :: ops).length ≤ 240 := fun _ _ => by simp only [List.length_cons]; omega
  refine List.forall_mem_append.2 ⟨fun c hc => ?_, ?_⟩
  · obtain ⟨x, hx, rfl⟩ := List.mem_map.1 hc
    obtain ⟨run, hrun⟩ := gatedCommands_frame hs hlen x hx
    exact ⟨_, hrun⟩
  · simp only [List.forall_mem_cons]
    refine ⟨⟨_, commandFrame_of hs (h1 _) fun _ => rfl⟩, ⟨_, commandFrame_of hs (h2 _ _) fun _ => rfl⟩, ⟨_, commandFrame_of hs (h2 _ _) fun _ => rfl⟩,
      ⟨_, commandFrame_of hs (h2 _ _) fun _ => rfl⟩, ⟨_, commandFrame_of hs (h2 _ _) fun _ => rfl⟩, ⟨_, commandFrame_of hs (h2 _ _) fun _ => rfl⟩,
      ⟨_, commandFrame_of hs (h2 _ _) fun _ => rfl⟩, ⟨_, commandFrame_of hs (h2 _ _) fun _ => rfl⟩, ⟨_, commandFrame_of hs (h2 _ _) fun _ => rfl⟩,
      ⟨_, commandFrame_of hs (h2 _ _) fun _ => rfl⟩, ⟨_, commandFrame_of hs (h2 _ _) fun _ => rfl⟩, ⟨_, commandFrame_of hs (h1 _) fun _ => rfl⟩,
      ⟨_, commandFrame_of hs (h1 _) fun _ => rfl⟩, ⟨_, lodgeFrame_of hs (by omega) fun _ => rfl⟩,
      ⟨_, commandFrame_of hs (h1 _) fun _ => rfl⟩, nofun⟩

/-- A code outside 0x01 to 0x14 names no command (R190). -/
theorem runCode_unknown {code : Byte} (h : code = 0 ∨ 0x14 < code.toNat) (m : CmdHdr) (ops : List Byte) :
    runCode m code ops = refuseCode code m := by
  have hne : ∀ c : Byte, c ≠ 0 → c.toNat ≤ 0x14 → code ≠ c := fun c h0 hc e => by
    subst e; rcases h with h | h
    · exact h0 h
    · omega
  unfold runCode
  simp only [if_neg (hne cmdStationWrite (by decide) (by decide)), if_neg (hne cmdStationClear (by decide) (by decide)),
    if_neg (hne cmdCompartmentWrite (by decide) (by decide)), if_neg (hne cmdClassWrite (by decide) (by decide)),
    if_neg (hne cmdFrameClassWrite (by decide) (by decide)), if_neg (hne cmdPassMaskSet (by decide) (by decide)),
    if_neg (hne cmdAlertLevelWrite (by decide) (by decide)), if_neg (hne cmdAlertMaskSet (by decide) (by decide)),
    if_neg (hne cmdConfigWrite (by decide) (by decide)), if_neg (hne cmdTimeSet (by decide) (by decide)),
    if_neg (hne cmdManifestLoad (by decide) (by decide)), if_neg (hne cmdManifestDelete (by decide) (by decide)),
    if_neg (hne cmdRouteOpen (by decide) (by decide)), if_neg (hne cmdRouteClose (by decide) (by decide)),
    if_neg (hne cmdQuery (by decide) (by decide)), if_neg (hne cmdProofFetch (by decide) (by decide)),
    if_neg (hne cmdProofRelease (by decide) (by decide)), if_neg (hne cmdClaimLodge (by decide) (by decide)),
    if_neg (hne cmdMonitorReset (by decide) (by decide)), if_neg (hne cmdFullClear (by decide) (by decide))]

theorem parseWord_length {ops : List Byte} : (parseWord ops).isSome = true ↔ ops.length = 4 := by
  unfold parseWord
  split
  · simp
  · next h =>
    simp only [Option.isSome_none, Bool.false_eq_true, false_iff]
    intro hlen
    match ops, hlen with
    | [a, b, c, d], _ => exact h a b c d rfl

theorem parseWord_none {ops : List Byte} (h : ops.length ≠ 4) : parseWord ops = none := by
  rw [← Option.not_isSome_iff_eq_none, parseWord_length]; exact h

theorem parseWord_four (b3 b2 b1 b0 : Byte) :
    parseWord [b3, b2, b1, b0] = some (((b3.toNat * 256 + b2.toNat) * 256 + b1.toNat) * 256 + b0.toNat) := by
  simp [parseWord, beNat]

theorem timeSet_frame {m : CmdHdr} {ops : List Byte} (hs : sourceOk m.src = true) (hlen : ops.length ≤ 239) :
    CommandFrame (fun s => settle cmdTimeSet m (judgeTimeSet ops s) s) (.timeSet m ops) :=
  commandFrame_of hs (payload := cmdTimeSet :: ops) (by simp only [List.length_cons]; omega) fun _ => rfl

theorem exec_timeSet_refused {s : State} {m : CmdHdr} {ops : List Byte} {r : MgmtReason} (ht : s.takes m) (hlen : ops.length ≤ 239)
    (hj : judgeTimeSet ops s.admitted = .error r) : exec (.timeSet m ops) s = .next (s.refusedBy cmdTimeSet m r) := by
  refine (timeSet_frame ht.2.1 hlen).runs_to ht ?_ rfl
  rw [hj]; rfl

theorem exec_timeSet_malformed {s : State} {m : CmdHdr} {ops : List Byte} (ht : s.takes m) (hlen : ops.length ≤ 239)
    (hne : ops.length ≠ 4) : exec (.timeSet m ops) s = .next (s.refusedBy cmdTimeSet m .malformed) :=
  exec_timeSet_refused ht hlen (by rw [judgeTimeSet, parseWord_none hne])

theorem exec_timeSet_lockout {s : State} {m : CmdHdr} {ops : List Byte} (ht : s.takes m) (hlen : ops.length = 4)
    (hl : s.store.lockout = true) : exec (.timeSet m ops) s = .next (s.refusedBy cmdTimeSet m .lockout) := by
  refine exec_timeSet_refused ht (by omega) ?_
  obtain ⟨v, hv⟩ := Option.isSome_iff_exists.1 (parseWord_length.2 hlen)
  rw [judgeTimeSet, hv]
  exact if_pos hl

/-- A lodging that the checks of R166 refuse is counted and answered with nothing else done. -/
theorem exec_claimLodge_refused {s : State} {m : CmdHdr} {ops : List Byte} {r : MgmtReason} (asFrame : Bool) (ht : s.takes m)
    (hlen : ops.length ≤ 239) (hr : s.admitted.trunkLodgeCheck (parseLodge ops) = some r) :
    exec (.claimLodge asFrame m ops) s = .next
      (State.refusedBy { s with claims := { s.claims with counts :=
        { s.claims.counts with refused := satInc max32 s.claims.counts.refused } } } cmdClaimLodge m r) := by
  have hframe : CommandFrame (runClaimLodge m ops) (.claimLodge asFrame m ops) := by
    cases asFrame with
    | false => exact commandFrame_of (payload := cmdClaimLodge :: ops) ht.2.1 (by simp only [List.length_cons]; omega) fun _ => rfl
    | true => exact lodgeFrame_of (payload := ops) ht.2.1 (by omega) fun _ => rfl
  refine hframe.runs_to ht ?_ rfl
  rw [runClaimLodge, hr]
  rfl

/-- A reply that finds its queue full is dropped, and counted (R15). -/
theorem offerReply_full {s : State} {p : Port} (h : 4 ≤ s.replyPlacesUsed p) (f : QFrame) :
    offerReply p f s = s.updPortCounts p fun n => { n with replyDrops := satInc max32 n.replyDrops } := by
  have hfull : ¬ s.replyPlacesUsed p < Config.replyPlaces := Nat.not_lt.2 h
  simp only [offerReply, if_neg hfull]
  rfl

/-! ### Queries -/

theorem queryClaims_empty (s : State) :
    queryClaims [] s.admitted = .ok (BitVec.ofNat 8 s.claims.queue.length :: (s.claims.queue.map claimBytes).flatten) := by
  have hlen := List.length_map (f := claimBytes) (as := s.claims.queue)
  rw [← hlen]
  rfl

theorem runQuery_frame {m : CmdHdr} {ops : List Byte} (hs : sourceOk m.src = true) (hlen : ops.length ≤ 238) :
    ∀ x ∈ queries m ops, CommandFrame (runQuery m x.2) x.1 := by
  have h2 : ∀ part : Byte, (cmdQuery :: part :: ops).length ≤ 240 := fun _ => by simp only [List.length_cons]; omega
  simp only [queries, List.forall_mem_cons]
  exact ⟨commandFrame_of hs (h2 _) fun _ => rfl, commandFrame_of hs (h2 _) fun _ => rfl, commandFrame_of hs (h2 _) fun _ => rfl,
    commandFrame_of hs (h2 _) fun _ => rfl, commandFrame_of hs (h2 _) fun _ => rfl, commandFrame_of hs (h2 _) fun _ => rfl,
    commandFrame_of hs (h2 _) fun _ => rfl, commandFrame_of hs (h2 _) fun _ => rfl, nofun⟩

theorem beBytes_one (n : Nat) : beBytes 1 n = [BitVec.ofNat 8 n] := by simp [beBytes]

theorem beBytes_one_byte (b : Byte) : beBytes 1 b.toNat = [b] := by simp [beBytes_one]

/-- The answer about a drop begins with its number (13.5). -/
theorem dropBytes_number {d : Drop} {n : Byte} (h : d.number = n.toNat) (first : Nat) : ∃ data, dropBytes d first = n :: data := by
  rw [dropBytes, h, beBytes_one_byte]
  exact ⟨_, rfl⟩

theorem ne_zero_of_stationAddr {a : Byte} (h : stationAddr a = true) : a ≠ 0 := by
  unfold stationAddr at h
  simp only [Bool.and_eq_true, bne_iff_ne] at h
  exact h.1

theorem flatten_singletons (l : List Station) : (l.map fun e => [e.addr]).flatten = l.map (·.addr) := by
  induction l with
  | nil => rfl
  | cons x xs ih => simp [ih]

end Sys2Proof.Machine
end

section
open Sys2Proof Sys2Proof.Machine

/-- Settles O59: the frame of a command finds no place, or the gate, or a code that names nothing. -/
theorem unservedCommandsAreRefused : Obligations.UnservedCommandsAreRefused := by
  refine ⟨fun s m ops hw hs hlen hfull c hc => ?_, fun s p f hfull => ?_, fun s m ht => ⟨fun hl ops hlen => ⟨fun x hx => ?_, fun h4 => ?_,
    fun h4 => ?_, fun asFrame => ?_⟩, fun code ops hlen hcode => ?_, ?_⟩⟩
  · obtain ⟨run, hrun⟩ := commands_frame hs hlen c hc
    exact hrun.discards hw hfull
  · exact offerReply_full hfull _
  · obtain ⟨run, hrun⟩ := gatedCommands_frame ht.2.1 hlen x hx
    exact hrun.runs_to ht (gated_lockout hl _ _ _) rfl
  · exact exec_timeSet_lockout ht h4 hl
  · exact exec_timeSet_malformed ht (by omega) h4
  · exact exec_claimLodge_refused asFrame ht (by omega) (if_pos hl)
  · have hframe : CommandFrame (runPayload m (code :: ops)) (.unknownCommandCode m (code :: ops)) :=
      commandFrame_of ht.2.1 (by simp only [List.length_cons]; omega) fun _ => rfl
    refine hframe.runs_to ht ?_ rfl
    rw [runPayload, runCode_unknown hcode]
    rfl
  · have hframe : CommandFrame (runPayload m []) (.unknownCommandCode m []) := commandFrame_of ht.2.1 (Nat.zero_le _) fun _ => rfl
    exact hframe.runs_to ht rfl rfl

/-- Settles O53: a query answers from the state it finds; each subject has data for every operand in range. -/
theorem queriesChangeNothing : Obligations.QueriesChangeNothing := by
  intro s m ops ht hlen
  refine ⟨fun x hx => ⟨fun data hdata => ?_, fun w hw => ?_⟩, fun page hp => ?_, fun n hn => ?_, fun n q hn hq => ?_, ?_, fun a ha => ⟨fun hnone => ?_,
    fun e he => ?_⟩, fun n first h1 h64 hfirst => ⟨fun hnone => ?_, fun d hd => ?_⟩, ⟨_, rfl⟩, ⟨_, queryClaims_empty s⟩, fun g hg => ?_⟩
  · refine (runQuery_frame ht.2.1 hlen x hx).runs_to ht ?_ rfl
    rw [runQuery, hdata]; rfl
  · refine (runQuery_frame ht.2.1 hlen x hx).runs_to ht ?_ rfl
    rw [runQuery, hw]; rfl
  · have hcases : page.toNat = 0 ∨ page.toNat = 1 ∨ page.toNat = 2 ∨ page.toNat = 3 := by omega
    rcases hcases with h | h | h | h <;> simp [queryPart, h]
  · exact ⟨_, dif_pos hn⟩
  · exact ⟨_, dif_pos ⟨hn, hq⟩⟩
  · rw [queryStation, if_pos rfl, listBytes, flatten_singletons, List.length_map]
    rfl
  · rw [queryStation, if_neg (ne_zero_of_stationAddr ha), ha, if_neg (by simp)]
    simp only [State.findStation, State.admitted_stations] at hnone ⊢
    rw [hnone]
  · have haddr : e.addr = a := by simpa using List.find?_some he
    rw [queryStation, if_neg (ne_zero_of_stationAddr ha), ha, if_neg (by simp)]
    simp only [State.findStation, State.admitted_stations] at he ⊢
    rw [he, ← haddr]
    exact ⟨_, rfl⟩
  · have hin : ¬ (n = 0 ∨ 64 < n.toNat ∨ 31 < first.toNat) := by bv_omega
    rw [queryDrop, if_neg hin]
    simp only [State.findDrop, State.admitted_drops] at hnone ⊢
    rw [hnone]
  · have hin : ¬ (n = 0 ∨ 64 < n.toNat ∨ 31 < first.toNat) := by bv_omega
    have hnum : d.number = n.toNat := State.findDrop_number hd
    rw [queryDrop, if_neg hin]
    simp only [State.findDrop, State.admitted_drops] at hd ⊢
    rw [hd]
    obtain ⟨data, hdata⟩ := dropBytes_number hnum first.toNat
    exact ⟨data, congrArg _ hdata⟩
  · have hcases : g.toNat = 0 ∨ g.toNat = 1 ∨ g.toNat = 2 ∨ g.toNat = 3 ∨ g.toNat = 4 ∨ g.toNat = 5 ∨ g.toNat = 6 := by omega
    rcases hcases with h | h | h | h | h | h | h <;> simp [queryCounters, parseGroup, h]

end

section
/-! SUPPORT. How every command that is taken is answered: refused with nothing done, or DONE, or by a PROOF_RECORD (R190, R191). -/
namespace Sys2Proof.Machine

/-- A command of a code is answered: refused on the state it found, or DONE or by a PROOF_RECORD at the end (R191). -/
def Answered (code : Byte) (m : CmdHdr) (s t : State) : Prop :=
  (∃ r, t = answer code m (.refused r) s)
    ∨ (∃ before marks data, t.ports.trunk.replies = before ++ [answerFrame code m (.done marks data)])
    ∨ (∃ before payload, t.ports.trunk.replies = before ++ [answerFrame code m (.proof payload)])

theorem Answered.refused (code : Byte) (m : CmdHdr) (r : MgmtReason) (s : State) : Answered code m s (answer code m (.refused r) s) :=
  .inl ⟨r, rfl⟩

theorem Answered.done (code : Byte) (m : CmdHdr) (marks : Byte) (data : List Byte) (s t : State) :
    Answered code m s (answer code m (.done marks data) t) := .inr (.inl ⟨_, _, _, rfl⟩)

theorem Answered.record (m : CmdHdr) (payload : List Byte) (s t : State) : Answered cmdProofFetch m s (answerRecord m payload t) :=
  .inr (.inr ⟨_, _, rfl⟩)

theorem settle_answered (code : Byte) (m : CmdHdr) (j : Judged) (s : State) : Answered code m s (settle code m j s) := by
  match j with
  | .error r => exact .refused code m r s
  | .ok (marks, data, t) => exact .done code m marks data s t

theorem gated_answered {code : Byte} {m : CmdHdr} {run : State → State} {s : State} (h : Answered code m s (run s)) :
    Answered code m s (gated code m run s) := by
  unfold gated
  split
  · exact .refused _ _ _ _
  · exact h

theorem runGated_answered (code : Byte) (m : CmdHdr) (judge : State → Judged) (s : State) :
    Answered code m s (runGated code m judge s) := gated_answered (settle_answered _ _ _ _)

theorem endForced_answered (m : CmdHdr) (start settling s t : State) : Answered cmdMonitorReset m s (endForced m start settling t) := by
  unfold endForced
  dsimp only
  split
  · exact .done _ _ _ _ _ _
  · exact .done _ _ _ _ _ _

theorem forcedSettlement_answered (m : CmdHdr) (s : State) : Answered cmdMonitorReset m s (forcedSettlement m s) := by
  unfold forcedSettlement
  dsimp only
  split
  · exact .done _ _ _ _ _ _
  · split
    · exact .done _ _ _ _ _ _
    · exact endForced_answered _ _ _ _ _

theorem runMonitorReset_answered (m : CmdHdr) (ops : List Byte) (s : State) :
    Answered cmdMonitorReset m s (runMonitorReset m ops s) := by
  refine gated_answered ?_
  split
  · exact .refused _ _ _ _
  · split
    · exact forcedSettlement_answered m s
    · exact .done _ _ _ _ _ _

theorem fetchNextSlot_answered (m : CmdHdr) (i : Fin 256) (s : State) : Answered cmdProofFetch m s (fetchNextSlot m i s) := by
  unfold fetchNextSlot
  split
  · split <;> exact .record _ _ _ _
  · exact .record _ _ _ _
  · exact .done _ _ _ _ _ _

theorem runFetchNext_answered (m : CmdHdr) (ops : List Byte) (s : State) : Answered cmdProofFetch m s (runFetchNext m ops s) := by
  unfold runFetchNext
  split
  · split
    · exact .refused _ _ _ _
    · split
      · exact .done _ _ _ _ _ _
      · exact fetchNextSlot_answered m _ s
  · exact .refused _ _ _ _

theorem fetchSlot_answered (m : CmdHdr) (i : Fin 256) (g : Nat) (s : State) : Answered cmdProofFetch m s (fetchSlot m i g s) := by
  unfold fetchSlot
  split
  · split
    · exact .refused _ _ _ _
    · split <;> exact .record _ _ _ _
  · split
    · exact .refused _ _ _ _
    · split <;> exact .record _ _ _ _
  · exact .record _ _ _ _
  · exact .refused _ _ _ _

theorem runFetchNumber_answered (m : CmdHdr) (ops : List Byte) (s : State) : Answered cmdProofFetch m s (runFetchNumber m ops s) := by
  unfold runFetchNumber
  split
  · exact .refused _ _ _ _
  · split
    · exact .refused _ _ _ _
    · split
      · exact .refused _ _ _ _
      · exact fetchSlot_answered m _ _ s

theorem runFullClear_answered (m : CmdHdr) (ops : List Byte) (s : State) : Answered cmdFullClear m s (runFullClear m ops s) := by
  unfold runFullClear
  split
  · exact .refused _ _ _ _
  · split
    · exact .refused _ _ _ _
    · exact .inr (.inl ⟨_, _, _, rfl⟩)

/-! ### Every command but the second part of a load -/

theorem gatedCommands_answered {m : CmdHdr} {ops : List Byte} (hs : sourceOk m.src = true) (hlen : ops.length ≤ 238) :
    ∀ x ∈ gatedCommands m ops, x.1 ≠ .manifestLoadPartTwo m ops →
      ∃ run, CommandFrame run x.1 ∧ ∀ s, Answered x.2 m s (run s) := by
  have h1 : ∀ code : Byte, (code :: ops).length ≤ 240 := fun _ => by simp only [List.length_cons]; omega
  have h2 : ∀ code part : Byte, (code :: part :: ops).length ≤ 240 := fun _ _ => by simp only [List.length_cons]; omega
  have hjudged : ∀ (i : Instr) (code : Byte) (payload : List Byte) (judge : State → Judged), payload.length ≤ 240 →
      (∀ s, exec i s = .next (commandArrives m payload (runGated code m judge) s)) → i ≠ .manifestLoadPartTwo m ops →
      ∃ run, CommandFrame run i ∧ ∀ s, Answered code m s (run s) :=
    fun i code payload judge hp he _ => ⟨_, commandFrame_of hs hp he, runGated_answered code m judge⟩
  simp only [gatedCommands, List.forall_mem_cons]
  refine ⟨hjudged _ _ _ _ (h1 _) fun _ => rfl, hjudged _ _ _ _ (h1 _) fun _ => rfl, hjudged _ _ _ _ (h1 _) fun _ => rfl,
    hjudged _ _ _ _ (h1 _) fun _ => rfl, hjudged _ _ _ _ (h1 _) fun _ => rfl, hjudged _ _ _ _ (h1 _) fun _ => rfl,
    hjudged _ _ _ _ (h1 _) fun _ => rfl, hjudged _ _ _ _ (h1 _) fun _ => rfl, hjudged _ _ _ _ (h1 _) fun _ => rfl,
    hjudged _ _ _ _ (h2 _ _) fun _ => rfl, hjudged _ _ _ _ (h2 _ _) fun _ => rfl, fun h => absurd rfl h,
    hjudged _ _ _ _ (h1 _) fun _ => rfl, hjudged _ _ _ _ (h1 _) fun _ => rfl, hjudged _ _ _ _ (h1 _) fun _ => rfl,
    fun _ => ⟨_, commandFrame_of hs (h1 _) fun _ => rfl, runMonitorReset_answered m ops⟩, nofun⟩

theorem ungatedCommands_answered {m : CmdHdr} {ops : List Byte} (hs : sourceOk m.src = true) (hlen : ops.length ≤ 238) :
    ∀ x ∈ [(Instr.timeSet m ops, cmdTimeSet), (.proofFetchNext m ops, cmdProofFetch), (.proofFetchNumber m ops, cmdProofFetch),
        (.proofRelease m ops, cmdProofRelease), (.fullClear m ops, cmdFullClear)],
      ∃ run, CommandFrame run x.1 ∧ ∀ s, Answered x.2 m s (run s) := by
  have h1 : ∀ code : Byte, (code :: ops).length ≤ 240 := fun _ => by simp only [List.length_cons]; omega
  have h2 : ∀ code part : Byte, (code :: part :: ops).length ≤ 240 := fun _ _ => by simp only [List.length_cons]; omega
  simp only [List.forall_mem_cons]
  exact ⟨⟨_, commandFrame_of hs (h1 _) fun _ => rfl, fun s => settle_answered _ m _ s⟩,
    ⟨_, commandFrame_of hs (h2 _ _) fun _ => rfl, runFetchNext_answered m ops⟩,
    ⟨_, commandFrame_of hs (h2 _ _) fun _ => rfl, runFetchNumber_answered m ops⟩,
    ⟨_, commandFrame_of hs (h1 _) fun _ => rfl, fun s => settle_answered _ m _ s⟩,
    ⟨_, commandFrame_of hs (h1 _) fun _ => rfl, runFullClear_answered m ops⟩, nofun⟩

/-- What a taken command's event leaves is what its run leaves, but for the check word. -/
theorem CommandFrame.next {run : State → State} {i : Instr} (h : CommandFrame run i) {s t : State} {m : CmdHdr} (ht : s.takes m)
    (he : exec i s = .next t) : t = keepCheckWord s (run s.admitted) := by
  obtain ⟨f, hf, hexec⟩ := h
  obtain ⟨hw, -, hroom⟩ := ht
  obtain ⟨hpowered, -⟩ := Bool.and_eq_true_iff.1 hw
  have hplace : (countReceived .trunk s).replyPlacesUsed .trunk < Config.replyPlaces := hroom
  have harr : arrives .trunk f (admitCommand run) s = run s.admitted := by
    rw [arrives_trunk hf, admitCommand, if_pos hplace]; rfl
  rw [hexec, whileWorking, if_pos hpowered, harr] at he
  exact (Host.Outcome.next.inj he).symm

theorem keepCheckWord_replies {s t : State} {l : List QFrame} (h : t.ports.trunk.replies = l) :
    (keepCheckWord s t).ports.trunk.replies = l := by rw [keepCheckWord_ports]; exact h

end Sys2Proof.Machine
end

section
open Sys2Proof Sys2Proof.Machine

/-- Settles O60: a run either refuses on the state it finds, or answers at its end. -/
theorem refusedCommandsChangeNothing : Obligations.RefusedCommandsChangeNothing := by
  intro s t m ops c code ht hlen hc he
  obtain ⟨run, hframe, hanswered⟩ : ∃ run, CommandFrame run c ∧ ∀ s, Answered code m s (run s) := by
    rcases hc with ⟨hmem, hne⟩ | hmem
    · exact gatedCommands_answered ht.2.1 hlen _ hmem hne
    · exact ungatedCommands_answered ht.2.1 hlen _ hmem
  have hnext := hframe.next ht he
  subst hnext
  rcases hanswered s.admitted with ⟨r, hrun⟩ | ⟨before, marks, data, hrun⟩ | ⟨before, payload, hrun⟩
  · refine .inl ⟨r, ?_⟩
    have hagrees : State.checkAgrees (s.refusedBy code m r) = true := (Bool.and_eq_true_iff.1 ht.1).2
    rw [hrun, answer_admitted_refused, keepCheckWord_of_agrees hagrees]
  · exact .inr (.inl ⟨before, marks, data, keepCheckWord_replies hrun⟩)
  · exact .inr (.inr ⟨before, payload, keepCheckWord_replies hrun⟩)

end

section
/-! SUPPORT. The commands that write the tables and the settings: what each judgement finds, check by check, and what the entry of an address is after a write or a clear (R22 to R26, R41, R93, R106, R108, R196). -/
namespace Sys2Proof.Machine

/-! ### The entries of a table written -/

theorem find_insertStation_other {e : Station} {x : Byte} (h : e.addr ≠ x) (l : List Station) :
    (insertStation e l).find? (·.addr = x) = l.find? (·.addr = x) := by
  induction l with
  | nil => simp [insertStation, h]
  | cons y ys ih =>
    unfold insertStation
    split
    · simp [List.find?_cons, h]
    · rw [List.find?_cons, List.find?_cons, ih]

theorem find_insertStation_self {e : Station} {l : List Station} (h : l.find? (·.addr = e.addr) = none) :
    (insertStation e l).find? (·.addr = e.addr) = some e := by
  induction l with
  | nil => simp [insertStation]
  | cons y ys ih =>
    have hy : ¬ y.addr = e.addr := by simpa using List.find?_eq_none.1 h y List.mem_cons_self
    rw [List.find?_cons_of_neg (by simpa using hy)] at h
    unfold insertStation
    split
    · simp
    · rw [List.find?_cons_of_neg (by simpa using hy), ih h]

theorem find_rewritten {a x : Byte} (b : Binding) (ov : Option Byte) (l : List Station) :
    (l.map fun e => if e.addr = a then rewriteStation e b ov else e).find? (·.addr = x)
      = (l.find? (·.addr = x)).map fun e => if e.addr = a then rewriteStation e b ov else e := by
  have hkeep : ((fun e : Station => decide (e.addr = x)) ∘ fun e => if e.addr = a then rewriteStation e b ov else e)
      = fun e => decide (e.addr = x) := funext fun e => by
    simp only [Function.comp_apply]
    split
    · rw [(rewriteStation_keeps e b ov).1]
    · rfl
  rw [List.find?_map, hkeep]

/-- The entry of an address after a write: the written one at its address, and every other as before. -/
theorem writtenStations_other {s : State} {a x : Byte} (h : x ≠ a) (b : Binding) (ov : Option Byte) :
    State.findStation { s with stations := s.writtenStations a b ov } x = s.findStation x := by
  unfold State.writtenStations
  split
  · refine (find_rewritten b ov _).trans ?_
    change (s.findStation x).map _ = s.findStation x
    cases hf : s.findStation x with
    | none => rfl
    | some e =>
      have hx : e.addr = x := by simpa using List.find?_some hf
      rw [Option.map_some, if_neg (hx ▸ h)]
  · exact find_insertStation_other (e := newStation a b ov) (Ne.symm h) _

theorem writtenStations_fresh {s : State} {a : Byte} (h : s.findStation a = none) (b : Binding) (ov : Option Byte) :
    State.findStation { s with stations := s.writtenStations a b ov } a = some { addr := a, binding := b, override := ov } := by
  simp only [State.writtenStations, h]
  exact find_insertStation_self (e := newStation a b ov) h

theorem writtenStations_rewritten {s : State} {a : Byte} {e : Station} (h : s.findStation a = some e) (b : Binding) (ov : Option Byte) :
    State.findStation { s with stations := s.writtenStations a b ov } a = some (rewriteStation e b ov) := by
  have ha : e.addr = a := by simpa using List.find?_some h
  simp only [State.writtenStations, h]
  refine (find_rewritten b ov _).trans ?_
  change (s.findStation a).map _ = _
  rw [h, Option.map_some, if_pos ha]

theorem clearedStations_find (s : State) (a x : Byte) :
    State.findStation { s with stations := s.clearedStations a } x = if x = a then none else s.findStation x := by
  change (s.stations.entries.filter fun e => e.addr != a).find? (·.addr = x) = _
  split
  · next hx =>
    refine List.find?_eq_none.2 fun e he => ?_
    have hne := (List.mem_filter.1 he).2
    simp only [bne_iff_ne, ne_eq] at hne
    simpa [hx] using hne
  · next hx =>
    rw [List.find?_filter]
    refine congrArg (List.find? · s.stations.entries) (funext fun e => ?_)
    by_cases he : e.addr = x
    · simp [he, hx]
    · simp [he]

/-! ### The opening of a binding undone (R93) -/

theorem undoDoor_undone {e : Station} {c : Fin 4} {p : Fin 2} {new : Option Binding} (hb : e.binding = .door c p)
    (hn : (new.any fun b => sameBinding e.binding b) = false) (s : State) : undoDoor (some e) new s = endOpening c p s := by
  obtain ⟨addr, binding⟩ := e
  cases hb
  simp only [undoDoor]
  exact if_neg (by simpa using hn)

theorem undoDoor_kept {old : Option Station} {new : Option Binding}
    (h : ∀ e c p, old = some e → e.binding = .door c p → (new.any fun b => sameBinding e.binding b) = true) (s : State) :
    undoDoor old new s = s := by
  unfold undoDoor
  split
  · next addr c p _ _ _ _ _ _ _ _ _ _ => exact if_pos (h _ c p rfl rfl)
  · rfl

theorem undoDoor_only (old : Option Station) (new : Option Binding) (s : State) :
    undoDoor old new s = { s with comps := (undoDoor old new s).comps } := by
  unfold undoDoor
  split
  · split <;> rfl
  · rfl

theorem undoDoor_admitted (old : Option Station) (new : Option Binding) (s : State) :
    undoDoor old new s.admitted = (undoDoor old new s).admitted := by
  unfold undoDoor
  split
  · split <;> rfl
  · rfl

theorem undoDoor_findStation (old : Option Station) (new : Option Binding) (s : State) (x : Byte) :
    (undoDoor old new s).findStation x = s.findStation x := by rw [undoDoor_only]; rfl

theorem writeStation_admitted (a : Byte) (b : Binding) (ov : Option Byte) (s : State) :
    writeStation a b ov s.admitted = (writeStation a b ov s).admitted := by
  rw [writeStation_eq, writeStation_eq, ← undoDoor_admitted]
  rfl

theorem clearStation_admitted (a : Byte) (s : State) : clearStation a s.admitted = (clearStation a s).admitted := by
  rw [clearStation_eq, clearStation_eq, ← undoDoor_admitted]
  rfl

theorem writtenStations_only (s : State) (a : Byte) (b : Binding) (ov : Option Byte) :
    s.writtenStations a b ov = { s.stations with entries := (s.writtenStations a b ov).entries } := by
  unfold State.writtenStations
  split <;> rfl

theorem writeStation_only (a : Byte) (b : Binding) (ov : Option Byte) (s : State) :
    writeStation a b ov s = { s with
      comps := (writeStation a b ov s).comps
      stations := { s.stations with entries := (writeStation a b ov s).stations.entries } } := by
  rw [writeStation_eq, undoDoor_only]
  dsimp only
  rw [← writtenStations_only]

theorem clearStation_only (a : Byte) (s : State) :
    clearStation a s = { s with
      comps := (clearStation a s).comps
      stations := { s.stations with entries := (clearStation a s).stations.entries } } := by
  rw [clearStation_eq, undoDoor_only]
  rfl

/-! ### The judgement of STATION_WRITE and STATION_CLEAR (R23, R26) -/

section StationWrite
variable {s : State} {ops : List Byte} {a : Byte} {k : StationKindOps} {ov : Option Byte}

theorem judgeStationWrite_malformed (h : parseStationWrite ops = none) : judgeStationWrite ops s = .error .malformed := by
  rw [judgeStationWrite, h]

theorem judgeStationWrite_outOfRange (h : parseStationWrite ops = some (a, k, ov)) (hbad : stationAddr a = false ∨ bindingOf k = none) :
    judgeStationWrite ops s = .error .outOfRange := by
  simp only [judgeStationWrite, h]
  cases hb : bindingOf k with
  | none => rfl
  | some b =>
    have ha := hbad.resolve_right (by rw [hb]; simp)
    simp [ha]

variable {b : Binding} (hparse : parseStationWrite ops = some (a, k, ov)) (hb : bindingOf k = some b) (ha : stationAddr a = true)
include hparse hb ha

theorem judgeStationWrite_locked (h : s.bindingLocked (s.findStation a) (some b) = true) :
    judgeStationWrite ops s = .error .lockedOnRoute := by
  simp only [judgeStationWrite, hparse, hb, ha, h]; rfl

variable (hlock : s.bindingLocked (s.findStation a) (some b) = false)
include hlock

theorem judgeStationWrite_conflict (h : s.bindingTaken a b = true) : judgeStationWrite ops s = .error .conflict := by
  simp only [judgeStationWrite, hparse, hb, ha, hlock, h]; rfl

variable (htaken : s.bindingTaken a b = false)
include htaken

theorem judgeStationWrite_noRoom (h : s.stationRoom a = false) : judgeStationWrite ops s = .error .noRoom := by
  simp only [judgeStationWrite, hparse, hb, ha, hlock, htaken, h]; rfl

theorem judgeStationWrite_ok (h : s.stationRoom a = true) :
    judgeStationWrite ops s = .ok (markNone, [], writeStation a b ov s) := by
  simp only [judgeStationWrite, hparse, hb, ha, hlock, htaken, h]; rfl

end StationWrite

theorem stationAddr_iff (a : Byte) : stationAddr a = true ↔ 1 ≤ a.toNat ∧ a.toNat ≤ 0xFD := by
  simp only [stationAddr, Bool.and_eq_true, bne_iff_ne, ne_eq, decide_eq_true_eq]
  constructor
  · rintro ⟨h0, h1⟩
    exact ⟨Nat.pos_of_ne_zero fun h => h0 (BitVec.eq_of_toNat_eq h), h1⟩
  · rintro ⟨h0, h1⟩
    exact ⟨fun h => by rw [h] at h0; exact absurd h0 (by decide), h1⟩

theorem judgeStationClear_malformed {ops : List Byte} (h : ops.length ≠ 1) (s : State) : judgeStationClear ops s = .error .malformed := by
  match ops with
  | [] => rfl
  | [_] => exact absurd rfl h
  | _ :: _ :: _ => rfl

theorem judgeStationClear_outOfRange {a : Byte} (h : stationAddr a = false) (s : State) :
    judgeStationClear [a] s = .error .outOfRange := by
  simp only [judgeStationClear, h]; rfl

theorem judgeStationClear_noEntry {s : State} {a : Byte} (ha : stationAddr a = true) (h : s.findStation a = none) :
    judgeStationClear [a] s = .error .noEntry := by
  simp only [judgeStationClear, ha, h]; rfl

theorem judgeStationClear_found {s : State} {a : Byte} {e : Station} (ha : stationAddr a = true) (h : s.findStation a = some e) :
    judgeStationClear [a] s = if s.bindingLocked (some e) none then .error .lockedOnRoute else .ok (markNone, [], clearStation a s) := by
  simp only [judgeStationClear, ha, h]; rfl

theorem onRoute_iff (s : State) : s.onRoute = true ↔ s.route.state ≠ .noRoute := by simp [State.onRoute]

theorem onRoute_false_iff (s : State) : s.onRoute = false ↔ s.route.state = .noRoute := by simp [State.onRoute]

theorem exec_stationWrite_refused {s : State} {m : CmdHdr} {ops : List Byte} {r : MgmtReason} (h : s.serves m) (hlen : ops.length ≤ 239)
    (hj : judgeStationWrite ops s.admitted = .error r) : exec (.stationWrite m ops) s = .next (s.refusedBy cmdStationWrite m r) :=
  congrArg Host.Outcome.next (gatedArrives_error h hlen hj)

theorem exec_stationClear_refused {s : State} {m : CmdHdr} {ops : List Byte} {r : MgmtReason} (h : s.serves m) (hlen : ops.length ≤ 239)
    (hj : judgeStationClear ops s.admitted = .error r) : exec (.stationClear m ops) s = .next (s.refusedBy cmdStationClear m r) :=
  congrArg Host.Outcome.next (gatedArrives_error h hlen hj)

end Sys2Proof.Machine
end

section
open Sys2Proof Sys2Proof.Machine

/-- Settles O42: the table is told by the entry of each address, and the live opening by the binding undone. -/
theorem stationWritesAndClears : Obligations.StationWritesAndClears := by
  refine ⟨fun s m ops a k b ov h hlen hparse hb ha hlock htaken hroom => ?write, fun s m a e h ha he hlock => ?clear,
    fun s m ops h hlen => ⟨fun hparse => ?_, fun a k ov hparse hbad => ?_, fun a k ov b hparse hb ha => ⟨?_, fun hlock => ⟨?_, ?_⟩⟩⟩,
    fun s m h => ⟨fun ops hne hlen => ?_, fun a => ⟨fun hbad => ?_, fun h1 h2 => ⟨fun hnone => ?_, fun e he hon hplace => ?_⟩⟩⟩⟩
  case write =>
    have hexec : exec (.stationWrite m ops) s = .next ((writeStation a b ov s).doneBy cmdStationWrite m 0 []) := by
      refine congrArg Host.Outcome.next (gatedArrives_ok h hlen ?_ (by rw [writeStation_only]))
      rw [← writeStation_admitted]
      exact judgeStationWrite_ok (s := s.admitted) hparse hb ha hlock htaken hroom
    refine ⟨_, hexec, fun hnone => ?_, fun e he hsame => ?_, fun e he hsame => ?_, fun x hx => ?_, fun e c p he hdoor hsame => ?_,
      fun hkept => ?_, writeStation_only a b ov s⟩
    · rw [writeStation_eq, undoDoor_findStation, writtenStations_fresh hnone]
    · rw [writeStation_eq, undoDoor_findStation, writtenStations_rewritten he, rewriteStation, if_pos hsame]
    · have haddr : e.addr = a := by simpa using List.find?_some he
      rw [writeStation_eq, undoDoor_findStation, writtenStations_rewritten he, rewriteStation, hsame, if_neg (by simp), haddr]
      rfl
    · rw [writeStation_eq, undoDoor_findStation, writtenStations_other hx]
    · rw [writeStation_eq, he, undoDoor_undone hdoor (by simpa using hsame)]
      rfl
    · rw [writeStation_eq, undoDoor_kept fun e c p he hdoor => by simpa using hkept e c p he hdoor]
  case clear =>
    have hexec : exec (.stationClear m [a]) s = .next ((clearStation a s).doneBy cmdStationClear m 0 []) := by
      refine congrArg Host.Outcome.next (gatedArrives_ok h (by simp) ?_ (by rw [clearStation_only]))
      rw [← clearStation_admitted, judgeStationClear_found (s := s.admitted) ha he]
      exact if_neg (by rw [show s.admitted.bindingLocked (some e) none = false from hlock]; simp)
    refine ⟨_, hexec, ?_, fun x hx => ?_, fun c p hdoor => ?_, fun hkept => ?_, clearStation_only a s⟩
    · rw [clearStation_eq, undoDoor_findStation, clearedStations_find, if_pos rfl]
    · rw [clearStation_eq, undoDoor_findStation, clearedStations_find, if_neg hx]
    · rw [clearStation_eq, he, undoDoor_undone hdoor rfl]
      rfl
    · rw [clearStation_eq, undoDoor_kept fun e' c p he' hdoor => ?_]
      rw [he] at he'
      cases he'
      exact absurd hdoor (hkept c p)
  · exact exec_stationWrite_refused h hlen (judgeStationWrite_malformed hparse)
  · exact exec_stationWrite_refused h hlen (judgeStationWrite_outOfRange hparse hbad)
  · rintro ⟨e, he, hon, hplace, hsame⟩
    refine exec_stationWrite_refused h hlen (judgeStationWrite_locked (s := s.admitted) hparse hb ha ?_)
    change s.bindingLocked (s.findStation a) (some b) = true
    simp [State.bindingLocked, he, (onRoute_iff s).2 hon, hplace, hsame]
  · rintro ⟨e, he, haddr, hplace, hsame⟩
    refine exec_stationWrite_refused h hlen (judgeStationWrite_conflict (s := s.admitted) hparse hb ha hlock ?_)
    exact List.any_eq_true.2 ⟨e, he, by simp [haddr, hplace, hsame]⟩
  · intro htaken hnone hfull
    refine exec_stationWrite_refused h hlen (judgeStationWrite_noRoom (s := s.admitted) hparse hb ha hlock htaken ?_)
    change s.stationRoom a = false
    simpa [State.stationRoom, hnone] using hfull
  · exact exec_stationClear_refused h hlen (judgeStationClear_malformed hne _)
  · refine exec_stationClear_refused h (by simp) (judgeStationClear_outOfRange ?_ _)
    refine Bool.eq_false_iff.2 fun ha => ?_
    obtain ⟨h1, h2⟩ := (stationAddr_iff a).1 ha
    rcases hbad with rfl | hbad
    · exact absurd h1 (by decide)
    · omega
  · exact exec_stationClear_refused h (by simp) (judgeStationClear_noEntry (s := s.admitted) ((stationAddr_iff a).2 ⟨h1, h2⟩) hnone)
  · refine exec_stationClear_refused h (by simp) ?_
    rw [judgeStationClear_found (s := s.admitted) ((stationAddr_iff a).2 ⟨h1, h2⟩) he]
    refine if_pos ?_
    change s.bindingLocked (some e) none = true
    simp [State.bindingLocked, (onRoute_iff s).2 hon, hplace]

end

section
/-! SUPPORT. The tables of the route, the configuration and part time as their commands write them (R39 to R42, R106, R108, R124, R184, R196). -/
namespace Sys2Proof.Machine

/-! ### COMPARTMENT_WRITE and CLASS_WRITE (R106, R108) -/

theorem parseProfile_length {ops : List Byte} {x : Nat × Byte × Profile} (h : parseProfile ops = some x) : ops.length ≤ 239 := by
  unfold parseProfile at h
  split at h
  · simp
  · cases h

theorem parseClass_length {ops : List Byte} {x : Nat × Option (ProductClass × Byte)} (h : parseClass ops = some x) :
    ops.length ≤ 239 := by
  unfold parseClass at h
  split at h
  · simp
  · simp
  · cases h

/-- A profile in range is judged by the route state, and by the drops whose mask names the compartment (R106). -/
theorem judgeCompartmentWrite_inRange {s : State} {ops : List Byte} {c : Fin 4} {en : Byte} {q : Profile}
    (h : parseProfile ops = some (c.val, en, q)) (hen : en = 0 ∨ en = 1) (hq : profileValid q = true) :
    judgeCompartmentWrite ops s
      = if s.onRoute then .error .lockedOnRoute
        else if !q.enabled && s.drops.any fun d => d.mask.getLsbD c.val then .error .conflict
        else .ok (markNone, [], s.updComp c fun k => { k with profile := q }) := by
  have hin : (!(decide (en = 0 ∨ en = 1)) || !profileValid q) = false := by rw [decide_eq_true hen, hq]; rfl
  simp only [judgeCompartmentWrite, h, dif_pos c.isLt, Fin.eta]
  rw [if_neg (by simpa using hin)]

/-- A class in range is judged by the route state, and by the items of the manifest (R108). -/
theorem judgeClassWrite_inRange {s : State} {ops : List Byte} {i : Fin 16} {entry : Option (ProductClass × Byte)}
    (h : parseClass ops = some (i.val, entry)) (hv : ∀ k sh, entry = some (k, sh) → classValid k sh = true) :
    judgeClassWrite ops s
      = if s.onRoute then .error .lockedOnRoute
        else if entry.isNone && s.classNamed i then .error .conflict
        else .ok (markNone, [], { s with classes := s.classes.set i.val (entry.map (·.1)) }) := by
  have hin : (entry.all fun e => classValid e.1 e.2) = true := by
    cases entry with
    | none => rfl
    | some e => exact hv e.1 e.2 rfl
  simp only [judgeClassWrite, h, dif_pos i.isLt, Fin.eta]
  rw [if_neg (by simp [hin])]

/-! ### CONFIG_WRITE (R196) -/

theorem clampNat_eq {lo hi : Nat} (h : lo ≤ hi) (v : Nat) : clampNat lo hi v = max lo (min v hi) := by
  unfold clampNat
  split
  · omega
  · split <;> omega

/-- The configuration that the clamping comes to, told by its five values (R42, R124, R184, R196). -/
theorem clampConfig_eq {o : ConfigOps} {held new : Settings}
    (hd : new.settleDelay = (match o.settleDelay with | some v => max 16 (min v 480) | none => held.settleDelay))
    (hl : new.arrivalLead = (match o.arrivalLead, o.settleDelay with
      | some v, _ => min v new.settleDelay
      | none, some _ => min held.arrivalLead new.settleDelay
      | none, none => held.arrivalLead))
    (hi : new.idleTimeout = (match o.idleTimeout with | some v => max 120 (min v 2400) | none => held.idleTimeout))
    (hp : new.departTimeout = (match o.departTimeout with | some v => max 120 (min v 2400) | none => held.departTimeout))
    (ha : new.alertHoldoff = (match o.alertHoldoff with | some v => min v 1200 | none => held.alertHoldoff)) :
    clampConfig o held = new := by
  obtain ⟨d, l, i, p, a⟩ := new
  obtain ⟨od, ol, oi, op, oa⟩ := o
  dsimp only at hd hl hi hp ha
  have hzero : ∀ top v : Nat, clampNat 0 top v = min v top := fun top v => by rw [clampNat_eq (Nat.zero_le _)]; omega
  have hdelay : (od.map (clampNat 16 480)).getD held.settleDelay = d := by
    rw [hd]; cases od <;> simp [clampNat_eq]
  simp only [clampConfig, Settings.mk.injEq]
  refine ⟨hdelay, ?_, ?_, ?_, ?_⟩
  · rw [hl, hdelay]
    cases ol <;> cases od <;> simp [hzero]
  · rw [hi]; cases oi <;> simp [clampNat_eq]
  · rw [hp]; cases op <;> simp [clampNat_eq]
  · rw [ha]; cases oa <;> simp [hzero]

theorem any_ne_eq_false {o : Option Nat} {n : Nat} : (o.any (· != n)) = false ↔ ∀ v, o = some v → v = n := by
  cases o <;> simp

/-- The mark of R196, step 4, is absent when every value given stands as given and the lead held is not lowered. -/
theorem configClamped_eq_false {o : ConfigOps} {held new : Settings} :
    configClamped o held new = false ↔ (∀ v, o.settleDelay = some v → v = new.settleDelay)
      ∧ (∀ v, o.arrivalLead = some v → v = new.arrivalLead) ∧ (∀ v, o.idleTimeout = some v → v = new.idleTimeout)
      ∧ (∀ v, o.departTimeout = some v → v = new.departTimeout) ∧ (∀ v, o.alertHoldoff = some v → v = new.alertHoldoff)
      ∧ (o.arrivalLead = none → held.arrivalLead ≤ new.arrivalLead) := by
  simp only [configClamped, Bool.or_eq_false_iff, any_ne_eq_false, Bool.and_eq_false_iff, and_assoc]
  refine and_congr Iff.rfl (and_congr Iff.rfl (and_congr Iff.rfl (and_congr Iff.rfl (and_congr Iff.rfl ?_))))
  cases o.arrivalLead <;> simp

/-! ### TIME_SET (R41) -/

theorem expireOpening_early {s : State} {c : Fin 4} {p : Fin 2}
    (h : ∀ d, (s.comp c).doors[p].deadline = some d → s.now < d) : expireOpening c p s = s := by
  unfold expireOpening
  split
  · next d o hd _ => exact if_neg (Nat.not_le.2 (h d hd))
  · rfl

theorem expireOpenings_early {s : State} (h : ∀ (c : Fin 4) (p : Fin 2) d, (s.comp c).doors[p].deadline = some d → s.now < d)
    (l : List (Fin 4 × Fin 2)) : l.foldl (fun s d => expireOpening d.1 d.2 s) s = s := by
  induction l with
  | nil => rfl
  | cons x xs ih => rw [List.foldl_cons, expireOpening_early (h x.1 x.2), ih]

theorem recoveryDue_early {s : State} (h : ∀ r, s.store.recovery = some r → s.now < r.deadline) : recoveryDue s = s := by
  unfold recoveryDue
  split
  · next r hr => exact if_neg (Nat.not_le.2 (h r hr))
  · rfl

theorem setTime_clock (v : Nat) (s : State) : (setTime v s).clock = { partTime := v, timeSet := true } := by
  rw [setTime_eq, (recoveryDue_frame _).clock]
  exact ((expireOpenings_carries True doorSlots (s.timed v)).upholds.route trivial).clock

theorem setTime_power (v : Nat) (s : State) : (setTime v s).power = s.power := by
  rw [setTime_eq, (recoveryDue_carries True _).upholds.power, (expireOpenings_carries True doorSlots (s.timed v)).upholds.power]
  rfl

theorem answer_power (code : Byte) (m : CmdHdr) (a : Answer) (s : State) : (answer code m a s).power = s.power := rfl

theorem answer_clock (code : Byte) (m : CmdHdr) (a : Answer) (s : State) : (answer code m a s).clock = s.clock := rfl

/-- Where part time reaches no deadline, it is all that a TIME_SET changes. -/
theorem setTime_early {v : Nat} {s : State} (hd : ∀ (c : Fin 4) (p : Fin 2) d, (s.comp c).doors[p].deadline = some d → v < d)
    (hr : ∀ r, s.store.recovery = some r → v < r.deadline) : setTime v s = s.timed v := by
  rw [setTime_eq, expireOpenings_early (s := s.timed v) hd, recoveryDue_early (s := s.timed v) hr]

theorem exec_timeSet_sets {s : State} {m : CmdHdr} {ops : List Byte} {v : Nat} (ht : s.takes m) (hlen : ops.length ≤ 239)
    (hparse : parseWord ops = some v) (hl : s.store.lockout = false) (hoff : s.route.state = .noRoute) :
    exec (.timeSet m ops) s = .next (answer cmdTimeSet m (.done markNone []) (setTime v s.admitted)) := by
  have hjudge : judgeTimeSet ops s.admitted = .ok (markNone, [], setTime v s.admitted) := by
    have hidle : ¬ s.admitted.onRoute = true := fun h => (onRoute_iff s).1 h hoff
    have hopen : ¬ s.admitted.lockedOut = true := by simp [hl]
    rw [judgeTimeSet, hparse]
    exact (if_neg hopen).trans (if_neg hidle)
  refine (timeSet_frame ht.2.1 hlen).runs_to ht (by rw [hjudge]; rfl) ?_
  rw [answer_power, setTime_power]
  rfl

/-- A TIME_SET that reaches no deadline is answered on the state with part time alone changed. -/
theorem timeSet_early {s t : State} {m : CmdHdr} {v : Nat} (hclock : (setTime v s.admitted).clock = { partTime := v, timeSet := true })
    (ht : t = answer cmdTimeSet m (.done markNone []) (setTime v s.admitted))
    (hd : ∀ (c : Fin 4) (p : Fin 2) (d : Nat), (s.comp c).doors[p].deadline = some d → t.now < d)
    (hr : ∀ r, s.store.recovery = some r → t.now < r.deadline) :
    t = State.doneBy { s with clock := t.clock } cmdTimeSet m 0 [] := by
  have hnow : t.now = v := by rw [ht, State.now, answer_clock, hclock]
  have htime : t.clock = { partTime := v, timeSet := true } := by rw [ht, answer_clock, hclock]
  rw [hnow] at hd hr
  rw [htime, ht, setTime_early (s := s.admitted) hd hr]
  rfl

end Sys2Proof.Machine
end

section
open Sys2Proof Sys2Proof.Machine

/-- Settles O43: the route state and the manifest decide about an entry in range. -/
theorem routeTablesAreWrittenOffRoute : Obligations.RouteTablesAreWrittenOffRoute := by
  refine ⟨fun s m ops c en q h hparse hen hq => ?_, fun s m ops i entry h hparse hv => ?_⟩
  · have hjudge := judgeCompartmentWrite_inRange (s := s.admitted) hparse hen hq
    have hrefused : ∀ r, judgeCompartmentWrite ops s.admitted = .error r →
        exec (.compartmentWrite m ops) s = .next (s.refusedBy cmdCompartmentWrite m r) := fun r hj =>
      congrArg Host.Outcome.next (gatedArrives_error h (parseProfile_length hparse) hj)
    refine ⟨fun hon => hrefused _ ?_, fun hoff hdis ⟨d, hd, hmask⟩ => hrefused _ ?_, fun hoff hfree => ?_⟩
    · rw [hjudge]; exact if_pos ((onRoute_iff s).2 hon)
    · rw [hjudge, if_neg (by rw [show s.admitted.onRoute = false from (onRoute_false_iff s).2 hoff]; simp)]
      refine if_pos ?_
      rw [hdis]
      exact List.any_eq_true.2 ⟨d, hd, hmask⟩
    · refine congrArg Host.Outcome.next
        (gatedArrives_ok (t := s.setComp c { s.comp c with profile := q }) h (parseProfile_length hparse) ?_ rfl)
      rw [hjudge, if_neg (by rw [show s.admitted.onRoute = false from (onRoute_false_iff s).2 hoff]; simp), if_neg]
      · rfl
      · simp only [Bool.and_eq_true, Bool.not_eq_true', not_and, Bool.not_eq_true]
        intro hdis
        refine List.any_eq_false.2 fun d hd => ?_
        simpa using (hfree.resolve_left (by simp [hdis])) d hd
  · have hjudge := judgeClassWrite_inRange (s := s.admitted) hparse hv
    have hrefused : ∀ r, judgeClassWrite ops s.admitted = .error r →
        exec (.classWrite m ops) s = .next (s.refusedBy cmdClassWrite m r) := fun r hj =>
      congrArg Host.Outcome.next (gatedArrives_error h (parseClass_length hparse) hj)
    refine ⟨fun hon => hrefused _ ?_, fun hoff hnone hnamed => hrefused _ ?_, fun hoff hfree => ?_⟩
    · rw [hjudge]; exact if_pos ((onRoute_iff s).2 hon)
    · rw [hjudge, if_neg (by rw [show s.admitted.onRoute = false from (onRoute_false_iff s).2 hoff]; simp)]
      refine if_pos ?_
      rw [hnone]
      exact hnamed
    · refine congrArg Host.Outcome.next
        (gatedArrives_ok (t := { s with classes := s.classes.set i.val (entry.map (·.1)) }) h (parseClass_length hparse) ?_ rfl)
      rw [hjudge, if_neg (by rw [show s.admitted.onRoute = false from (onRoute_false_iff s).2 hoff]; simp), if_neg]
      · rfl
      · rcases hfree with hsome | hunnamed
        · simp [hsome]
        · rw [show s.admitted.classNamed i = false from hunnamed]; simp

/-- Settles O47: the five values are what the clamping comes to, and the mark tells whether it moved one. -/
theorem configWriteClampsValues : Obligations.ConfigWriteClampsValues := by
  intro s m ops o new h hlen hparse hd hl hi hp ha
  have hclamp := clampConfig_eq hd hl hi hp ha
  have hjudge : judgeConfigWrite ops s.admitted = if s.onRoute = true ∧ (new.settleDelay ≠ s.config.settleDelay
        ∨ new.arrivalLead ≠ s.config.arrivalLead) then .error .lockedOnRoute
      else .ok (if configClamped o s.config new then markClamped else markNone, settingsBytes new, { s.admitted with config := new }) := by
    simp only [judgeConfigWrite, hparse, State.admitted_config, hclamp]
    rfl
  refine ⟨fun hon hmoved => ?_, fun hfree => ⟨if configClamped o s.config new then markClamped else markNone, ?_, ?_, ?_⟩⟩
  · refine congrArg Host.Outcome.next (gatedArrives_error h hlen ?_)
    rw [hjudge, if_pos ⟨(onRoute_iff s).2 hon, hmoved⟩]
  · refine congrArg Host.Outcome.next (gatedArrives_ok (t := { s with config := new }) h hlen ?_ rfl)
    rw [hjudge, if_neg]
    · rfl
    · rintro ⟨hon, hmoved⟩
      rcases hfree with hoff | ⟨h1, h2⟩
      · exact (onRoute_iff s).1 hon hoff
      · exact hmoved.elim (· h1) (· h2)
  · split
    · exact .inr rfl
    · exact .inl rfl
  · rw [← configClamped_eq_false]
    cases configClamped o s.config new <;> decide

/-- Settles O48: TIME_SET's checks in their order, and part time written with the deadlines it reaches. -/
theorem timeSetWritesPartTime : Obligations.TimeSetWritesPartTime := by
  intro s m ht
  refine ⟨fun ops hne hlen => exec_timeSet_malformed ht hlen hne, fun v3 v2 v1 v0 => ⟨fun hl => exec_timeSet_lockout ht rfl hl,
    fun hl hon => ?_, fun hl hoff => ?_⟩⟩
  · refine exec_timeSet_refused ht (by simp) ?_
    rw [judgeTimeSet, parseWord_four]
    exact (if_neg (by simp [hl])).trans (if_pos ((onRoute_iff s).2 hon))
  · obtain ⟨v, hv⟩ : ∃ v, v = ((v3.toNat * 256 + v2.toNat) * 256 + v1.toNat) * 256 + v0.toNat := ⟨_, rfl⟩
    rw [← hv]
    have hexec := exec_timeSet_sets (s := s) (ops := [v3, v2, v1, v0]) ht (by simp) (v := v) (by rw [parseWord_four, hv]) hl hoff
    have hclock := setTime_clock v s.admitted
    exact ⟨_, hexec, (answer_clock _ _ _ _).trans hclock, timeSet_early hclock rfl⟩

end

section
/-! SUPPORT. The Proof Store as its commands and its recovery show it: the lowest FREE slot, a detection that is the first or not, the slots that an abort of the claims frees, and fetches and releases (R148, R154 to R161, R178). -/
namespace Sys2Proof.Machine

/-! ### Slots -/

theorem lowestFree_of_firstFree {s : State} {i : Fin 256} (h : s.firstFree i) : s.lowestFree = some i := by
  obtain ⟨hfree, hbefore⟩ := h
  rw [State.lowestFree, List.find?_eq_some_iff_getElem]
  refine ⟨hfree, i.val, by simp, by simp, fun j hj => ?_⟩
  have hj' := hbefore ⟨j, by omega⟩ hj
  simpa using hj'

theorem lowestFree_of_none {s : State} (h : ∀ j, (s.slot j).isFree = false) : s.lowestFree = none :=
  List.find?_eq_none.2 fun j _ => by rw [h j]; simp

theorem foldl_abortClaim_slot (ks : List Claim) (s : State) (i : Fin 256) :
    (ks.foldl (fun s k => abortClaim k s) s).slot i = if i ∈ ks.map (·.reservation) then .free else s.slot i := by
  induction ks generalizing s with
  | nil => simp
  | cons k ks ih =>
    have hone : (abortClaim k s).slot i = if i = k.reservation then .free else s.slot i := by
      have : (abortClaim k s).slot i = (s.setSlot k.reservation .free).slot i := by
        simp only [abortClaim, sendClaimAnswer, State.updClaimCounts]
        rw [offerReply_only]
        rfl
      rw [this, State.setSlot_slot]
    rw [List.foldl_cons, ih, hone]
    by_cases h1 : i ∈ ks.map (·.reservation)
    · simp [h1]
    · by_cases h2 : i = k.reservation <;> simp [h1, h2]

/-- An abort of the claims frees their reservations, and leaves every other slot (R178). -/
theorem abortClaims_slot (s : State) (i : Fin 256) :
    (abortClaims s).slot i = if i ∈ s.claims.queue.map (·.reservation) then .free else s.slot i :=
  foldl_abortClaim_slot _ s i

/-- A slot that no reservation holds is none of the claims'. -/
theorem not_claimSlot {s : State} (hs : s.StoreSound) {i : Fin 256} (h : s.slot i ≠ .reserved) :
    i ∉ s.claims.queue.map (·.reservation) := fun hm => by
  obtain ⟨-, -, -, hheld, -⟩ := hs
  exact h (hheld i (by simp only [State.reservations]; exact List.mem_append_right _ hm))

theorem sweepClaims_unlocked {s : State} (h : s.store.lockout = false) : sweepClaims s = s := by
  rw [sweepClaims, State.lockedOut, h]; rfl

theorem sweepClaims_locked {s : State} (h : s.store.lockout = true) : sweepClaims s = abortClaims s := by
  rw [sweepClaims, State.lockedOut, h]; rfl

/-! ### Detections (R159 to R161) -/

/-- A detection is reported and counted. -/
def State.faultTold (s : State) (src : FaultSource) (i : Fin 256) : State :=
  (raise .storeFault (.slot i) (some (sourceCode src).toNat) s).updStoreCounts (countFault src)

/-- A detection outside a recovery begins one. -/
theorem detectFault_first {s : State} (hl : s.store.lockout = false) (hf : s.store.faultInProgress = false) (src : FaultSource)
    (i : Fin 256) (n : Nat) (k : RecordKind) : detectFault src i n k s = beginRecovery src i n k (s.faultTold src i) := by
  have h1 : ¬ (s.faultTold src i).lockedOut = true := by rw [show (s.faultTold src i).lockedOut = false from hl]; simp
  have h2 : ¬ (s.faultTold src i).store.faultInProgress = true := by
    rw [show (s.faultTold src i).store.faultInProgress = false from hf]; simp
  rw [detectFault]
  exact (if_neg h1).trans (if_neg h2)

/-- A detection during a recovery enters LOCKOUT. -/
theorem detectFault_second {s : State} (hl : s.store.lockout = false) (hf : s.store.faultInProgress = true) (src : FaultSource)
    (i : Fin 256) (n : Nat) (k : RecordKind) : detectFault src i n k s = enterLockout src (s.faultTold src i) := by
  have h1 : ¬ (s.faultTold src i).lockedOut = true := by rw [show (s.faultTold src i).lockedOut = false from hl]; simp
  rw [detectFault]
  exact (if_neg h1).trans (if_pos hf)

theorem beginRecovery_parts (src : FaultSource) (i : Fin 256) (n : Nat) (k : RecordKind) (s : State) :
    (beginRecovery src i n k s).store.lockout = s.store.lockout ∧ (beginRecovery src i n k s).store.faultInProgress = true
      ∧ (beginRecovery src i n k s).store.recovery
          = some { source := src, time := s.now, slot := i, number := n, kind := k, deadline := s.now + Config.recoveryTicks }
      ∧ (beginRecovery src i n k s).claims = s.claims ∧ (beginRecovery src i n k s).ports.trunk = s.ports.trunk
      ∧ (beginRecovery src i n k s).store.fillList = s.store.fillList
      ∧ (beginRecovery src i n k s).store.counts.faults = s.store.counts.faults := ⟨rfl, rfl, rfl, rfl, rfl, rfl, rfl⟩

theorem readFails_of_script {s : State} {b : Bool} {reads : List Bool} (h : s.array.script = b :: reads) : s.readFails = b := by
  rw [State.readFails, h]

theorem afterRead_of_script {s : State} {b : Bool} {reads : List Bool} (h : s.array.script = b :: reads) :
    s.afterRead = { s with array := { script := reads, count := s.array.count + 1 } } := by
  rw [State.afterRead, h]; rfl

/-! ### Fetches (R156, R157) -/

theorem answerRecord_replies (m : CmdHdr) (payload : List Byte) (s : State) :
    (answerRecord m payload s).ports.trunk.replies = s.ports.trunk.replies ++ [originate m.src typProofRecord payload] := rfl

theorem fetchNext_frame {m : CmdHdr} {ops : List Byte} (hs : sourceOk m.src = true) (hlen : ops.length ≤ 238) :
    CommandFrame (runFetchNext m ops) (.proofFetchNext m ops) :=
  commandFrame_of hs (payload := cmdProofFetch :: 0 :: ops) (by simp only [List.length_cons]; omega) fun _ => rfl

theorem fetchNumber_frame {m : CmdHdr} {ops : List Byte} (hs : sourceOk m.src = true) (hlen : ops.length ≤ 238) :
    CommandFrame (runFetchNumber m ops) (.proofFetchNumber m ops) :=
  commandFrame_of hs (payload := cmdProofFetch :: 1 :: ops) (by simp only [List.length_cons]; omega) fun _ => rfl

/-- Fetch NEXT takes the first slot of the fill list that is not fetched (R156). -/
theorem runFetchNext_slot {s : State} {before after : List (Fin 256)} {i : Fin 256} (hfill : s.store.fillList = before ++ i :: after)
    (hbefore : ∀ j ∈ before, unfetched (s.slot j) = false) (hi : unfetched (s.slot i) = true) (m : CmdHdr) :
    runFetchNext m [0] s = fetchNextSlot m i s := by
  have hfind : (s.store.fillList.find? fun j => unfetched (s.slot j)) = some i := by
    rw [hfill, List.find?_append, List.find?_eq_none.2 fun j hj => by rw [hbefore j hj]; simp, List.find?_cons, hi]
    rfl
  rw [runFetchNext]
  simp only [ne_eq, not_true_eq_false, if_false, hfind]

theorem runFetchNumber_refused {n1 n0 g : Byte} (h : n1 = 0 ∧ n0 = 0) (m : CmdHdr) (s : State) :
    runFetchNumber m [n1, n0, g] s = answer cmdProofFetch m (.refused .outOfRange) s := by
  obtain ⟨rfl, rfl⟩ := h
  rw [runFetchNumber, parseFetchNumber]
  exact if_pos (by simp [beNat])

theorem number_ne_zero {n1 n0 : Byte} (h : n1 ≠ 0 ∨ n0 ≠ 0) : n1.toNat * 256 + n0.toNat ≠ 0 := by bv_omega

theorem runFetchNumber_none {n1 n0 : Byte} {s : State} (h : n1 ≠ 0 ∨ n0 ≠ 0) (hfind : s.findRecord (n1.toNat * 256 + n0.toNat) = none)
    (g : Byte) (m : CmdHdr) : runFetchNumber m [n1, n0, g] s = answer cmdProofFetch m (.refused .noEntry) s := by
  simp only [runFetchNumber, parseFetchNumber, beNat_pair, if_neg (number_ne_zero h), hfind]

theorem runFetchNumber_some {n1 n0 : Byte} {s : State} {i : Fin 256} (h : n1 ≠ 0 ∨ n0 ≠ 0)
    (hfind : s.findRecord (n1.toNat * 256 + n0.toNat) = some i) (g : Byte) (m : CmdHdr) :
    runFetchNumber m [n1, n0, g] s = fetchSlot m i g.toNat s := by
  simp only [runFetchNumber, parseFetchNumber, beNat_pair, if_neg (number_ne_zero h), hfind]

/-- A slot that holds a sound record answers with the segment asked for, and stays (R157). -/
theorem fetchSlot_record {s : State} {i : Fin 256} {h : RecordHeader} {b : RecordBody} (hi : s.slot i = .filled h b ∨ s.slot i = .taken h b)
    (hread : s.readFails = false) (m : CmdHdr) (g : Nat) :
    fetchSlot m i g s = if segmentCount b ≤ g then answer cmdProofFetch m (.refused .outOfRange) s
      else answerRecord m (soundPayload m.seq h b g) s.afterRead := by
  rcases hi with hi | hi <;> simp [fetchSlot, hi, hread]

/-- What a failed fetch read makes of the store when no recovery is under way (R156, R159, R160). -/
theorem fetchFault_first {s : State} (hl : s.store.lockout = false) (hf : s.store.faultInProgress = false) (i : Fin 256) (h : RecordHeader)
    (f : Bool) : fetchFault i h f s
      = beginRecovery .fetch i h.number h.kind ((s.afterRead.setSlot i (.corrupt h f)).faultTold .fetch i) := by
  have hfirst := detectFault_first (s := s.afterRead.setSlot i (.corrupt h f)) hl hf .fetch i h.number h.kind
  rw [fetchFault, hfirst]
  exact sweepClaims_unlocked hl

/-- A failed fetch read during a recovery enters LOCKOUT, and the claims are aborted (R161, R178). -/
theorem fetchFault_second {s : State} (hl : s.store.lockout = false) (hf : s.store.faultInProgress = true) (i : Fin 256) (h : RecordHeader)
    (f : Bool) : fetchFault i h f s = abortClaims (enterLockout .fetch ((s.afterRead.setSlot i (.corrupt h f)).faultTold .fetch i)) := by
  have hsecond := detectFault_second (s := s.afterRead.setSlot i (.corrupt h f)) hl hf .fetch i h.number h.kind
  rw [fetchFault, hsecond]
  exact sweepClaims_locked rfl

theorem abortClaims_locked (s : State) : (abortClaims s).store.lockout = s.store.lockout
    ∧ (abortClaims s).store.recovery = s.store.recovery ∧ (abortClaims s).store.fillList = s.store.fillList
    ∧ (abortClaims s).store.counts = s.store.counts ∧ (abortClaims s).store.faultInProgress = s.store.faultInProgress := by
  rw [abortClaims_store]
  exact ⟨rfl, rfl, rfl, rfl, rfl⟩

/-- What a failed fetch read leaves of the slots: CORRUPT in its own, and the reservations of the claims aborted FREE. -/
theorem fetchFault_slots {s : State} {i : Fin 256} {h : RecordHeader} {b : RecordBody} (hs : s.StoreSound) (hi : s.slot i = .filled h b)
    (hl : s.store.lockout = false) (f : Bool) :
    (fetchFault i h f s).slot i = .corrupt h f ∧ ∀ j, j ≠ i → s.slot j ≠ .reserved → (fetchFault i h f s).slot j = s.slot j := by
  have hset : ∀ j, (s.afterRead.setSlot i (.corrupt h f)).slot j = if j = i then .corrupt h f else s.slot j := fun j =>
    State.setSlot_slot s.afterRead i j _
  have hfree : ∀ j, s.slot j ≠ .reserved → (fetchFault i h f s).slot j = if j = i then .corrupt h f else s.slot j := fun j hj => by
    by_cases hf : s.store.faultInProgress = true
    · rw [fetchFault_second hl hf, abortClaims_slot]
      exact (if_neg (not_claimSlot hs hj)).trans (hset j)
    · rw [fetchFault_first hl (by simpa using hf)]
      exact hset j
  refine ⟨?_, fun j hne hj => ?_⟩
  · rw [hfree i (by rw [hi]; simp), if_pos rfl]
  · rw [hfree j hj, if_neg hne]

/-! ### Releases (R158) -/

theorem upTo_append {i : Fin 256} {before : List (Fin 256)} (h : i ∉ before) (after : List (Fin 256)) :
    upTo i (before ++ i :: after) = before ++ [i] := by
  induction before with
  | nil => simp [upTo]
  | cons x xs ih =>
    simp only [List.mem_cons, not_or] at h
    obtain ⟨hx, hxs⟩ := h
    rw [List.cons_append, upTo, if_neg (Ne.symm hx), ih hxs, List.cons_append]

/-- The first slot of the fill list that carries a number is the one found for it (R147). -/
theorem findRecord_first {s : State} {before after : List (Fin 256)} {i : Fin 256} {h : RecordHeader}
    (hfill : s.store.fillList = before ++ i :: after) (hi : (s.slot i).header? = some h)
    (hbefore : ∀ j ∈ before, ∀ h', (s.slot j).header? = some h' → h'.number ≠ h.number) : s.findRecord h.number = some i := by
  rw [State.findRecord, hfill, List.find?_append, List.find?_eq_none.2 fun j hj => ?_, List.find?_cons_of_pos (by simp [hi])]
  · rfl
  · cases hj' : (s.slot j).header? with
    | none => simp
    | some h' => simpa using hbefore j hj h' hj'

theorem release_frame {m : CmdHdr} {ops : List Byte} (hs : sourceOk m.src = true) (hlen : ops.length ≤ 239) :
    CommandFrame (fun s => settle cmdProofRelease m (judgeRelease ops s) s) (.proofRelease m ops) :=
  commandFrame_of hs (payload := cmdProofRelease :: ops) (by simp only [List.length_cons]; omega) fun _ => rfl

theorem exec_release_refused {s : State} {m : CmdHdr} {ops : List Byte} {r : MgmtReason} (ht : s.takes m) (hlen : ops.length ≤ 239)
    (hj : judgeRelease ops s.admitted = .error r) : exec (.proofRelease m ops) s = .next (s.refusedBy cmdProofRelease m r) :=
  (release_frame ht.2.1 hlen).runs_to ht (by rw [hj]; rfl) rfl

theorem judgeRelease_malformed {ops : List Byte} (h : ops.length ≠ 2) (s : State) : judgeRelease ops s = .error .malformed := by
  match ops with
  | [] => rfl
  | [_] => rfl
  | [_, _] => exact absurd rfl h
  | _ :: _ :: _ :: _ => rfl

theorem judgeRelease_none {n1 n0 : Byte} {s : State} (h : n1 ≠ 0 ∨ n0 ≠ 0) (hfind : s.findRecord (n1.toNat * 256 + n0.toNat) = none) :
    judgeRelease [n1, n0] s = .error .noEntry := by
  simp only [judgeRelease, parseNumber, beNat_pair, if_neg (number_ne_zero h), hfind]

theorem judgeRelease_some {n1 n0 : Byte} {s : State} {i : Fin 256} (h : n1 ≠ 0 ∨ n0 ≠ 0)
    (hfind : s.findRecord (n1.toNat * 256 + n0.toNat) = some i) :
    judgeRelease [n1, n0] s = .ok (markNone, beBytes 2 (s.freedBy i).length, freeSlots (s.freedBy i) s) := by
  simp only [judgeRelease, parseNumber, beNat_pair, if_neg (number_ne_zero h), hfind]

end Sys2Proof.Machine
end

section
open Sys2Proof Sys2Proof.Machine

/-- Settles O54: fetch NEXT by the first slot not fetched, fetch by number by the slot that carries it, and a failed read by the detection. -/
theorem proofFetchReturnsRecord : Obligations.ProofFetchReturnsRecord := by
  intro s m ht
  have hnext : ∀ {g : Byte} {t : State}, runFetchNext m [g] s.admitted = t → t.power = s.power →
      exec (.proofFetchNext m [g]) s = .next t := fun h hp => (fetchNext_frame ht.2.1 (by simp)).runs_to ht h hp
  have hnumber : ∀ {n1 n0 g : Byte} {t : State}, runFetchNumber m [n1, n0, g] s.admitted = t → t.power = s.power →
      exec (.proofFetchNumber m [n1, n0, g]) s = .next t := fun h hp => (fetchNumber_frame ht.2.1 (by simp)).runs_to ht h hp
  refine ⟨fun hnone => ?_, fun g hg => ?_, fun before after i h reads hfill hbefore => ⟨fun b hi hread => ?_, fun hi => ?_,
    fun b hs hi hread hl => ?_⟩, fun n1 n0 g i h b reads hfind hn hi hread => ⟨fun hg => ?_, fun hg => ?_⟩, fun g => ?_,
    fun n1 n0 g hn hfind => ?_⟩
  · refine hnext ?_ rfl
    have hfind : (s.admitted.store.fillList.find? fun j => unfetched (s.admitted.slot j)) = none :=
      List.find?_eq_none.2 fun j hj => by rw [show unfetched (s.admitted.slot j) = false from hnone j hj]; simp
    rw [runFetchNext]
    simp only [ne_eq, not_true_eq_false, if_false, hfind]
    rfl
  · refine hnext ?_ rfl
    rw [runFetchNext]
    exact if_pos hg
  · refine hnext ?_ rfl
    rw [runFetchNext_slot (s := s.admitted) hfill hbefore (by rw [show s.admitted.slot i = _ from hi]; rfl)]
    have hslot : s.admitted.slot i = .filled h b := hi
    simp only [fetchNextSlot, hslot, readFails_of_script (s := s.admitted) hread, afterRead_of_script (s := s.admitted) hread]
    rfl
  · refine hnext ?_ rfl
    rw [runFetchNext_slot (s := s.admitted) hfill hbefore (by rw [show s.admitted.slot i = _ from hi]; rfl)]
    have hslot : s.admitted.slot i = .corrupt h false := hi
    simp only [fetchNextSlot, hslot]
    rfl
  · have hslot : s.admitted.slot i = .filled h b := hi
    have hrun : runFetchNext m [0] s.admitted = answerRecord m (corruptPayload m.seq h 0) (fetchFault i h true s.admitted) := by
      rw [runFetchNext_slot (s := s.admitted) hfill hbefore (by rw [hslot]; rfl)]
      simp only [fetchNextSlot, hslot, readFails_of_script (s := s.admitted) hread, if_true]
    obtain ⟨hself, hother⟩ := fetchFault_slots (s := s.admitted) hs hslot hl true
    have hpower : (answerRecord m (corruptPayload m.seq h 0) (fetchFault i h true s.admitted)).power = s.power := by
      have hk : (s.admitted.slot i).Keeps (.corrupt h true) := by rw [hslot]; exact .inr (.inr ⟨true, rfl⟩)
      exact ((fetchFault_carries True hk (by rw [hslot]; rfl)).trans (answerRecord_carries True m _ _)).upholds.power
    refine ⟨_, hnext hrun hpower, hself, hother, ?_⟩
    by_cases hf : s.store.faultInProgress = true
    · have hfault := fetchFault_second (s := s.admitted) hl hf i h true
      obtain ⟨hlock, hrec, hlist, hcounts, -⟩ :=
        abortClaims_locked (enterLockout .fetch ((s.admitted.afterRead.setSlot i (.corrupt h true)).faultTold .fetch i))
      rw [hfault]
      exact ⟨hlist, congrArg StoreCounts.faults hcounts, fun hn => absurd hf (by rw [hn]; simp), fun _ => ⟨hlock, hrec, abortClaims_queue _⟩⟩
    · rw [fetchFault_first (s := s.admitted) hl (by simpa using hf)]
      obtain ⟨hlock, hprogress, hrec, hclaims, htrunk, hlist, hfaults⟩ :=
        beginRecovery_parts .fetch i h.number h.kind ((s.admitted.afterRead.setSlot i (.corrupt h true)).faultTold .fetch i)
      refine ⟨hlist, hfaults, fun _ => ⟨hlock.trans hl, hprogress, hrec, hclaims, ?_⟩, fun hy => absurd hy hf⟩
      rw [answerRecord_replies, htrunk]
      rfl
  · refine hnumber ?_ rfl
    rw [runFetchNumber_some (s := s.admitted) hn hfind, fetchSlot_record (s := s.admitted) hi (readFails_of_script (s := s.admitted) hread), if_neg (by omega),
      afterRead_of_script (s := s.admitted) hread]
    rfl
  · refine hnumber ?_ rfl
    rw [runFetchNumber_some (s := s.admitted) hn hfind, fetchSlot_record (s := s.admitted) hi (readFails_of_script (s := s.admitted) hread), if_pos hg]
    rfl
  · exact hnumber (runFetchNumber_refused ⟨rfl, rfl⟩ m _) rfl
  · refine hnumber ?_ rfl
    rw [runFetchNumber_none (s := s.admitted) hn hfind]
    rfl

/-- Settles O55: the number is looked up, and the fetched slots up to it are freed together. -/
theorem proofReleaseFreesFetched : Obligations.ProofReleaseFreesFetched := by
  intro s m n1 n0 ht
  refine ⟨fun ops hne hlen => exec_release_refused ht hlen (judgeRelease_malformed hne _), fun h1 h0 => ?_, fun hn hfind => ?_,
    fun before after freed i h hfill hi hnum hn0 hbefore hfreed => ?_⟩
  · subst h1 h0
    refine exec_release_refused ht (by simp) ?_
    rw [judgeRelease, parseNumber]
    exact if_pos (by simp [beNat])
  · exact exec_release_refused ht (by simp) (judgeRelease_none (s := s.admitted) hn hfind)
  · have hn : n1 ≠ 0 ∨ n0 ≠ 0 := by
      refine Decidable.byContradiction fun hz => ?_
      simp only [not_or, Decidable.not_not] at hz
      rw [hnum, hz.1, hz.2] at hn0
      exact hn0 rfl
    have hfind : s.findRecord (n1.toNat * 256 + n0.toNat) = some i := hnum ▸ findRecord_first hfill hi hbefore
    have hnotin : i ∉ before := fun hm => hbefore i hm h hi rfl
    have hfreedBy : s.admitted.freedBy i = freed := by
      change (upTo i s.store.fillList).filter (fun j => releasable (s.slot j)) = freed
      rw [hfreed, hfill, upTo_append hnotin]
    refine ⟨freeSlots freed s, (release_frame ht.2.1 (by simp)).runs_to ht ?_ rfl, fun j => ⟨fun hj => ?_, fun hj => ?_⟩, ?_, rfl⟩
    · rw [judgeRelease_some (s := s.admitted) hn hfind, hfreedBy]
      rfl
    · rw [freeSlots_slot, if_pos hj]
    · rw [freeSlots_slot, if_neg hj]
    · exact List.filter_congr fun j _ => by simp

end

section
/-! SUPPORT. What a fill leaves when its read-back is sound and when it fails during a recovery, and the end of a recovery (R149, R154, R155, R160, R161). -/
namespace Sys2Proof.Machine

/-! ### Alerts alone -/

/-- t is s but for the alerts told: the Alert Unit, and the queue and drops of its frames. -/
def Told (s t : State) : Prop :=
  t = { s with alerts := t.alerts,
               ports := { s.ports with alertQueue := t.ports.alertQueue, alertDrops := t.ports.alertDrops } }

theorem Told.refl (s : State) : Told s s := rfl

theorem Told.trans {s t u : State} (h : Told s t) (k : Told t u) : Told s u := by
  unfold Told at *
  rw [k, h]

theorem raise_told (k : AlertCode) (x : Subject) (v : Option Int) (s : State) : Told s (raise k x v s) := rfl

theorem storeLowCheck_told (s : State) : Told s (storeLowCheck s) := by
  unfold storeLowCheck
  split
  · exact raise_told _ _ _ s
  · exact .refl s

section Told
variable {s t : State} (h : Told s t)
include h
theorem Told.pending : t.pending = s.pending := by rw [h]
theorem Told.power : t.power = s.power := by rw [h]
theorem Told.clock : t.clock = s.clock := by rw [h]
theorem Told.config : t.config = s.config := by rw [h]
theorem Told.pass : t.pass = s.pass := by rw [h]
theorem Told.stations : t.stations = s.stations := by rw [h]
theorem Told.comps : t.comps = s.comps := by rw [h]
theorem Told.classes : t.classes = s.classes := by rw [h]
theorem Told.route : t.route = s.route := by rw [h]
theorem Told.drops : t.drops = s.drops := by rw [h]
theorem Told.contexts : t.contexts = s.contexts := by rw [h]
theorem Told.stopCounts : t.stopCounts = s.stopCounts := by rw [h]
theorem Told.store : t.store = s.store := by rw [h]
theorem Told.claims : t.claims = s.claims := by rw [h]
theorem Told.agent : t.agent = s.agent := by rw [h]
theorem Told.array : t.array = s.array := by rw [h]
theorem Told.completions : t.completions = s.completions := by rw [h]
theorem Told.trunk : t.ports.trunk = s.ports.trunk := by rw [h]
theorem Told.field : t.ports.field = s.ports.field := by rw [h]
theorem Told.slot (i : Fin 256) : t.slot i = s.slot i := by simp only [State.slot, h.store]
theorem Told.comp (c : Fin 4) : t.comp c = s.comp c := by simp only [State.comp, h.comps]
theorem Told.now : t.now = s.now := by simp only [State.now, h.clock]
end Told

/-! ### Fills (R149, R155) -/

theorem writeRecord_other {i j : Fin 256} (h : j ≠ i) (body : RecordBody) (s : State) :
    (writeRecord i body s).slot j = s.slot j := (State.setSlot_slot s i j _).trans (if_neg h)

/-- A fill whose read-back is sound, into a reservation. -/
theorem fillCore_sound {s : State} {reads : List Bool} (hread : s.array.script = false :: reads) (i : Fin 256) (body : RecordBody) :
    fillCore i body s = { writeRecord i body s with array := { script := reads, count := s.array.count + 1 } } := by
  have hsound : ¬ (writeRecord i body s).readFails = true := by
    rw [readFails_of_script (s := writeRecord i body s) hread]; simp
  rw [fillCore, verifyFill, if_neg hsound, afterRead_of_script (s := writeRecord i body s) hread]
  rfl

theorem fillReserved_sound {s : State} {reads : List Bool} (hl : s.store.lockout = false) (hread : s.array.script = false :: reads)
    (i : Fin 256) (body : RecordBody) :
    fillReserved i body s = { writeRecord i body s with array := { script := reads, count := s.array.count + 1 } } := by
  rw [fillReserved, fillCore_sound hread]
  exact sweepClaims_unlocked hl

/-- A fill whose read-back is sound, into a FREE slot: STORE_LOW may be told besides. -/
theorem fillFree_sound {s : State} {reads : List Bool} (hl : s.store.lockout = false) (hread : s.array.script = false :: reads)
    (i : Fin 256) (body : RecordBody) :
    Told { writeRecord i body s with array := { script := reads, count := s.array.count + 1 } } (fillFree i body s) := by
  have htold := storeLowCheck_told (writeRecord i body s)
  have hscript : (storeLowCheck (writeRecord i body s)).array.script = false :: reads := by rw [htold.array]; exact hread
  have hsound : ¬ (storeLowCheck (writeRecord i body s)).readFails = true := by rw [readFails_of_script hscript]; simp
  have hopen : (storeLowCheck (writeRecord i body s)).afterRead.store.lockout = false := by
    rw [State.afterRead_store, htold.store]; exact hl
  rw [fillFree, verifyFill, if_neg hsound, sweepClaims_unlocked hopen, afterRead_of_script hscript, htold]
  rfl

/-- The slot of a record whose read-back fails, CORRUPT, with the failure counted. -/
def State.verifyFailed (s : State) (i : Fin 256) (h : RecordHeader) : State :=
  (s.afterRead.setSlot i (.corrupt h false)).updStoreCounts fun n => { n with verifyFailures := satInc max32 n.verifyFailures }

theorem verifyFill_failed {s : State} {reads : List Bool} (hread : s.array.script = true :: reads) (i : Fin 256) (h : RecordHeader) :
    verifyFill i h s = detectFault .fill i h.number h.kind (s.verifyFailed i h) := by
  rw [verifyFill, if_pos (readFails_of_script hread)]
  rfl

/-- A fill into a FREE slot whose read-back fails during a recovery: LOCKOUT, and the claims aborted (R155, R161, R178). -/
theorem fillFree_failed {s : State} {reads : List Bool} (hl : s.store.lockout = false) (hf : s.store.faultInProgress = true)
    (hread : s.array.script = true :: reads) (i : Fin 256) (body : RecordBody) :
    ∃ u, Told (writeRecord i body s) u
      ∧ fillFree i body s = abortClaims (enterLockout .fill ((u.verifyFailed i (s.fillHeader body)).faultTold .fill i)) := by
  have htold := storeLowCheck_told (writeRecord i body s)
  have hscript : (storeLowCheck (writeRecord i body s)).array.script = true :: reads := by rw [htold.array]; exact hread
  have hopen : ((storeLowCheck (writeRecord i body s)).verifyFailed i (s.fillHeader body)).store.lockout = false := by
    change (storeLowCheck (writeRecord i body s)).store.lockout = false
    rw [htold.store]; exact hl
  have hprogress : ((storeLowCheck (writeRecord i body s)).verifyFailed i (s.fillHeader body)).store.faultInProgress = true := by
    change (storeLowCheck (writeRecord i body s)).store.faultInProgress = true
    rw [htold.store]; exact hf
  refine ⟨_, htold, ?_⟩
  rw [fillFree, verifyFill_failed hscript, detectFault_second hopen hprogress]
  exact sweepClaims_locked rfl

theorem enterLockout_failed_parts (u : State) (i : Fin 256) (h : RecordHeader) :
    (enterLockout .fill ((u.verifyFailed i h).faultTold .fill i)).comps = u.comps
      ∧ (enterLockout .fill ((u.verifyFailed i h).faultTold .fill i)).drops = u.drops
      ∧ (enterLockout .fill ((u.verifyFailed i h).faultTold .fill i)).contexts = u.contexts
      ∧ (enterLockout .fill ((u.verifyFailed i h).faultTold .fill i)).claims = u.claims
      ∧ (enterLockout .fill ((u.verifyFailed i h).faultTold .fill i)).store.faultInProgress = u.store.faultInProgress := by
  simp [enterLockout, State.faultTold, State.verifyFailed]

theorem writeRecord_parts (i : Fin 256) (body : RecordBody) (s : State) :
    (writeRecord i body s).comps = s.comps ∧ (writeRecord i body s).drops = s.drops ∧ (writeRecord i body s).contexts = s.contexts
      ∧ (writeRecord i body s).claims = s.claims ∧ (writeRecord i body s).store.faultInProgress = s.store.faultInProgress :=
  ⟨rfl, rfl, rfl, rfl, rfl⟩

/-! ### The end of a recovery (R154, R160) -/

theorem recoveryDue_reached {s : State} {r : Recovery} (hr : s.store.recovery = some r) (hd : r.deadline ≤ s.now) :
    recoveryDue s = endRecovery r s := by
  simp only [recoveryDue, hr, if_pos hd]

theorem exec_recoveryEnd {s t : State} (hw : s.working = true) (h : recoveryDue s = t) : exec .recoveryEnd s = .next t :=
  next_ends hw (recoveryDue_carries _ s).ends h

end Sys2Proof.Machine
end

section
open Sys2Proof Sys2Proof.Machine

/-- Settles O23: the deadline, the lowest FREE slot and the read-back of the STORE_FAULT record decide. -/
theorem recoveryEnds : Obligations.RecoveryEnds := by
  intro s r hw hl hf hr
  refine ⟨fun hearly => exec_recoveryEnd hw (recoveryDue_early fun r' hr' => ?_), fun hd hnone => ?_, fun i reads hd hfree => ⟨fun hread => ?_,
    fun hs hread => ?_⟩⟩
  · rw [hr] at hr'; cases hr'; exact hearly
  · refine exec_recoveryEnd hw ?_
    rw [recoveryDue_reached hr hd, endRecovery, lowestFree_of_none hnone]
  · obtain ⟨body, hbody⟩ : ∃ body, body = storeFaultBody r s.store.counts.faults (s.freeCount - 1) := ⟨_, rfl⟩
    have htold := fillFree_sound hl hread i body
    have hstore := htold.store
    have hopen : (fillFree i body s).lockedOut = false := by rw [State.lockedOut, hstore]; exact hl
    have hrun := recoveryDue_reached hr hd
    simp only [endRecovery, lowestFree_of_firstFree hfree, ← hbody, hopen, Bool.false_eq_true, if_false] at hrun
    refine ⟨_, s.fillHeader body, exec_recoveryEnd hw hrun, ?_, rfl, ?_, rfl, fun j hj => ?_, ?_, rfl, rfl, ?_, ?_, ?_, ?_, ?_, ?_⟩
    · change (fillFree i body s).slot i = _
      rw [htold.slot]
      change (writeRecord i body s).slot i = _
      rw [writeRecord_slot, hbody]
      rfl
    · rw [hbody]; rfl
    · change (fillFree i body s).slot j = _
      rw [htold.slot]
      change (writeRecord i body s).slot j = _
      rw [writeRecord_other hj]
    · change (fillFree i body s).store.fillList = _
      rw [hstore]; rfl
    · change (fillFree i body s).store.lockout = _
      rw [hstore]; exact hl
    · change satInc max32 (fillFree i body s).store.counts.faultRecords = _
      rw [hstore]; rfl
    · exact htold.comps
    · exact htold.drops
    · exact htold.contexts
    · exact htold.claims
  · obtain ⟨body, hbody⟩ : ∃ body, body = storeFaultBody r s.store.counts.faults (s.freeCount - 1) := ⟨_, rfl⟩
    obtain ⟨u, htold, hfill⟩ := fillFree_failed hl hf hread i body
    obtain ⟨hlock, hrec, -, -, hprogress⟩ :=
      abortClaims_locked (enterLockout .fill ((u.verifyFailed i (s.fillHeader body)).faultTold .fill i))
    obtain ⟨hcomps, hdrops, hctx, hclaims, hfault⟩ := enterLockout_failed_parts u i (s.fillHeader body)
    obtain ⟨wcomps, wdrops, wctx, wclaims, wfault⟩ := writeRecord_parts i body s
    have hframe := abortClaims_frame (enterLockout .fill ((u.verifyFailed i (s.fillHeader body)).faultTold .fill i))
    have hlocked : (fillFree i body s).lockedOut = true := by rw [State.lockedOut, hfill, hlock]; rfl
    have hrun := recoveryDue_reached hr hd
    simp only [endRecovery, lowestFree_of_firstFree hfree, ← hbody, hlocked, if_true] at hrun
    refine ⟨_, s.fillHeader body, exec_recoveryEnd hw hrun, ?_, rfl, ?_, ?_, ?_, ?_, ?_, ?_, ?_, ?_⟩
    · rw [hfill, abortClaims_slot, if_neg]
      · exact State.setSlot_slot_self _ i _
      · have hnot := not_claimSlot hs (i := i) fun hres => by have := hfree.1; rw [hres] at this; exact absurd this (by simp [Slot.isFree])
        rw [hclaims, htold.claims, wclaims]
        exact hnot
    · rw [hbody]; rfl
    · rw [hfill, hlock]; rfl
    · rw [hfill, hprogress, hfault, htold.store, wfault, hf]
    · rw [hfill, hrec]; rfl
    · rw [hfill]; exact abortClaims_queue _
    · rw [hfill, hframe.comps, hcomps, htold.comps, wcomps]
    · rw [hfill, hframe.drops, hdrops, htold.drops, wdrops]
    · rw [hfill, hframe.contexts, hctx, htold.contexts, wctx]

end

section
/-! SUPPORT. Power: what a stop writes, what a start begins, and the check word after every command (R202 to R208). -/
namespace Sys2Proof.Machine

/-! ### The check word (R204) -/

theorem whileWorking_checks (f : State → State) {s : State} (h : s.powered = true) :
    (.next (whileWorking f s) : Host.Outcome State Fault Refusal) = .next (keepCheckWord s (f s)) := by
  rw [whileWorking, if_pos h]

theorem countTick_checks {s : State} (h : s.powered = true) : ∃ u, countTick s = keepCheckWord s u := by
  unfold countTick
  exact ⟨_, if_pos h⟩

/-- An event of power or the reset line. -/
def Instr.ofPower (c : Instr) : Prop := (∃ x, c = .powerLoss x) ∨ c = .backupSupplyLoss ∨ ∃ x, c = .deviceStart x

/-- The check word follows every command of a device with power but those of power. -/
theorem exec_checks {c : Instr} {s : State} (h : s.powered = true) (hc : ¬ Instr.ofPower c) :
    ∃ u, exec c s = .next (keepCheckWord s u) := by
  cases c
  case tick =>
    obtain ⟨u, hu⟩ := countTick_checks h
    exact ⟨u, congrArg Host.Outcome.next hu⟩
  case claimLodge asFrame m ops => cases asFrame <;> exact ⟨_, whileWorking_checks _ h⟩
  case powerLoss x => exact absurd (.inl ⟨x, rfl⟩) hc
  case backupSupplyLoss => exact absurd (.inr (.inl rfl)) hc
  case deviceStart x => exact absurd (.inr (.inr ⟨x, rfl⟩)) hc
  all_goals exact ⟨_, whileWorking_checks _ h⟩

theorem keepCheckWord_retained (old new : State) : (keepCheckWord old new).retained = new.retained := by
  rw [keepCheckWord_only]; rfl

/-! ### Stops (R204) -/

theorem losePower_powered {s : State} (h : s.powered = true) (cause : StopCause) :
    losePower cause s = match cause with
      | .mainSupply marked => { stopDevice marked s with power := { (stopDevice marked s).power with mainPower := false } }
      | .resetLine => { stopDevice true s with power := { (stopDevice true s).power with resetAsserted := true } } := by
  cases cause <;> simp only [losePower, h, if_true]

theorem losePower_stopped {s : State} (h : s.powered = false) (cause : StopCause) :
    losePower cause s = match cause with
      | .mainSupply _ => { s with power := { s.power with mainPower := false } }
      | .resetLine => { s with power := { s.power with resetAsserted := true } } := by
  cases cause <;> simp only [losePower, h, Bool.false_eq_true, if_false]

theorem losePower_retained {s : State} (h : s.powered = true) (cause : StopCause) : (losePower cause s).retained = s.retained := by
  rw [losePower_powered h]
  cases cause <;> rfl

/-! ### Starts (R205) -/

/-- A device that had stopped starts when both conditions hold. -/
theorem restorePower_starts {s : State} {cause : StartCause} (hoff : s.powered = false)
    (hon : State.powered { s with power := raisePower cause s.power } = true) :
    restorePower cause s = startDevice { s with power := raisePower cause s.power } := by
  unfold restorePower
  dsimp only
  rw [hoff, hon]
  rfl

theorem raisePower_checkAgrees (cause : StartCause) (s : State) :
    State.checkAgrees { s with power := raisePower cause s.power } = s.checkAgrees := by
  cases cause <;> rfl

/-- A device with power, or one that lacks the other condition, starts nothing. -/
theorem restorePower_starts_nothing {s : State} {cause : StartCause}
    (h : s.powered = true ∨ State.powered { s with power := raisePower cause s.power } = false) :
    restorePower cause s = { s with power := raisePower cause s.power } := by
  unfold restorePower
  dsimp only
  rcases h with h | h <;> rw [h] <;> simp

/-! ### The raise of RESUMED -/

theorem alertRoom_of_empty {s : State} (h : s.ports.alertQueue = []) : s.alertRoom = true := by
  rw [State.alertRoom, h]; rfl

/-- A raise into an empty alert queue. -/
theorem raise_alertQueue_of_empty {s : State} (h : s.ports.alertQueue = []) (k : AlertCode) (x : Subject) (v : Option Int) :
    (raise k x v s).ports.alertQueue = (if s.alertForms k then [s.alertFrame k x v] else []) := by
  change (if s.alertForms k && s.alertRoom then s.ports.alertQueue ++ [s.alertFrame k x v] else s.ports.alertQueue) = _
  rw [alertRoom_of_empty h, h, Bool.and_true]
  rfl

theorem raise_alertDrops_of_empty {s : State} (h : s.ports.alertQueue = []) (k : AlertCode) (x : Subject) (v : Option Int) :
    (raise k x v s).ports.alertDrops = s.ports.alertDrops := by
  change (if s.alertForms k && !s.alertRoom then satInc max32 s.ports.alertDrops else s.ports.alertDrops) = _
  rw [alertRoom_of_empty h]
  simp

theorem raise_alertEntry_self (k : AlertCode) (x : Subject) (v : Option Int) (s : State) :
    (raise k x v s).alertEntry k = s.alertEntryAfter k := by
  simp [raise, State.alertEntry]

theorem raise_alertEntry_other {k : AlertCode} {i : Fin 21} (h : i ≠ alertIndex k) (x : Subject) (v : Option Int) (s : State) :
    (raise k x v s).alerts.table[i] = s.alerts.table[i] := by
  simp only [raise, Fin.getElem_fin]
  exact Vector.getElem_set_ne _ _ fun e => h (Fin.ext e.symm)

end Sys2Proof.Machine
end

section
open Sys2Proof Sys2Proof.Machine

/-- Settles O57: FULL_CLEAR's checks in their order, and the two ways to a cold start. -/
theorem coldStartsClearEverything : Obligations.ColdStartsClearEverything := by
  refine ⟨fun s m ht => ?_, fun s power hlost hoff hpower => ⟨fun hreset => ?_, fun hmain => ?_⟩⟩
  · have hframe : ∀ ops : List Byte, ops.length ≤ 239 → CommandFrame (runFullClear m ops) (.fullClear m ops) := fun ops hlen =>
      commandFrame_of ht.2.1 (payload := cmdFullClear :: ops) (by simp only [List.length_cons]; omega) fun _ => rfl
    refine ⟨fun ops hne hlen => ?_, fun hon hl => ?_, fun hclear => ?_⟩
    · refine (hframe ops hlen).runs_to ht ?_ rfl
      rw [runFullClear, if_pos (by simpa using hne)]
      rfl
    · refine (hframe [] (by simp)).runs_to ht ?_ rfl
      have hgate : (s.admitted.onRoute && !s.admitted.lockedOut) = true := by
        rw [show s.admitted.onRoute = true from (onRoute_iff s).2 hon, show s.admitted.lockedOut = false from hl]; rfl
      rw [runFullClear, if_neg (by simp), if_pos hgate]
      rfl
    · have hgate : ¬ (s.admitted.onRoute && !s.admitted.lockedOut) = true := by
        rcases hclear with hoff | hl
        · rw [show s.admitted.onRoute = false from (onRoute_false_iff s).2 hoff]; simp
        · rw [show s.admitted.lockedOut = true from hl]; simp
      have hrun : runFullClear m [] s.admitted = placeClearReply m (coldStart s.admitted) := by
        rw [runFullClear, if_neg (by simp), if_neg hgate]
      rw [(hframe [] (by simp)).runs ht fun s => runFullClear_ends m [] s, hrun]
      rfl
  · have hon : State.powered { s with power := raisePower .mainSupply s.power } = true := by simp [State.powered, raisePower, hreset]
    have hstart := restorePower_starts hoff hon
    refine congrArg Host.Outcome.next (hstart.trans ?_)
    have hlost' : ¬ State.checkAgrees { s with power := raisePower .mainSupply s.power } = true := by
      rw [show State.checkAgrees { s with power := raisePower .mainSupply s.power } = false from hlost]; simp
    have hstarted : power = { raisePower .mainSupply s.power with checkDiff := 0, downValid := false } := by
      rw [hpower]; simp [raisePower, hreset]
    rw [startDevice, if_neg hlost', hstarted]
    rfl
  · have hon : State.powered { s with power := raisePower .resetLine s.power } = true := by simp [State.powered, raisePower, hmain]
    have hstart := restorePower_starts hoff hon
    refine congrArg Host.Outcome.next (hstart.trans ?_)
    have hlost' : ¬ State.checkAgrees { s with power := raisePower .resetLine s.power } = true := by
      rw [show State.checkAgrees { s with power := raisePower .resetLine s.power } = false from hlost]; simp
    have hstarted : power = { raisePower .resetLine s.power with checkDiff := 0, downValid := false } := by
      rw [hpower]; simp [raisePower, hmain]
    rw [startDevice, if_neg hlost', hstarted]
    rfl

/-- Settles O58: what a stop writes, what the check word follows, and what a warm resume loses. -/
theorem powerLossAndWarmResume : Obligations.PowerLossAndWarmResume := by
  refine ⟨fun s hp => ⟨fun marked => ?_, ?_⟩, fun s hp => ⟨fun marked => ?_, ?_⟩, fun s => ⟨s.lostDiff, s.lostDiff_ne_zero, rfl⟩,
    fun s => s.checkAgrees_iff, fun c s t hp he hne => ?_, fun s => ⟨fun h => ?_, fun h => ?_⟩, fun s cause hagrees hoff hcause => ?_⟩
  · exact congrArg Host.Outcome.next (losePower_powered hp _)
  · exact congrArg Host.Outcome.next (losePower_powered hp _)
  · exact congrArg Host.Outcome.next (losePower_stopped hp _)
  · exact congrArg Host.Outcome.next (losePower_stopped hp _)
  · by_cases hc : Instr.ofPower c
    · rcases hc with ⟨x, rfl⟩ | rfl | ⟨x, rfl⟩
      · cases he
        exact absurd (losePower_retained hp x) hne
      · cases he
        exact absurd rfl hne
      · cases he
        rw [restorePower_starts_nothing (.inl hp)] at hne
        exact absurd rfl hne
    · obtain ⟨u, hu⟩ := exec_checks hp hc
      rw [hu] at he
      cases he
      exact keepCheckWord_changed fun h => hne (by rw [keepCheckWord_retained, h])
  · refine congrArg Host.Outcome.next (restorePower_starts_nothing (h.imp_right fun hr => ?_))
    simp [State.powered, raisePower, hr]
  · refine congrArg Host.Outcome.next (restorePower_starts_nothing (h.imp_right fun hr => ?_))
    simp [State.powered, raisePower, hr]
  · have hon : State.powered { s with power := raisePower cause s.power } = true := by
      rcases hcause with ⟨rfl, hr⟩ | ⟨rfl, hr⟩ <;> simp [State.powered, raisePower, hr]
    have hrun : exec (.deviceStart cause) s = .next (warmResume { s with power := raisePower cause s.power }) := by
      have hkept : State.checkAgrees { s with power := raisePower cause s.power } = true := (raisePower_checkAgrees cause s).trans hagrees
      refine congrArg Host.Outcome.next ((restorePower_starts hoff hon).trans ?_)
      rw [startDevice, if_pos hkept]
    have hempty : (clearVolatile { s with power := raisePower cause s.power }).ports.alertQueue = [] := rfl
    have hvalid : (raisePower cause s.power).downValid = s.power.downValid := by cases cause <;> rfl
    have hdown : (raisePower cause s.power).downTime = s.power.downTime := by cases cause <;> rfl
    refine ⟨_, hrun, ?_, rfl, hdown, rfl, rfl, rfl, rfl, rfl, rfl, rfl, rfl, rfl, rfl, rfl, rfl, ?_, rfl, rfl, fun c => ?_, rfl, rfl, rfl, rfl,
      rfl, rfl, rfl, rfl, rfl, ?_, rfl, rfl, rfl, rfl, fun k hk => ?_, ?_⟩
    · have hkept : State.checkAgrees { s with power := raisePower cause s.power } = true := (raisePower_checkAgrees cause s).trans hagrees
      exact (State.working_iff _).2 ⟨hon, hkept⟩
    · refine (raise_alertQueue_of_empty hempty .resumed .part (State.outage { s with power := raisePower cause s.power })).trans ?_
      rw [State.outage, hvalid, hdown]
      rfl
    · exact clearVolatile_comp { s with power := raisePower cause s.power } c
    · exact raise_alertDrops_of_empty hempty .resumed .part (State.outage { s with power := raisePower cause s.power })
    · exact raise_alertEntry_other hk .part (State.outage { s with power := raisePower cause s.power }) (clearVolatile { s with power := raisePower cause s.power })
    · refine (raise_alertEntry_self .resumed .part (State.outage { s with power := raisePower cause s.power })
        (clearVolatile { s with power := raisePower cause s.power })).trans ?_
      rw [State.alertEntryAfter, alertRoom_of_empty hempty, Bool.and_true]
      rfl

end

section
/-! SUPPORT. The closing of a stop that resolves no compartment, the deadlines that bring it, and ROUTE_CLOSE (R91, R116, R133, R135, R136). -/
namespace Sys2Proof.Machine

/-! ### A gated command carried out -/

/-- A gated command that is carried out is answered DONE on what its judgement makes of the state. -/
theorem gated_done {i : Instr} {code marks : Byte} {m : CmdHdr} {judge : State → Judged} {data : List Byte} {s t : State}
    (hframe : CommandFrame (runGated code m judge) i) (h : s.serves m)
    (hup : ∀ s x, judge s = .ok x → Upholds (s.onRoute = true) 0 s x.2.2 ∧ StoreEvent s x.2.2)
    (hj : judge s.admitted = .ok (marks, data, t)) : exec i s = .next (answer code m (.done marks data) t) := by
  obtain ⟨ht, hl⟩ := h
  rw [hframe.runs ht fun s => (runGated_carries (fun _ x hx => hup s x hx) _ _).ends, runGated_serves hl, hj]
  rfl

theorem gated_refused {i : Instr} {code : Byte} {m : CmdHdr} {judge : State → Judged} {s : State} {r : MgmtReason}
    (hframe : CommandFrame (runGated code m judge) i) (h : s.serves m) (hj : judge s.admitted = .error r) :
    exec i s = .next (s.refusedBy code m r) := by
  obtain ⟨ht, hl⟩ := h
  exact hframe.runs_to ht (by rw [runGated_serves hl, hj]; rfl) rfl

theorem answer_done_replies (code : Byte) (m : CmdHdr) (marks : Byte) (data : List Byte) (s : State) :
    (answer code m (.done marks data) s).ports.trunk.replies
      = s.ports.trunk.replies ++ [originate m.src typMgmtReply ([code, m.seq, 0, marks] ++ data)] := rfl

/-! ### The closing of a stop (R136) -/

theorem reportAbandoned_told (x : Context) (T : Nat) (s : State) :
    ∃ u, Told s u ∧ reportAbandoned x T s = { u with stopCounts := (reportAbandoned x T s).stopCounts } := by
  unfold reportAbandoned
  split
  · exact ⟨_, raise_told .stopAbandoned (.drop x.drop) (some (T - x.arrival : Nat)) s, rfl⟩
  · exact ⟨s, .refl s, rfl⟩

theorem reportAbandoned_fixed {x : Context} (h : x.outcome ≠ none) (T : Nat) (s : State) : reportAbandoned x T s = s := by
  rw [reportAbandoned, if_neg (by simpa using h)]

/-- A closing at T of compartments that do not stand at T resolves none. -/
theorem resolveAtClosing_plain {x : Context} {T : Nat} {s : State} (h : ∀ k ∈ x.comps, (s.comp k.comp).window.committed ≠ T) :
    resolveAtClosing x T s = s := by
  have hfold : ∀ l : List (Fin 4), (∀ c ∈ l, (s.comp c).window.committed ≠ T) →
      l.foldl (fun s c => if (s.comp c).window.committed = T then resolveAt c T s else s) s = s := by
    intro l
    induction l with
    | nil => exact fun _ => rfl
    | cons c cs ih =>
      intro hl
      rw [List.foldl_cons, if_neg (hl c List.mem_cons_self)]
      exact ih fun d hd => hl d (List.mem_cons_of_mem _ hd)
  refine hfold _ fun c hc => ?_
  obtain ⟨k, hk, rfl⟩ := List.mem_map.1 hc
  exact h k hk

/-- The stop of drop n closed at T, before the report of an abandoned one and the resolving. -/
def State.stopClosed (s : State) (n T : Nat) : State := s.withStop n closeDrop (endedAt T)

theorem closeStop_plainly {s : State} {n : Nat} {x : Context} (h : s.closesPlainly n x) :
    closeStop n s.now s = reportAbandoned x s.now (s.stopClosed n s.now) := by
  obtain ⟨hfind, -, hcomps⟩ := h
  obtain ⟨u, htold, hreport⟩ := reportAbandoned_told x s.now (s.stopClosed n s.now)
  have hplain : ∀ k ∈ x.comps, ((reportAbandoned x s.now (s.stopClosed n s.now)).comp k.comp).window.committed ≠ s.now := fun k hk => by
    rw [hreport]
    change (u.comp k.comp).window.committed ≠ s.now
    rw [htold.comp]
    exact hcomps k hk
  rw [closeStop, hfind]
  exact resolveAtClosing_plain hplain

theorem closeDrop_settles (d : Drop) :
    (if d.state = .handingOver then closeDrop d else { d with state := .settling }) = closeDrop d := by
  unfold closeDrop
  split <;> rfl

theorem closeLive_live {s : State} {d : Drop} (h : s.liveDrop = some d) (T : Nat) : closeLive T s = closeStop d.number T s := by
  rw [closeLive, h]

theorem closeLive_none {s : State} (h : s.liveDrop = none) (T : Nat) : closeLive T s = s := by rw [closeLive, h]

/-! ### Deadlines (R91, R133, R135) -/

theorem exec_idleDeadline {s t : State} (hw : s.working = true) (h : expireIdle s = t) : exec .idleDeadlineExpiry s = .next t :=
  next_ends hw (expireIdle_carries _ s).ends h

theorem exec_departureDeadline {s t : State} (hw : s.working = true) (h : expireDeparture s = t) :
    exec .departureDeadlineExpiry s = .next t := next_ends hw (expireDeparture_carries _ s).ends h

theorem exec_openingDeadline {s t : State} {c : Fin 4} {p : Fin 2} (hw : s.working = true) (h : expireOpening c p s = t) :
    exec (.openingDeadlineExpiry c p) s = .next t := next_ends hw (expireOpening_carries _ c p s).ends h

theorem deadlineReached_some (now t : Nat) : deadlineReached now (some t) = decide (t ≤ now) := rfl

/-- The idle deadline of the drop that is being handed over. -/
theorem expireIdle_handingOver {s : State} {d : Drop} {x : Context} {t0 : Nat} (hl : s.store.lockout = false) (hlive : s.liveDrop = some d)
    (hst : d.state = .handingOver) (hx : s.findContext d.number = some x) (hd : x.idleDeadline = some t0) :
    expireIdle s = if t0 ≤ s.now then
        (raise .handoverTimeout (.drop d.number) (d.owner.map fun a => Int.ofNat a.toNat) (endHandover d.number s)).updStopCounts
          fun n => { n with handoverTimeouts := satInc max32 n.handoverTimeouts }
      else s := by
  have hopen : ¬ s.lockedOut = true := by simp [State.lockedOut, hl]
  rw [expireIdle, if_neg hopen, hlive]
  simp only [hst, hx, hd, Option.any_some, deadlineReached_some, decide_eq_true_eq, true_and]

/-- The departure deadline of the drop that was handed over. -/
theorem expireDeparture_handedOver {s : State} {d : Drop} {x : Context} {t0 : Nat} (hl : s.store.lockout = false)
    (hlive : s.liveDrop = some d) (hst : d.state = .handedOver) (hx : s.findContext d.number = some x) (hd : x.departDeadline = some t0) :
    expireDeparture s = if t0 ≤ s.now then closeStop d.number s.now s else s := by
  have hopen : ¬ s.lockedOut = true := by simp [State.lockedOut, hl]
  rw [expireDeparture, if_neg hopen, hlive]
  simp only [hst, hx, hd, Option.any_some, deadlineReached_some, decide_eq_true_eq, true_and]

theorem expireOpening_live {s : State} {c : Fin 4} {p : Fin 2} {t0 r : Nat} (hd : (s.comp c).doors[p].deadline = some t0)
    (ho : (s.comp c).doors[p].opening = some r) :
    expireOpening c p s = if t0 ≤ s.now then raise .doorOpenLong (.door c p) (some (s.now - r : Nat))
        (s.updDoor c p fun x => { x with deadline := none, longOpenings := satInc max16 x.longOpenings }) else s := by
  simp only [expireOpening, hd, ho]

/-! ### ROUTE_CLOSE (R116) -/

theorem routeClose_frame {m : CmdHdr} (hs : sourceOk m.src = true) :
    CommandFrame (runGated cmdRouteClose m (judgeRouteClose [])) (.routeClose m []) :=
  commandFrame_of hs (payload := [cmdRouteClose]) (by simp) fun _ => rfl

theorem judgeRouteClose_empty (s : State) :
    judgeRouteClose [] s = if s.route.state ≠ .opened then .error .state
      else if s.drops.any fun d => d.state == .handingOver then .error .state
      else .ok (markNone, beBytes 4 s.now, closeRoute s) := rfl

end Sys2Proof.Machine
end

section
open Sys2Proof Sys2Proof.Machine

/-- Settles O22: each deadline is judged against part time, and acts as its operation does. -/
theorem deadlinesExpire : Obligations.DeadlinesExpire := by
  refine ⟨fun s d x t0 hw hl hlive hst hx hd => ?_, fun s d x t0 hw hl hlive hst hplain hd => ?_, fun s c p t0 r hw hd ho => ?_⟩
  · have hexpire := expireIdle_handingOver hl hlive hst hx hd
    refine ⟨fun hreached => exec_idleDeadline hw (hexpire.trans ?_), fun hearly => exec_idleDeadline hw (hexpire.trans (if_neg (by omega)))⟩
    rw [if_pos hreached]
    rfl
  · have hexpire := expireDeparture_handedOver hl hlive hst hplain.1 hd
    refine ⟨fun hreached hfixed => exec_departureDeadline hw (hexpire.trans ?_),
      fun hearly => exec_departureDeadline hw (hexpire.trans (if_neg (by omega)))⟩
    rw [if_pos hreached, closeStop_plainly hplain, reportAbandoned_fixed hfixed, funext closeDrop_settles]
    rfl
  · have hexpire := expireOpening_live hd ho
    exact ⟨fun hreached => exec_openingDeadline hw (hexpire.trans (if_pos hreached)),
      fun hearly => exec_openingDeadline hw (hexpire.trans (if_neg (by omega)))⟩

/-- Settles O52: the route state and the drops decide, and a live stop closes with the route. -/
theorem routeCloseBeginsClosing : Obligations.RouteCloseBeginsClosing := by
  intro s m h
  have hframe := routeClose_frame h.1.2.1
  refine ⟨fun hbad => gated_refused hframe h ?_, fun hopen hnone => ?_⟩
  · rw [judgeRouteClose_empty]
    rcases hbad with hst | ⟨d, hd, hst⟩
    · exact if_pos hst
    · have hany : (s.admitted.drops.any fun d => d.state == .handingOver) = true := List.any_eq_true.2 ⟨d, hd, by simp [hst]⟩
      rw [hany]
      exact ite_self _
  · have hany : ¬ (s.admitted.drops.any fun d => d.state == .handingOver) = true := fun hany => by
      obtain ⟨d, hd, hst⟩ := List.any_eq_true.1 hany
      exact hnone d hd (by simpa using hst)
    have hexec : exec (.routeClose m []) s = .next (answer cmdRouteClose m (.done 0 (beBytes 4 s.now)) (closeRoute s.admitted)) := by
      refine gated_done hframe h (fun s x hx => judgeRouteClose_upholds _ hx) ?_
      rw [judgeRouteClose_empty, if_neg (by simpa using hopen), if_neg hany]
      rfl
    rw [closeRoute_eq] at hexec
    refine ⟨fun hlive => ?_, fun l x hlive hplain => ?_⟩
    · rw [hexec, closeLive_none (s := s.admitted.closesNow) hlive]
      rfl
    · have hplain' : s.admitted.closesNow.closesPlainly l.number x := hplain
      have hclose : closeLive s.admitted.now s.admitted.closesNow
          = reportAbandoned x s.now (s.admitted.closesNow.stopClosed l.number s.now) := by
        rw [closeLive_live (s := s.admitted.closesNow) hlive]
        exact closeStop_plainly hplain'
      obtain ⟨u, htold, hreport⟩ := reportAbandoned_told x s.now (s.admitted.closesNow.stopClosed l.number s.now)
      rw [hreport] at hclose
      rw [hclose] at hexec
      refine ⟨_, hexec, ?_, ?_, ?_, ?_, ?_, ?_, ?_, ?_⟩
      · exact congrArg (fun r : Route => { r with state := .closing }) htold.route
      · refine htold.drops.trans (List.map_congr_left fun d hd => ?_)
        split
        · rw [← closeDrop_settles, if_neg (hnone d hd)]
        · rfl
      · exact htold.contexts
      · exact htold.comps
      · exact htold.store
      · exact htold.claims
      · exact htold.stations
      · have hreplies : u.ports.trunk.replies = s.ports.trunk.replies := by rw [htold.trunk]; rfl
        rw [answer_done_replies]
        exact congrArg (· ++ [originate m.src typMgmtReply ([cmdRouteClose, m.seq, 0, 0] ++ beBytes 4 s.now)]) hreplies

end

section
/-! SUPPORT. MANIFEST_LOAD: the checks of a load in their order, the drop it enters or replaces, and the two parts (R111, R112, R148). -/
namespace Sys2Proof.Machine

/-! ### A drop put into the manifest -/

theorem find_insertDrop_other {d : Drop} {n : Nat} (h : n ≠ d.number) (l : List Drop) :
    (insertDrop d l).find? (·.number = n) = l.find? (·.number = n) := by
  have hd : ¬ decide (d.number = n) = true := by simpa using Ne.symm h
  induction l with
  | nil => simp [insertDrop, Ne.symm h]
  | cons x xs ih =>
    unfold insertDrop
    split
    · exact List.find?_cons_of_neg hd
    · rw [List.find?_cons, List.find?_cons, ih]

theorem find_insertDrop_self {d : Drop} {l : List Drop} (h : l.find? (·.number = d.number) = none) :
    (insertDrop d l).find? (·.number = d.number) = some d := by
  induction l with
  | nil => simp [insertDrop]
  | cons x xs ih =>
    have hx : ¬ decide (x.number = d.number) = true := List.find?_eq_none.1 h x List.mem_cons_self
    have hrest : xs.find? (·.number = d.number) = none := by rwa [List.find?_cons, decide_eq_false (by simpa using hx)] at h
    unfold insertDrop
    split
    · simp
    · rw [List.find?_cons, decide_eq_false (by simpa using hx)]
      exact ih hrest

theorem storeLowCheck_admitted (s : State) : storeLowCheck s.admitted = (storeLowCheck s).admitted := by
  have hcount : s.admitted.freeCount = s.freeCount := rfl
  unfold storeLowCheck
  rw [hcount]
  split <;> rfl

theorem reserveSlot_admitted (i : Fin 256) (s : State) : reserveSlot i s.admitted = (reserveSlot i s).admitted :=
  storeLowCheck_admitted (s.setSlot i .reserved)

theorem reserveSlot_told (i : Fin 256) (s : State) : Told (s.setSlot i .reserved) (reserveSlot i s) := storeLowCheck_told _

/-- The state with a load entered as a new drop, on slot i (R112, R148). -/
def State.loaded (s : State) (l : StagedPart) (i : Fin 256) : State := (reserveSlot i s).withDrop (newDrop l i)

theorem loaded_admitted (s : State) (l : StagedPart) (i : Fin 256) : s.admitted.loaded l i = (s.loaded l i).admitted := by
  rw [State.loaded, reserveSlot_admitted]
  rfl

theorem loaded_find {s : State} {l : StagedPart} (h : s.findDrop l.number = none) (i : Fin 256) (n : Nat) :
    (s.loaded l i).findDrop n = if n = l.number then some (newDrop l i) else s.findDrop n := by
  have hdrops : (s.loaded l i).drops = insertDrop (newDrop l i) s.drops := by
    simp only [State.loaded, State.withDrop, (reserveSlot_told i s).drops, State.setSlot_drops]
  rw [State.findDrop, hdrops]
  split
  · next hn =>
    subst hn
    exact find_insertDrop_self (d := newDrop l i) h
  · next hn => exact find_insertDrop_other (d := newDrop l i) hn _

theorem loaded_slot (s : State) (l : StagedPart) (i j : Fin 256) :
    (s.loaded l i).slot j = if j = i then .reserved else s.slot j := by
  change (reserveSlot i s).slot j = _
  rw [(reserveSlot_told i s).slot, State.setSlot_slot]

theorem loaded_parts (s : State) (l : StagedPart) (i : Fin 256) :
    (s.loaded l i).store.fillList = s.store.fillList ∧ (s.loaded l i).comps = s.comps ∧ (s.loaded l i).contexts = s.contexts
      ∧ (s.loaded l i).route = s.route ∧ (s.loaded l i).claims = s.claims ∧ (s.loaded l i).power = s.power := by
  have htold := reserveSlot_told i s
  refine ⟨?_, htold.comps, htold.contexts, htold.route, htold.claims, htold.power⟩
  change (reserveSlot i s).store.fillList = _
  rw [htold.store]
  rfl

/-! ### The judgement of a load (R111) -/

section Load
variable {s : State} {l : StagedPart} (hst : s.route.state ≠ .closing) (hitems : l.items ≠ []) (hrange : loadInRange l = true)
  (hagrees : s.loadAgrees l = true) (hroom : s.itemsHeld + l.items.length ≤ 512)
include hst hitems hrange hagrees hroom

/-- A load that passes the checks before the last comes to its effect. -/
theorem judgeLoad_passes (hload : s.loadable l.number = true) :
    judgeLoad l s = (loadDrop l s).elim (.error .noSlot) fun t => .ok (markNone, [], t) := by
  have hopen : ¬ (s.route.state = .closing ∨ s.loadable l.number = false) := by simp [hst, hload]
  have hfits : ¬ s.poolFree + s.replacedItems l.number < l.items.length := by
    have : s.poolFree = 512 - s.itemsHeld := rfl
    omega
  have hempty : ¬ l.items.isEmpty = true := by simpa using hitems
  rw [judgeLoad, if_neg hopen, if_neg hempty, if_neg (by simp [hrange]), if_neg (by simp [hagrees]), if_neg hfits]
  cases loadDrop l s <;> rfl

theorem judgeLoad_new {i : Fin 256} (hnone : s.findDrop l.number = none) (hfree : s.firstFree i) :
    judgeLoad l s = .ok (markNone, [], s.loaded l i) := by
  have hload : loadDrop l s = some (s.loaded l i) := by
    simp only [loadDrop, hnone, lowestFree_of_firstFree hfree]
    rfl
  rw [judgeLoad_passes hst hitems hrange hagrees hroom (by simp only [State.loadable, hnone]), hload]
  rfl

theorem judgeLoad_replaces {d : Drop} (hd : s.findDrop l.number = some d) (hplanned : d.state = .planned) :
    judgeLoad l s = .ok (markNone, [], s.updDrop l.number (replaceDrop l)) := by
  have hload : loadDrop l s = some (s.updDrop l.number (replaceDrop l)) := by simp only [loadDrop, hd]
  rw [judgeLoad_passes hst hitems hrange hagrees hroom (by simp [State.loadable, hd, hplanned]), hload]
  rfl

end Load

/-- The first check that a load fails refuses it (R111). -/
theorem judgeLoad_refused {s : State} {l : StagedPart} {r : MgmtReason} (h : s.refusesLoad l r) : judgeLoad l s = .error r := by
  have hpool : s.poolFree = 512 - s.itemsHeld := rfl
  unfold State.refusesLoad at h
  unfold judgeLoad
  split at h
  · next hst => rw [if_pos hst, h]
  · next hst =>
    rw [if_neg hst]
    split at h
    · next hitems => rw [if_pos (by simp [hitems]), h]
    · next hitems =>
      rw [if_neg (by simpa using hitems)]
      split at h
      · next hrange => rw [if_pos (by simp [hrange]), h]
      · next hrange =>
        rw [if_neg (by simpa using hrange)]
        split at h
        · next hagrees => rw [if_pos (by simp [hagrees]), h]
        · next hagrees =>
          rw [if_neg (by simpa using hagrees)]
          split at h
          · next hroom => rw [hpool, if_pos hroom, h]
          · next hroom =>
            obtain ⟨hnone, hfull, rfl⟩ := h
            rw [hpool, if_neg hroom]
            simp only [loadDrop, hnone, lowestFree_of_none hfull]

/-! ### The three forms (R111, R112) -/

/-- A gated command carried out, its effect said of the state before the command was admitted. -/
theorem gated_doneBy {i : Instr} {code marks : Byte} {m : CmdHdr} {judge : State → Judged} {data : List Byte} {s t : State}
    (hframe : CommandFrame (runGated code m judge) i) (h : s.serves m)
    (hup : ∀ s x, judge s = .ok x → Upholds (s.onRoute = true) 0 s x.2.2 ∧ StoreEvent s x.2.2)
    (hj : judge s.admitted = .ok (marks, data, t.admitted)) : exec i s = .next (t.doneBy code m marks data) :=
  gated_done hframe h hup hj

theorem loadSingle_frame {m : CmdHdr} {ops : List Byte} (hs : sourceOk m.src = true) (hlen : ops.length ≤ 238) :
    CommandFrame (runGated cmdManifestLoad m (judgeLoadSingle ops)) (.manifestLoadSingle m ops) :=
  commandFrame_of hs (payload := cmdManifestLoad :: 0 :: ops) (by simp only [List.length_cons]; omega) fun _ => rfl

theorem loadPartOne_frame {m : CmdHdr} {ops : List Byte} (hs : sourceOk m.src = true) (hlen : ops.length ≤ 238) :
    CommandFrame (runGated cmdManifestLoad m (judgeLoadPartOne ops)) (.manifestLoadPartOne m ops) :=
  commandFrame_of hs (payload := cmdManifestLoad :: 1 :: ops) (by simp only [List.length_cons]; omega) fun _ => rfl

theorem loadPartTwo_frame {m : CmdHdr} {ops : List Byte} (hs : sourceOk m.src = true) (hlen : ops.length ≤ 238) :
    CommandFrame (runLoadPartTwo m ops) (.manifestLoadPartTwo m ops) :=
  commandFrame_of hs (payload := cmdManifestLoad :: 2 :: ops) (by simp only [List.length_cons]; omega) fun _ => rfl

theorem judgeLoadSingle_some {ops : List Byte} {l : StagedPart} (h : parseLoadSingle ops = some l) (s : State) :
    judgeLoadSingle ops s = judgeLoad l s := by simp only [judgeLoadSingle, h]

/-- Part two is judged on the state without the staged part, and answered there (R111). -/
theorem exec_loadPartTwo {s t : State} {m : CmdHdr} {ops : List Byte} (h : s.serves m) (hlen : ops.length ≤ 238)
    (hj : settle cmdManifestLoad m (judgeLoadPartTwo s.route.staged ops (dropStaged s).admitted) (dropStaged s).admitted = t)
    (hp : t.power = s.power) : exec (.manifestLoadPartTwo m ops) s = .next t := by
  refine (loadPartTwo_frame h.1.2.1 hlen).runs_to h.1 ?_ hp
  have hopen : ¬ s.admitted.lockedOut = true := by simp [h.2]
  rw [runLoadPartTwo, gated, if_neg hopen]
  exact hj

theorem judgeLoadPartTwo_some {staged : Option StagedPart} {ops : List Byte} {l : StagedPart}
    (h : joinParts staged (parseLoadTwo ops) = some l) (s : State) : judgeLoadPartTwo staged ops s = judgeLoad l s := by
  simp only [judgeLoadPartTwo, h]

theorem judgeLoadPartTwo_none {staged : Option StagedPart} {ops : List Byte} (h : joinParts staged (parseLoadTwo ops) = none)
    (s : State) : judgeLoadPartTwo staged ops s = .error .malformed := by
  simp only [judgeLoadPartTwo, h]

end Sys2Proof.Machine
end

section
open Sys2Proof Sys2Proof.Machine

/-- Settles O49: the checks of a load, its effect on the state with or without the staged part, and the staging. -/
theorem manifestLoadsEnterDrop : Obligations.ManifestLoadsEnterDrop := by
  intro s m ops l h hlen
  have hs := h.1.2.1
  refine ⟨fun hparse => ?_, fun hjoin => ?_, fun hst hitems hrange hagrees => ⟨fun i hnone hroom hfree => ⟨fun hparse => ?_, fun hjoin => ?_⟩,
    fun d hd hplanned hparse hroom => ?_⟩, fun hparse => ?_, fun hparse => ?_, fun r hr => ⟨fun hparse => ?_, fun hjoin => ?_⟩⟩
  · refine gated_doneBy (loadPartOne_frame hs hlen) h (fun s x hx => judgeLoadPartOne_upholds _ hx) ?_
    rw [judgeLoadPartOne, hparse]
    rfl
  · refine exec_loadPartTwo h hlen ?_ rfl
    rw [judgeLoadPartTwo_none hjoin]
    rfl
  · have hjudge := judgeLoad_new (s := s.admitted) hst hitems hrange hagrees hroom hnone hfree
    rw [loaded_admitted] at hjudge
    obtain ⟨hlist, hcomps, hctx, hroute, hclaims, -⟩ := loaded_parts s l i
    refine ⟨s.loaded l i, gated_doneBy (loadSingle_frame hs hlen) h (fun s x hx => judgeLoadSingle_upholds _ hx)
      ((judgeLoadSingle_some hparse _).trans hjudge), ?_, fun n hn => ?_, ?_, fun j hj => ?_, hlist, hcomps, hctx, hroute, hclaims⟩
    · rw [loaded_find hnone, if_pos rfl]
      rfl
    · rw [loaded_find hnone, if_neg hn]
    · rw [loaded_slot, if_pos rfl]
    · rw [loaded_slot, if_neg hj]
  · have hjudge := judgeLoad_new (s := (dropStaged s).admitted) hst hitems hrange hagrees hroom hnone hfree
    rw [loaded_admitted] at hjudge
    obtain ⟨hlist, hcomps, hctx, hroute, hclaims, hpower⟩ := loaded_parts (dropStaged s) l i
    have hnone' : (dropStaged s).findDrop l.number = none := hnone
    refine ⟨(dropStaged s).loaded l i, exec_loadPartTwo h hlen ?_ hpower, ?_, fun n hn => ?_, ?_, fun j hj => ?_, hlist, hcomps, hctx, hroute,
      hclaims⟩
    · rw [judgeLoadPartTwo_some hjoin, hjudge]
      rfl
    · rw [loaded_find hnone', if_pos rfl]
      rfl
    · rw [loaded_find hnone', if_neg hn]
      rfl
    · rw [loaded_slot, if_pos rfl]
    · rw [loaded_slot, if_neg hj]
      rfl
  · have hjudge := judgeLoad_replaces (s := s.admitted) hst hitems hrange hagrees hroom hd hplanned
    exact gated_doneBy (loadSingle_frame hs hlen) h (fun s x hx => judgeLoadSingle_upholds _ hx) ((judgeLoadSingle_some hparse _).trans hjudge)
  · refine gated_refused (loadSingle_frame hs hlen) h ?_
    rw [judgeLoadSingle, hparse]
  · refine gated_refused (loadPartOne_frame hs hlen) h ?_
    rw [judgeLoadPartOne, hparse]
  · exact gated_refused (loadSingle_frame hs hlen) h ((judgeLoadSingle_some hparse _).trans (judgeLoad_refused (s := s.admitted) hr))
  · have hr' : (dropStaged s).admitted.refusesLoad l r := hr
    refine exec_loadPartTwo h hlen ?_ rfl
    rw [judgeLoadPartTwo_some hjoin, judgeLoad_refused hr']
    rfl

end

section
/-! SUPPORT. What charging, the evaluation of Tg and the retirement of an event make of one compartment, and that they touch nothing else but the alerts (R53, R67 to R74, R76 to R81, R94, R96). -/
namespace Sys2Proof.Machine

/-! ### One compartment and the alerts alone -/

/-- t is s but for the compartments and the alerts told. -/
def Accounted (s t : State) : Prop :=
  t = { s with comps := t.comps, alerts := t.alerts,
               ports := { s.ports with alertQueue := t.ports.alertQueue, alertDrops := t.ports.alertDrops } }

theorem Accounted.refl (s : State) : Accounted s s := rfl

theorem Accounted.trans {s t u : State} (h : Accounted s t) (k : Accounted t u) : Accounted s u := by
  unfold Accounted at *
  rw [k, h]

theorem Told.accounted {s t : State} (h : Told s t) : Accounted s t := by
  unfold Accounted
  rw [h]

section Accounted
variable {s t : State} (h : Accounted s t)
include h
theorem Accounted.power : t.power = s.power := by rw [h]
theorem Accounted.clock : t.clock = s.clock := by rw [h]
theorem Accounted.config : t.config = s.config := by rw [h]
theorem Accounted.stations : t.stations = s.stations := by rw [h]
theorem Accounted.classes : t.classes = s.classes := by rw [h]
theorem Accounted.route : t.route = s.route := by rw [h]
theorem Accounted.drops : t.drops = s.drops := by rw [h]
theorem Accounted.contexts : t.contexts = s.contexts := by rw [h]
theorem Accounted.store : t.store = s.store := by rw [h]
theorem Accounted.claims : t.claims = s.claims := by rw [h]
theorem Accounted.array : t.array = s.array := by rw [h]
theorem Accounted.completions : t.completions = s.completions := by rw [h]
theorem Accounted.trunk : t.ports.trunk = s.ports.trunk := by rw [h]
theorem Accounted.slot (i : Fin 256) : t.slot i = s.slot i := by simp only [State.slot, h.store]
theorem Accounted.now : t.now = s.now := by simp only [State.now, h.clock]
theorem Accounted.unlocked (hl : s.store.lockout = false) : ¬ t.lockedOut = true := by simp [State.lockedOut, h.store, hl]
end Accounted

/-- t is s but for compartment c and the alerts told. -/
structure AtComp (c : Fin 4) (s t : State) : Prop where
  accounted : Accounted s t
  others : ∀ k, k ≠ c → t.comp k = s.comp k

theorem AtComp.refl (c : Fin 4) (s : State) : AtComp c s s := ⟨.refl s, fun _ _ => rfl⟩

theorem AtComp.trans {c : Fin 4} {s t u : State} (h : AtComp c s t) (k : AtComp c t u) : AtComp c s u :=
  ⟨h.accounted.trans k.accounted, fun i hi => (k.others i hi).trans (h.others i hi)⟩

theorem raise_at (c : Fin 4) (k : AlertCode) (x : Subject) (v : Option Int) (s : State) : AtComp c s (raise k x v s) :=
  ⟨(raise_told k x v s).accounted, fun _ _ => rfl⟩

theorem updComp_at (c : Fin 4) (f : Comp → Comp) (s : State) : AtComp c s (s.updComp c f) :=
  ⟨rfl, fun k hk => by rw [State.updComp_comp, if_neg hk]⟩

/-- What is done at c on a state with other contexts. -/
theorem AtComp.withContexts {c : Fin 4} {s t : State} (h : AtComp c s t) (l : List Context) :
    AtComp c { s with contexts := l } { t with contexts := l } := by
  obtain ⟨haccounted, hothers⟩ := h
  refine ⟨?_, hothers⟩
  unfold Accounted at haccounted ⊢
  rw [haccounted]

/-! ### Tg (R67, R76 to R80) -/

/-- The account after Tg is evaluated at x (R67). -/
def evaluated (q : Profile) (a : Account) (x : Nat) : Account :=
  if governing q.freshness a.readings x = a.tg then a
  else (governing q.freshness a.readings x).elim (accountTgNone a) fun t => accountTgValue q a t x

theorem evaluated_tg (q : Profile) (a : Account) (x : Nat) : (evaluated q a x).tg = governing q.freshness a.readings x := by
  unfold evaluated
  split
  · next h => exact h.symm
  · cases governing q.freshness a.readings x <;> rfl

/-- An evaluation of Tg leaves the readings and what has been charged. -/
theorem evaluated_charges (q : Profile) (a : Account) (x : Nat) :
    (evaluated q a x).readings = a.readings ∧ (evaluated q a x).e = a.e ∧ (evaluated q a x).p = a.p ∧ (evaluated q a x).h = a.h
      ∧ (evaluated q a x).gap = a.gap := by
  unfold evaluated
  split
  · exact ⟨rfl, rfl, rfl, rfl, rfl⟩
  · cases governing q.freshness a.readings x <;> exact ⟨rfl, rfl, rfl, rfl, rfl⟩

theorem setTg_none (c : Fin 4) (x : Nat) (s : State) :
    AtComp c s (setTg c x none s) ∧ (setTg c x none s).comp c = { s.comp c with account := accountTgNone (s.comp c).account } := by
  refine ⟨(updComp_at c _ s).trans (raise_at c _ _ _ _), ?_⟩
  change (s.updAccount c accountTgNone).comp c = _
  exact State.updComp_comp_self s c _

theorem setTg_some (c : Fin 4) (x : Nat) (t : Int) (s : State) :
    AtComp c s (setTg c x (some t) s)
      ∧ (setTg c x (some t) s).comp c
          = { s.comp c with account := accountTgValue (s.comp c).profile (s.comp c).account t x } := by
  have hupd := updComp_at c (fun k => { k with account := accountTgValue (s.comp c).profile k.account t x }) s
  have hcomp : (s.updAccount c fun a => accountTgValue (s.comp c).profile a t x).comp c
      = { s.comp c with account := accountTgValue (s.comp c).profile (s.comp c).account t x } := State.updComp_comp_self s c _
  unfold setTg
  dsimp only
  split
  · exact ⟨hupd, hcomp⟩
  · exact ⟨hupd.trans (raise_at c _ _ _ _), hcomp⟩

theorem evalTg_at (c : Fin 4) (x : Nat) (s : State) :
    AtComp c s (evalTg c x s)
      ∧ (evalTg c x s).comp c = { s.comp c with account := evaluated (s.comp c).profile (s.comp c).account x } := by
  unfold evalTg evaluated
  dsimp only
  split
  · exact ⟨.refl c s, rfl⟩
  · cases governing (s.comp c).profile.freshness (s.comp c).account.readings x with
    | none => exact setTg_none c x s
    | some t => exact setTg_some c x t s

/-! ### Charging (R70 to R74, R81, R96) -/

/-- The account after x EU are added into E, with the alarm budget checked (R74, R81). -/
def breached (q : Profile) (a : Account) (x : Nat) : Account :=
  if budgetReached q (addToE a x) then { addToE a x with budgetFlag := true } else addToE a x

theorem breached_charges (q : Profile) (a : Account) (x : Nat) :
    (breached q a x).readings = a.readings ∧ (breached q a x).tg = a.tg ∧ (breached q a x).e = satAdd max32 a.e x
      ∧ (breached q a x).p = a.p ∧ (breached q a x).h = a.h ∧ (breached q a x).gap = a.gap := by
  unfold breached
  split <;> exact ⟨rfl, rfl, rfl, rfl, rfl, rfl⟩

theorem addBreach_at (c : Fin 4) (x : Nat) (s : State) :
    AtComp c s (addBreach c x s)
      ∧ (addBreach c x s).comp c = { s.comp c with account := breached (s.comp c).profile (s.comp c).account x } := by
  have hcomp : (s.updAccount c fun a => addToE a x).comp c = { s.comp c with account := addToE (s.comp c).account x } :=
    State.updComp_comp_self s c _
  have hupd : AtComp c s (s.updAccount c fun a => addToE a x) := updComp_at c _ s
  unfold addBreach breached
  dsimp only
  rw [hcomp]
  split
  · refine ⟨(hupd.trans (updComp_at c _ _)).trans (raise_at c _ _ _ _), ?_⟩
    change ((s.updAccount c fun a => addToE a x).updAccount c fun a => { a with budgetFlag := true }).comp c = _
    rw [State.updAccount, State.updComp_comp_self, hcomp]
  · exact ⟨hupd, hcomp⟩

/-- The account after m allowance ticks and n other ticks are charged at the Tg held (R71 to R73). -/
def charged (q : Profile) (a : Account) (m n : Nat) : Account :=
  a.tg.elim { a with gap := satAdd max32 a.gap (m + n) } fun t =>
    breached q (addToP a (increment q t m)) (increment q t n)

theorem charged_readings (q : Profile) (a : Account) (m n : Nat) : (charged q a m n).readings = a.readings := by
  unfold charged
  cases a.tg with
  | none => rfl
  | some t => exact (breached_charges q _ _).1

theorem charged_h (q : Profile) (a : Account) (m n : Nat) : (charged q a m n).h = a.h := by
  unfold charged
  cases a.tg with
  | none => rfl
  | some t =>
    obtain ⟨-, -, -, -, hh, -⟩ := breached_charges q (addToP a (increment q t m)) (increment q t n)
    exact hh

theorem charged_of_none {a : Account} (h : a.tg = none) (q : Profile) (m n : Nat) :
    charged q a m n = { a with gap := satAdd max32 a.gap (m + n) } := by
  rw [charged, h]
  rfl

theorem charged_of_some {a : Account} {t : Int} (h : a.tg = some t) (q : Profile) (m n : Nat) :
    (charged q a m n).p = satAdd max32 a.p (increment q t m) ∧ (charged q a m n).e = satAdd max32 a.e (increment q t n)
      ∧ (charged q a m n).gap = a.gap := by
  have hcharged : charged q a m n = breached q (addToP a (increment q t m)) (increment q t n) := by rw [charged, h]; rfl
  obtain ⟨-, -, he, hp, -, hgap⟩ := breached_charges q (addToP a (increment q t m)) (increment q t n)
  rw [hcharged, he, hp, hgap]
  exact ⟨rfl, rfl, rfl⟩

theorem chargeTicks_at (c : Fin 4) (m n : Nat) (s : State) :
    AtComp c s (chargeTicks c m n s)
      ∧ (chargeTicks c m n s).comp c = { s.comp c with account := charged (s.comp c).profile (s.comp c).account m n } := by
  cases htg : (s.comp c).account.tg with
  | none =>
    have hrun : chargeTicks c m n s = s.updAccount c fun a => { a with gap := satAdd max32 a.gap (m + n) } := by
      simp only [chargeTicks, htg]
    rw [charged_of_none htg, hrun]
    exact ⟨updComp_at c _ s, State.updComp_comp_self s c _⟩
  | some t =>
    have hcharged : charged (s.comp c).profile (s.comp c).account m n = breached (s.comp c).profile
        (addToP (s.comp c).account (increment (s.comp c).profile t m)) (increment (s.comp c).profile t n) := by
      rw [charged, htg]; rfl
    obtain ⟨hat, hcomp⟩ := addBreach_at c (increment (s.comp c).profile t n)
      (s.updAccount c fun a => addToP a (increment (s.comp c).profile t m))
    have hrun : chargeTicks c m n s = addBreach c (increment (s.comp c).profile t n)
        (s.updAccount c fun a => addToP a (increment (s.comp c).profile t m)) := by simp only [chargeTicks, htg]
    rw [hcharged, hrun]
    refine ⟨(updComp_at c _ s).trans hat, ?_⟩
    dsimp only
    rw [hcomp, State.updAccount, State.updComp_comp_self]

/-- The totals after a piece of n ticks (R96). -/
def grown (k : Comp) (n : Nat) : DoorTotals :=
  if settledOpen k then { k.totals with openTicks := satAdd max32 k.totals.openTicks n } else k.totals

/-- The compartment after the piece from its committed time to p, m ticks of it allowance ticks (R71 to R73, R96). -/
def pieceCharged (k : Comp) (m p : Nat) : Comp :=
  { k with
    account := charged k.profile k.account m (p - k.window.committed - m)
    totals := grown k (p - k.window.committed)
    window := { k.window with committed := p } }

/-- The contexts after a piece of n ticks from t, m of them allowance ticks (R70, R96). -/
def State.grownContexts (s : State) (c : Fin 4) (t m n : Nat) : List Context :=
  if settledOpen (s.comp c) then
    (s.coveringContext c t).elim s.contexts fun x =>
      s.contexts.map fun y => if y.drop = x.drop then
        ctxUpdComp y c fun k => { k with used := k.used + m, openTicks := satAdd max32 k.openTicks n } else y
  else s.contexts

theorem growTotals_at (c : Fin 4) (t m n : Nat) (s : State) :
    AtComp c { s with contexts := s.grownContexts c t m n } (growTotals c t m n s)
      ∧ (growTotals c t m n s).comp c = { s.comp c with totals := grown (s.comp c) n } := by
  have hcomp : ∀ f : DoorTotals → DoorTotals, (s.updComp c fun k => { k with totals := f k.totals }).comp c
      = { s.comp c with totals := f (s.comp c).totals } := fun f => State.updComp_comp_self s c _
  have hopenTicks := hcomp fun z => { z with openTicks := satAdd max32 z.openTicks n }
  unfold growTotals State.grownContexts grown
  split
  · next hopen =>
    dsimp only
    cases hx : s.coveringContext c t with
    | none => exact ⟨updComp_at c _ s, hopenTicks⟩
    | some x =>
      have hat := (updComp_at c (fun k => { k with totals := { k.totals with openTicks := satAdd max32 k.totals.openTicks n } }) s).withContexts
        (s.contexts.map fun y => if y.drop = x.drop then
          ctxUpdComp y c fun k => { k with used := k.used + m, openTicks := satAdd max32 k.openTicks n } else y)
      exact ⟨hat, hopenTicks⟩
  · exact ⟨.refl c s, rfl⟩

/-- The contexts after the piece from compartment c's committed time to p (R70, R96). -/
def State.pieceContexts (s : State) (c : Fin 4) (p : Nat) : List Context :=
  let a := (s.comp c).window.committed
  s.grownContexts c a (s.allowanceTicks c a (p - a)) (p - a)

/-- A piece charges its compartment and the context that covers it, and nothing else but the alerts. -/
theorem chargePiece_at (c : Fin 4) (p : Nat) (s : State) :
    AtComp c { s with contexts := s.pieceContexts c p } (chargePiece c p s)
      ∧ (chargePiece c p s).comp c
          = pieceCharged (s.comp c) (s.allowanceTicks c (s.comp c).window.committed (p - (s.comp c).window.committed)) p := by
  obtain ⟨hticks, hcharged⟩ := chargeTicks_at c (s.allowanceTicks c (s.comp c).window.committed (p - (s.comp c).window.committed))
    (p - (s.comp c).window.committed - s.allowanceTicks c (s.comp c).window.committed (p - (s.comp c).window.committed)) s
  generalize hu : chargeTicks c (s.allowanceTicks c (s.comp c).window.committed (p - (s.comp c).window.committed))
    (p - (s.comp c).window.committed - s.allowanceTicks c (s.comp c).window.committed (p - (s.comp c).window.committed)) s = u
    at hticks hcharged
  obtain ⟨hgrow, hgrown⟩ := growTotals_at c (s.comp c).window.committed
    (s.allowanceTicks c (s.comp c).window.committed (p - (s.comp c).window.committed)) (p - (s.comp c).window.committed) u
  have hctx : u.grownContexts c (s.comp c).window.committed
      (s.allowanceTicks c (s.comp c).window.committed (p - (s.comp c).window.committed)) (p - (s.comp c).window.committed)
      = s.pieceContexts c p := by
    have hopen : settledOpen (u.comp c) = settledOpen (s.comp c) := by rw [hcharged]; rfl
    simp only [State.pieceContexts, State.grownContexts, State.coveringContext, hopen, hticks.accounted.contexts]
  rw [hctx] at hgrow
  have hpiece : chargePiece c p s = (growTotals c (s.comp c).window.committed
      (s.allowanceTicks c (s.comp c).window.committed (p - (s.comp c).window.committed))
      (p - (s.comp c).window.committed) u).setCommitted c p := by rw [← hu]; rfl
  rw [hpiece]
  refine ⟨((hticks.withContexts _).trans hgrow).trans (updComp_at c _ _), ?_⟩
  rw [State.setCommitted, State.updComp_comp_self, hgrown, hcharged]
  rfl

/-! ### Doors and samples (R53, R65, R94, R95) -/

/-- The account after a sample of value v at t becomes the reading of its position (R65, R67). -/
def sampled (q : Profile) (a : Account) (pos : Fin 4) (v : Int) (t : Nat) : Account :=
  evaluated q { a with readings := a.readings.set pos.val (some (v, t)) } t

theorem sampled_parts (q : Profile) (a : Account) (pos : Fin 4) (v : Int) (t : Nat) :
    (sampled q a pos v t).readings = a.readings.set pos.val (some (v, t))
      ∧ (sampled q a pos v t).tg = governing q.freshness (sampled q a pos v t).readings t
      ∧ (sampled q a pos v t).e = a.e ∧ (sampled q a pos v t).p = a.p ∧ (sampled q a pos v t).h = a.h
      ∧ (sampled q a pos v t).gap = a.gap := by
  obtain ⟨hreadings, he, hp, hh, hgap⟩ := evaluated_charges q { a with readings := a.readings.set pos.val (some (v, t)) } t
  refine ⟨hreadings, ?_, he, hp, hh, hgap⟩
  rw [sampled, hreadings]
  exact evaluated_tg _ _ _

theorem applySample_at (c pos : Fin 4) (v : Int) (t : Nat) (s : State) :
    AtComp c s (applySample c pos v t s)
      ∧ (applySample c pos v t s).comp c = { s.comp c with account := sampled (s.comp c).profile (s.comp c).account pos v t } := by
  obtain ⟨hat, hcomp⟩ := evalTg_at c t (s.updAccount c fun a => { a with readings := a.readings.set pos.val (some (v, t)) })
  refine ⟨(updComp_at c _ s).trans hat, ?_⟩
  rw [applySample, hcomp, State.updAccount, State.updComp_comp_self]
  rfl

/-- A door event leaves its compartment's profile, window and account. -/
theorem applyDoor_at (c : Fin 4) (p : Fin 2) (d : DoorState) (t : Nat) (s : State) :
    AtComp c s (applyDoor c p d t s)
      ∧ ((applyDoor c p d t s).comp c).window = (s.comp c).window ∧ ((applyDoor c p d t s).comp c).account = (s.comp c).account
      ∧ ((applyDoor c p d t s).comp c).doors[p].settled = d
      ∧ ((applyDoor c p d t s).comp c).totals.openTicks = (s.comp c).totals.openTicks := by
  have hdoor : ∀ u : State, ((u.updDoor c p fun x => { x with settled := d, since := t }).comp c)
      = { u.comp c with doors := (u.comp c).doors.set p.val { (u.comp c).doors[p] with settled := d, since := t } } :=
    fun u => State.updComp_comp_self u c _
  unfold applyDoor
  dsimp only
  split
  · next h =>
    refine ⟨updComp_at c _ s, ?_, ?_, ?_, ?_⟩ <;> simp only [State.updComp_comp_self, h]
  · have hat : AtComp c s (s.updDoor c p fun x => { x with settled := d, since := t }) := updComp_at c _ s
    split
    · refine ⟨hat.trans (updComp_at c _ _), ?_, ?_, ?_, ?_⟩ <;> simp [countOpening, State.updComp_comp_self, hdoor]
    · refine ⟨hat, ?_, ?_, ?_, ?_⟩ <;> simp [hdoor]

/-- The application of an event leaves the window, what has been charged and the open ticks. -/
theorem applyEvent_at (c : Fin 4) (ev : PendingEvent) (s : State) :
    AtComp c s (applyEvent c ev s) ∧ ((applyEvent c ev s).comp c).window = (s.comp c).window
      ∧ ((applyEvent c ev s).comp c).account.e = (s.comp c).account.e ∧ ((applyEvent c ev s).comp c).account.p = (s.comp c).account.p
      ∧ ((applyEvent c ev s).comp c).account.h = (s.comp c).account.h
      ∧ ((applyEvent c ev s).comp c).account.gap = (s.comp c).account.gap
      ∧ ((applyEvent c ev s).comp c).totals.openTicks = (s.comp c).totals.openTicks := by
  unfold applyEvent
  split
  · next pos v _ =>
    obtain ⟨hat, hcomp⟩ := applySample_at c pos v ev.time s
    obtain ⟨-, -, he, hp, hh, hgap⟩ := sampled_parts (s.comp c).profile (s.comp c).account pos v ev.time
    rw [hcomp]
    exact ⟨hat, rfl, he, hp, hh, hgap, rfl⟩
  · next p d _ =>
    obtain ⟨hat, hwindow, haccount, -, hticks⟩ := applyDoor_at c p d ev.time s
    rw [haccount]
    exact ⟨hat, hwindow, rfl, rfl, rfl, rfl, hticks⟩

/-! ### One piece, and no stop that ends with it -/

theorem resolveAt_none {s : State} {t : Nat} (h : ∀ x ∈ s.contexts, x.endTime ≠ some t) (c : Fin 4) : resolveAt c t s = s := by
  have hnil : s.contexts.filter (endsAt c t) = [] := List.filter_eq_nil_iff.2 fun x hx => by simp [endsAt, h x hx]
  rw [resolveAt, hnil]
  rfl

/-- A piece leaves the end times of the contexts. -/
theorem pieceContexts_endTime {s : State} {c : Fin 4} {p : Nat} {t : Option Nat} (h : ∀ x ∈ s.contexts, x.endTime ≠ t) :
    ∀ x ∈ s.pieceContexts c p, x.endTime ≠ t := by
  unfold State.pieceContexts State.grownContexts
  dsimp only
  split
  · cases s.coveringContext c (s.comp c).window.committed with
    | none => exact h
    | some x =>
      intro y hy
      obtain ⟨z, hz, rfl⟩ := List.mem_map.1 hy
      split
      · exact h z hz
      · exact h z hz
  · exact h

theorem pieceEnds_one {points : List Nat} {a b : Nat} (hab : a < b) (h : ∀ p ∈ points, p ≤ a ∨ b ≤ p) : pieceEnds points a b = [b] := by
  have hnil : (points.filter fun p => a < p && p < b) = [] := List.filter_eq_nil_iff.2 fun p hp => by
    rcases h p hp with hle | hge <;> simp <;> omega
  rw [pieceEnds, if_pos hab, hnil]
  rfl

theorem pieceEnds_none {a b : Nat} (hba : b ≤ a) (points : List Nat) : pieceEnds points a b = [] :=
  if_neg (Nat.not_lt.2 hba)

/-- The compartment at the end of a piece: charged to p, and Tg evaluated there (R68). -/
def pieceSettled (k : Comp) (m p : Nat) : Comp :=
  { pieceCharged k m p with account := evaluated k.profile (pieceCharged k m p).account p }

/-- One piece at whose end no stop ends. -/
theorem chargeThrough_piece {c : Fin 4} {p : Nat} {s : State} (hl : s.store.lockout = false)
    (h : ∀ x ∈ s.contexts, x.endTime ≠ some p) (ps : List Nat) :
    ∃ u, chargeThrough c (p :: ps) s = chargeThrough c ps u ∧ AtComp c { s with contexts := s.pieceContexts c p } u
      ∧ u.comp c
          = pieceSettled (s.comp c) (s.allowanceTicks c (s.comp c).window.committed (p - (s.comp c).window.committed)) p := by
  obtain ⟨hpiece, hcharged⟩ := chargePiece_at c p s
  have hresolve : resolveAt c p (chargePiece c p s) = chargePiece c p s := by
    refine resolveAt_none (fun x hx => ?_) c
    rw [hpiece.accounted.contexts] at hx
    exact pieceContexts_endTime h x hx
  obtain ⟨heval, hevaluated⟩ := evalTg_at c p (chargePiece c p s)
  refine ⟨evalTg c p (chargePiece c p s), ?_, hpiece.trans heval, ?_⟩
  · rw [chargeThrough, if_neg (by simp [State.lockedOut, hl]), hresolve]
  · rw [hevaluated, hcharged]
    rfl

end Sys2Proof.Machine
end

section
/-! SUPPORT. Charging to a time, the retirement of a head event, and the horizon (R52, R53, R65, R67 to R74, R94, R96). -/
namespace Sys2Proof.Machine

/-! ### Charging to a time -/

/-- Charging that LOCKOUT does not cut off leaves the window at the later of its committed time and the time charged to. -/
theorem chargeTo_window {c : Fin 4} {b : Nat} {s : State} (hl : (chargeTo c b s).store.lockout = false) :
    ((chargeTo c b s).comp c).window = { (s.comp c).window with committed := max (s.comp c).window.committed b } := by
  have hframe := chargeTo_frame c b s
  obtain ⟨hrises, hwithin⟩ := pieceEnds_rises (s.splitPoints c) (s.comp c).window.committed b
  have hreach : (s.comp c).window.committed < b → b ≤ ((chargeTo c b s).comp c).window.committed := fun hab =>
    chargeThrough_reaches c _ s hrises (fun p hp => Nat.le_of_lt (hwithin p hp).1) hl b (pieceEnds_last _ hab)
  have hge := (hframe.comps c).committed
  have hle := hframe.bound
  have hmax : ((chargeTo c b s).comp c).window.committed = max (s.comp c).window.committed b := by omega
  rw [hframe.window, hmax]

theorem pieceContexts_nil {s : State} (h : s.contexts = []) (c : Fin 4) (p : Nat) : s.pieceContexts c p = [] := by
  unfold State.pieceContexts State.grownContexts State.coveringContext
  simp [h]

theorem withContexts_self {s : State} {l : List Context} (h : s.contexts = l) : { s with contexts := l } = s := by
  subst h
  rfl

/-- Charging outside every stop leaves all but its compartment and the alerts, and of the compartment the profile, the doors and the readings. -/
theorem chargeThrough_alone {c : Fin 4} (ps : List Nat) {s : State} (hl : s.store.lockout = false) (hctx : s.contexts = []) :
    AtComp c s (chargeThrough c ps s) ∧ ((chargeThrough c ps s).comp c).profile = (s.comp c).profile
      ∧ ((chargeThrough c ps s).comp c).doors = (s.comp c).doors
      ∧ ((chargeThrough c ps s).comp c).account.readings = (s.comp c).account.readings := by
  induction ps generalizing s with
  | nil => exact ⟨.refl c s, rfl, rfl, rfl⟩
  | cons p ps ih =>
    obtain ⟨u, hcharge, hat, hcomp⟩ := chargeThrough_piece (c := c) (p := p) hl (by rw [hctx]; simp) ps
    rw [pieceContexts_nil hctx, withContexts_self hctx] at hat
    obtain ⟨hrest, hprofile, hdoors, hreadings⟩ := ih (s := u) (by rw [hat.accounted.store]; exact hl)
      (by rw [hat.accounted.contexts]; exact hctx)
    rw [hcharge, hprofile, hdoors, hreadings, hcomp]
    obtain ⟨hsame, -⟩ := evaluated_charges (s.comp c).profile (pieceCharged (s.comp c)
      (s.allowanceTicks c (s.comp c).window.committed (p - (s.comp c).window.committed)) p).account p
    exact ⟨hat.trans hrest, rfl, rfl, hsame.trans (charged_readings _ _ _ _)⟩

theorem chargeTo_alone {s : State} (hl : s.store.lockout = false) (hctx : s.contexts = []) (c : Fin 4) (b : Nat) :
    AtComp c s (chargeTo c b s) ∧ ((chargeTo c b s).comp c).profile = (s.comp c).profile
      ∧ ((chargeTo c b s).comp c).doors = (s.comp c).doors
      ∧ ((chargeTo c b s).comp c).account.readings = (s.comp c).account.readings := chargeThrough_alone _ hl hctx

/-- An interval that no freshness expiry and no stop cuts is one piece. -/
theorem chargeTo_piece {c : Fin 4} {b : Nat} {s : State} (hl : s.store.lockout = false) (hab : (s.comp c).window.committed < b)
    (hpoints : ∀ p ∈ s.splitPoints c, p ≤ (s.comp c).window.committed ∨ b ≤ p) (hend : ∀ x ∈ s.contexts, x.endTime ≠ some b) :
    AtComp c { s with contexts := s.pieceContexts c b } (chargeTo c b s)
      ∧ (chargeTo c b s).comp c
          = pieceSettled (s.comp c) (s.allowanceTicks c (s.comp c).window.committed (b - (s.comp c).window.committed)) b := by
  obtain ⟨u, hcharge, hat, hcomp⟩ := chargeThrough_piece (c := c) (p := b) hl hend []
  rw [chargeTo, pieceEnds_one hab hpoints, hcharge]
  exact ⟨hat, hcomp⟩

/-- The points of freshness expiry. -/
theorem mem_splitPoints {s : State} {c : Fin 4} {p : Nat} (h : p ∈ s.splitPoints c) :
    (∃ (q : Fin 4) (v : Int) (r : Nat), (s.comp c).account.readings[q] = some (v, r) ∧ p = r + (s.comp c).profile.freshness)
      ∨ ∃ x ∈ s.contexts, ∃ k, ctxComp x c = some k ∧ (p = k.start ∨ x.endTime = some p) := by
  unfold State.splitPoints at h
  rcases List.mem_append.1 h with h | h
  · obtain ⟨r, hr, hp⟩ := List.mem_filterMap.1 h
    obtain ⟨⟨v, t⟩, hvt, rfl⟩ := Option.map_eq_some_iff.1 hp
    obtain ⟨i, hi, hget⟩ := List.getElem_of_mem hr
    simp only [Vector.length_toList] at hi
    refine .inl ⟨⟨i, hi⟩, v, t, ?_, rfl⟩
    rw [← hvt, ← hget]
    simp
  · obtain ⟨x, hx, hp⟩ := List.mem_flatMap.1 h
    refine .inr ⟨x, hx, ?_⟩
    cases hk : ctxComp x c with
    | none => rw [hk] at hp; exact absurd hp (by simp)
    | some k =>
      rw [hk] at hp
      rcases List.mem_cons.1 hp with rfl | hp
      · exact ⟨k, rfl, .inl rfl⟩
      · exact ⟨k, rfl, .inr (by simpa using hp)⟩

theorem pieceSettled_charges (k : Comp) (m p : Nat) :
    (pieceSettled k m p).account.e = (charged k.profile k.account m (p - k.window.committed - m)).e
      ∧ (pieceSettled k m p).account.p = (charged k.profile k.account m (p - k.window.committed - m)).p
      ∧ (pieceSettled k m p).account.h = k.account.h
      ∧ (pieceSettled k m p).account.gap = (charged k.profile k.account m (p - k.window.committed - m)).gap := by
  obtain ⟨-, he, hp, hh, hgap⟩ := evaluated_charges k.profile (pieceCharged k m p).account p
  exact ⟨he, hp, hh.trans (charged_h _ _ _ _), hgap⟩

theorem satAdd_zero {max n : Nat} (h : n ≤ max) : satAdd max n 0 = n := Nat.min_eq_left h

/-- What n ticks outside every stop make of an account: its E at a Tg held, its gap ticks without one (R71, R72, R73). -/
def ChargedOutside (q : Profile) (n : Nat) (a b : Account) : Prop :=
  (∀ T, a.tg = some T → b.e = satAdd max32 a.e (increment q T n))
    ∧ (a.tg = none → b.e = a.e ∧ b.gap = satAdd max32 a.gap n) ∧ b.p = a.p ∧ b.h = a.h

theorem increment_zero (q : Profile) (t : Int) : increment q t 0 = 0 := by
  unfold increment
  split
  · rfl
  · split <;> rfl

/-- An interval outside every stop that no freshness expiry cuts is charged once. -/
theorem chargeTo_outside {c : Fin 4} {b : Nat} {s : State} (hl : s.store.lockout = false) (hctx : s.contexts = [])
    (hrange : accountInRange (s.comp c).account) (hle : (s.comp c).window.committed ≤ b)
    (hfresh : ∀ p : Fin 4, ∀ v r, (s.comp c).account.readings[p] = some (v, r) →
      r + (s.comp c).profile.freshness ≤ (s.comp c).window.committed ∨ b ≤ r + (s.comp c).profile.freshness) :
    ChargedOutside (s.comp c).profile (b - (s.comp c).window.committed) (s.comp c).account ((chargeTo c b s).comp c).account
      ∧ ((chargeTo c b s).comp c).totals.openings = (s.comp c).totals.openings := by
  obtain ⟨he, hp, -, hgap, -⟩ := hrange
  rcases Nat.eq_or_lt_of_le hle with hab | hab
  · rw [chargeTo, pieceEnds_none (Nat.le_of_eq hab.symm), chargeThrough, Nat.sub_eq_zero_of_le (Nat.le_of_eq hab.symm)]
    refine ⟨⟨fun T _ => ?_, fun _ => ⟨rfl, (satAdd_zero hgap).symm⟩, rfl, rfl⟩, rfl⟩
    rw [increment_zero, satAdd_zero he]
  · obtain ⟨-, hcomp⟩ := chargeTo_piece hl hab (fun p hpoint => by
      rcases mem_splitPoints hpoint with ⟨q, v, r, hr, rfl⟩ | ⟨x, hx, -⟩
      · exact hfresh q v r hr
      · rw [hctx] at hx; exact absurd hx (by simp)) (by rw [hctx]; simp)
    have hno : s.allowanceTicks c (s.comp c).window.committed (b - (s.comp c).window.committed) = 0 := by
      simp [State.allowanceTicks, State.coveringContext, hctx]
    rw [hno] at hcomp
    obtain ⟨pe, pp, ph, pgap⟩ := pieceSettled_charges (s.comp c) 0 b
    rw [hcomp, ChargedOutside, pe, pp, ph, pgap, Nat.sub_zero]
    refine ⟨⟨fun T hT => ?_, fun hnone => ?_, ?_, rfl⟩, ?_⟩
    · obtain ⟨-, hcharge, -⟩ := charged_of_some hT (s.comp c).profile 0 (b - (s.comp c).window.committed)
      exact hcharge
    · rw [charged_of_none hnone, Nat.zero_add]
      exact ⟨rfl, rfl⟩
    · cases hT : (s.comp c).account.tg with
      | none => rw [charged_of_none hT]
      | some T =>
        obtain ⟨hcharge, -, -⟩ := charged_of_some hT (s.comp c).profile 0 (b - (s.comp c).window.committed)
        rw [hcharge, increment_zero, satAdd_zero hp]
    · change (grown (s.comp c) _).openings = _
      unfold grown
      split <;> rfl

/-- The one context there is covers the interval (R69). -/
theorem coveringContext_one {s : State} {c : Fin 4} {x : Context} {k : CtxComp} {t : Nat} (hctx : s.contexts = [x])
    (hk : ctxComp x c = some k) (hstart : k.start ≤ t) (hend : ∀ T, x.endTime = some T → t < T) : s.coveringContext c t = some x := by
  have hcovers : covers x c t = true := by
    cases hT : x.endTime with
    | none => simp [covers, hk, hstart, hT]
    | some T => simp [covers, hk, hstart, hT, hend T hT]
  rw [State.coveringContext, hctx, List.find?_cons, hcovers]

theorem allowanceTicks_one {s : State} {c : Fin 4} {x : Context} {k : CtxComp} {t : Nat} (hcover : s.coveringContext c t = some x)
    (hk : ctxComp x c = some k) (n : Nat) :
    s.allowanceTicks c t n = if settledOpen (s.comp c) = true then min n (k.allowance - k.used) else 0 := by
  simp only [State.allowanceTicks, hcover, allowanceLeft, hk]

theorem grownContexts_one {s : State} {c : Fin 4} {x : Context} {t : Nat} (hctx : s.contexts = [x])
    (hcover : s.coveringContext c t = some x) (m n : Nat) :
    s.grownContexts c t m n = [if settledOpen (s.comp c) = true then
      ctxUpdComp x c fun y => { y with used := y.used + m, openTicks := satAdd max32 y.openTicks n } else x] := by
  unfold State.grownContexts
  rw [hcover, hctx]
  split
  · simp
  · rfl

/-! ### Retirement (R52, R53) -/

/-- No event that stands in the window is due. -/
theorem retireWhile_none {c : Fin 4} {due : Nat → Bool} {s : State} (h : ∀ e ∈ (s.comp c).window.events, due e.time = false)
    (n : Nat) : retireWhile c due n s = s := by
  cases n with
  | zero => rfl
  | succ n =>
    rw [retireWhile]
    split
    · cases he : (s.comp c).window.events with
      | nil => rfl
      | cons ev rest =>
        rw [he] at h
        exact if_neg (by rw [h ev List.mem_cons_self]; simp)
    · rfl

/-- The head event alone is due. -/
theorem retireAll_one {c : Fin 4} {due : Nat → Bool} {s : State} {ev : PendingEvent} {rest : List PendingEvent}
    (hw : windowWorks (s.windowMode c) = true) (he : (s.comp c).window.events = ev :: rest) (hev : due ev.time = true)
    (hrest : ∀ e ∈ rest, due e.time = false) (hafter : ((retireHead c ev s).comp c).window.events = rest) :
    retireAll c due s = retireHead c ev s := by
  have hstep : retireAll c due s = retireWhile c due rest.length (retireHead c ev s) := by
    simp only [retireAll, he, List.length_cons, retireWhile, hw, if_true, hev]
  rw [hstep, retireWhile_none (by rw [hafter]; exact hrest)]

/-- A head event whose charging ends in u, outside LOCKOUT. -/
theorem retireHead_charged {c : Fin 4} {ev : PendingEvent} {s u : State} (hcharge : chargeTo c ev.time s = u)
    (hl : u.store.lockout = false) :
    retireHead c ev s = applyEvent c ev (u.updWindow c fun w => { w with events := w.events.tail }) := by
  rw [retireHead, hcharge, finishRetirement, if_neg (by simp [State.lockedOut, hl])]

/-- A retirement makes of its compartment what the event makes of it once charged. -/
theorem retireHead_at {c : Fin 4} {ev : PendingEvent} {s u r : State} (hcharge : chargeTo c ev.time s = u)
    (hl : u.store.lockout = false) (hr : retireHead c ev s = r) :
    AtComp c u r ∧ (r.comp c).window = { (u.comp c).window with events := (u.comp c).window.events.tail }
      ∧ (r.comp c).account.e = (u.comp c).account.e ∧ (r.comp c).account.p = (u.comp c).account.p
      ∧ (r.comp c).account.h = (u.comp c).account.h ∧ (r.comp c).account.gap = (u.comp c).account.gap
      ∧ (r.comp c).totals.openTicks = (u.comp c).totals.openTicks := by
  obtain ⟨hat, hwindow, he, hp, hh, hgap, hticks⟩ := applyEvent_at c ev (u.updWindow c fun w => { w with events := w.events.tail })
  rw [retireHead_charged hcharge hl] at hr
  subst hr
  rw [hwindow, he, hp, hh, hgap, hticks, updWindow_comp, if_pos rfl]
  exact ⟨(updComp_at c _ u).trans hat, rfl, rfl, rfl, rfl, rfl, rfl⟩

theorem retireHead_probe {c pos : Fin 4} {v : Int} {ev : PendingEvent} {s u r : State} (hcharge : chargeTo c ev.time s = u)
    (hl : u.store.lockout = false) (hr : retireHead c ev s = r) (hev : ev.content = .probe pos v) :
    (r.comp c).account = sampled (u.comp c).profile (u.comp c).account pos v ev.time ∧ (r.comp c).profile = (u.comp c).profile
      ∧ (r.comp c).totals = (u.comp c).totals := by
  obtain ⟨-, hcomp⟩ := applySample_at c pos v ev.time (u.updWindow c fun w => { w with events := w.events.tail })
  rw [retireHead_charged hcharge hl, applyEvent, hev] at hr
  dsimp only at hr
  rw [← hr, hcomp, updWindow_comp, if_pos rfl]
  exact ⟨rfl, rfl, rfl⟩

theorem retireHead_door {c : Fin 4} {q : Fin 2} {d : DoorState} {ev : PendingEvent} {s u r : State}
    (hcharge : chargeTo c ev.time s = u) (hl : u.store.lockout = false) (hr : retireHead c ev s = r)
    (hev : ev.content = .door q d) : (r.comp c).account = (u.comp c).account ∧ (r.comp c).doors[q].settled = d := by
  obtain ⟨-, -, haccount, hdoor, -⟩ := applyDoor_at c q d ev.time (u.updWindow c fun w => { w with events := w.events.tail })
  rw [retireHead_charged hcharge hl, applyEvent, hev] at hr
  dsimp only at hr
  rw [← hr, haccount, updWindow_comp, if_pos rfl]
  exact ⟨rfl, hdoor⟩

/-! ### The horizon (R52) -/

theorem exec_horizonRetire {s t : State} {c : Fin 4} (hw : s.working = true) (h : passHorizon c s = t) :
    exec (.horizonRetire c) s = .next t := next_ends hw (passHorizon_carries _ c s).ends h

theorem endRouteIfComplete_opened {s : State} (h : s.route.state = .opened) : endRouteIfComplete s = s := by
  rw [endRouteIfComplete, State.routeComplete, h]
  rfl

/-- On an OPEN route the horizon has reached the head event alone: it retires. -/
theorem passHorizon_one {s : State} {c : Fin 4} {ev : PendingEvent} {rest : List PendingEvent} {r : State}
    (hl : s.store.lockout = false) (hroute : s.route.state = .opened) (harmed : (s.comp c).window.armed = true)
    (he : (s.comp c).window.events = ev :: rest) (hdue : ev.time + s.config.settleDelay ≤ s.now)
    (hrest : ∀ e ∈ rest, s.now < e.time + s.config.settleDelay) (hr : retireHead c ev s = r)
    (hafter : (r.comp c).window.events = rest) (hafterRoute : r.route = s.route) : passHorizon c s = r := by
  have hworks : windowWorks (s.windowMode c) = true :=
    (windowWorks_iff s c).2 ⟨hl, harmed, by simp [State.onRoute, hroute]⟩
  have hone := retireAll_one hworks he (due := horizonDue s) (by simp [horizonDue, State.horizonReached, hroute, hdue])
    (fun e hm => by simp [horizonDue, State.horizonReached, Nat.not_le.2 (hrest e hm)]) (by rw [hr]; exact hafter)
  rw [passHorizon, retireByHorizon, hone, hr]
  exact endRouteIfComplete_opened (by rw [hafterRoute]; exact hroute)

end Sys2Proof.Machine
end

section
open Sys2Proof Sys2Proof.Machine

/-- Settles O19: the interval is one piece, or none; the head event retires on it, and no other is due. -/
theorem horizonRetiresDueEvent : Obligations.HorizonRetiresDueEvent := by
  refine ⟨fun s c ev rest hw hl hroute harmed hctx hrange he hle hdue hrest hfresh => ?_,
    fun s c ev rest x k n m hw hl hroute harmed hctx hk hstart hend he hlt hdue hrest hfresh hn hm => ?_⟩
  · obtain ⟨hat, hprofile, hdoors, hreadings⟩ := chargeTo_alone hl hctx c ev.time
    obtain ⟨⟨hsome, hnone, hp, hh⟩, hopenings⟩ := chargeTo_outside hl hctx hrange hle hfresh
    have hul : (chargeTo c ev.time s).store.lockout = false := by rw [hat.accounted.store]; exact hl
    have hwindow := chargeTo_window hul
    generalize hu : chargeTo c ev.time s = u at *
    obtain ⟨rat, rwindow, re, rp, rh, rgap, -⟩ := retireHead_at hu hul rfl
    have hat' := hat.trans rat
    have hcommitted : ((retireHead c ev s).comp c).window = { (s.comp c).window with events := rest, committed := ev.time } := by
      rw [rwindow, hwindow, Nat.max_eq_right hle, he]
      rfl
    refine ⟨_, exec_horizonRetire hw (passHorizon_one hl hroute harmed he hdue hrest rfl (by rw [hcommitted]) hat'.accounted.route),
      hcommitted, fun q v hev => ?_, fun q d hev => ?_, fun T n hT hn => ?_, fun hT => ?_, rp.trans hp, rh.trans hh, hat'.others,
      hat'.accounted⟩
    · obtain ⟨haccount, hprofile', htotals⟩ := retireHead_probe hu hul rfl hev
      obtain ⟨hread, htg, -⟩ := sampled_parts (u.comp c).profile (u.comp c).account q v ev.time
      rw [haccount, htotals, htg, hread, hreadings, hprofile]
      exact ⟨rfl, rfl, hopenings⟩
    · obtain ⟨haccount, hdoor⟩ := retireHead_door hu hul rfl hev
      rw [haccount]
      exact ⟨hreadings, hdoor⟩
    · rw [re, hsome T hT, hn]
      rfl
    · obtain ⟨hsame, hgap⟩ := hnone hT
      rw [re, rgap, hsame, hgap]
      exact ⟨rfl, rfl⟩
  · have hcover := coveringContext_one hctx hk hstart fun T hT => Nat.lt_trans hlt (hend T hT)
    have hticks : s.allowanceTicks c (s.comp c).window.committed (ev.time - (s.comp c).window.committed) = m := by
      rw [allowanceTicks_one hcover hk, ← hn, hm]
    have hsum : m + (n - m) = n := by
      have : m ≤ n := by rw [hm]; split <;> omega
      omega
    obtain ⟨hat, hcomp⟩ := chargeTo_piece hl hlt (fun p hp => by
      rcases mem_splitPoints hp with ⟨q, v, r, hr, rfl⟩ | ⟨y, hy, j, hj, hpoint⟩
      · exact hfresh q v r hr
      · obtain rfl := List.mem_singleton.1 (hctx ▸ hy)
        obtain rfl := Option.some.inj (hk.symm.trans hj)
        rcases hpoint with rfl | hT
        · exact .inl hstart
        · exact .inr (Nat.le_of_lt (hend p hT))) (fun y hy hT => by
      obtain rfl := List.mem_singleton.1 (hctx ▸ hy)
      exact absurd (hend _ hT) (Nat.lt_irrefl _))
    have hctx' : s.pieceContexts c ev.time = [if settledOpen (s.comp c) = true then
        ctxUpdComp x c fun y => { y with used := y.used + m, openTicks := satAdd max32 y.openTicks n } else x] := by
      rw [State.pieceContexts, grownContexts_one hctx hcover, hticks, hn]
    rw [hticks] at hcomp
    have hul : (chargeTo c ev.time s).store.lockout = false := by rw [hat.accounted.store]; exact hl
    generalize hu : chargeTo c ev.time s = u at *
    obtain ⟨rat, rwindow, re, rp, rh, rgap, rticks⟩ := retireHead_at hu hul rfl
    obtain ⟨pe, pp, ph, pgap⟩ := pieceSettled_charges (s.comp c) m ev.time
    have hat' := hat.trans rat
    have hwindow : ((retireHead c ev s).comp c).window = { (s.comp c).window with events := rest, committed := ev.time } := by
      rw [rwindow, hcomp]
      change { (s.comp c).window with events := (s.comp c).window.events.tail, committed := ev.time } = _
      rw [he]
      rfl
    refine ⟨_, exec_horizonRetire hw (passHorizon_one hl hroute harmed he hdue hrest rfl (by rw [hwindow]) hat'.accounted.route),
      hwindow, fun T hT => ?_, fun hT => ?_, ?_, ?_, ?_, hat'.others, hat'.accounted.drops, hat'.accounted.store⟩
    · obtain ⟨cp, ce, cgap⟩ := charged_of_some hT (s.comp c).profile m (n - m)
      rw [rp, re, rgap, hcomp, pp, pe, pgap, ← hn, cp, ce, cgap]
      exact ⟨rfl, rfl, rfl⟩
    · rw [rp, re, rgap, hcomp, pp, pe, pgap, ← hn, charged_of_none hT, hsum]
      exact ⟨rfl, rfl, rfl⟩
    · rw [rh, hcomp, ph]
    · rw [hat'.accounted.contexts, hctx']
      rfl
    · rw [rticks, hcomp]
      change (grown (s.comp c) _).openTicks = _
      rw [grown, ← hn]
      split <;> rfl

end

section
/-! SUPPORT. The windows brought to one time, the end of a route, and MONITOR_RESET (R54, R57, R117, R118, R178, R200, R201). -/
namespace Sys2Proof.Machine

/-! ### How far a window goes (R54) -/

/-- Window c goes no further than b, and the others stay. -/
structure ReachesAtMost (c : Fin 4) (b : Nat) (s t : State) : Prop where
  others : ∀ k, k ≠ c → (t.comp k).window = (s.comp k).window
  bound : (t.comp c).window.committed ≤ max (s.comp c).window.committed b

theorem ReachesAtMost.refl (c : Fin 4) (b : Nat) (s : State) : ReachesAtMost c b s s := ⟨fun _ _ => rfl, Nat.le_max_left _ _⟩

theorem ReachesAtMost.trans {c : Fin 4} {b : Nat} {s t u : State} (h : ReachesAtMost c b s t) (k : ReachesAtMost c b t u) :
    ReachesAtMost c b s u where
  others i hi := (k.others i hi).trans (h.others i hi)
  bound := Nat.le_trans k.bound (Nat.max_le.2 ⟨h.bound, Nat.le_max_right _ _⟩)

theorem chargeTo_atMost {c : Fin 4} {t b : Nat} (h : t ≤ b) (s : State) : ReachesAtMost c b s (chargeTo c t s) where
  others := (chargeTo_frame c t s).others
  bound := Nat.le_trans (chargeTo_frame c t s).bound (Nat.max_le.2 ⟨Nat.le_max_left _ _, Nat.le_trans h (Nat.le_max_right _ _)⟩)

theorem finishRetirement_atMost (c : Fin 4) (b : Nat) (ev : PendingEvent) (s : State) :
    ReachesAtMost c b s (finishRetirement c ev s) := by
  unfold finishRetirement
  split
  · exact .refl c b s
  · obtain ⟨hat, hwindow, -⟩ := applyEvent_at c ev (s.updWindow c fun w => { w with events := w.events.tail })
    refine ⟨fun k hk => ?_, ?_⟩
    · rw [hat.others k hk, updWindow_comp, if_neg hk]
    · rw [hwindow, updWindow_comp, if_pos rfl]
      exact Nat.le_max_left _ _

theorem retireHead_atMost {c : Fin 4} {b : Nat} {ev : PendingEvent} (h : ev.time ≤ b) (s : State) :
    ReachesAtMost c b s (retireHead c ev s) := (chargeTo_atMost h s).trans (finishRetirement_atMost c b ev _)

theorem retireWhile_atMost {c : Fin 4} {b : Nat} {due : Nat → Bool} (h : ∀ t, due t = true → t ≤ b) (fuel : Nat) (s : State) :
    ReachesAtMost c b s (retireWhile c due fuel s) := by
  induction fuel generalizing s with
  | zero => exact .refl c b s
  | succ fuel ih =>
    unfold retireWhile
    split
    · split
      · exact .refl c b s
      · split
        · next hd => exact (retireHead_atMost (h _ hd) s).trans (ih _)
        · exact .refl c b s
    · exact .refl c b s

theorem advanceTo_atMost (c : Fin 4) (b : Nat) (s : State) : ReachesAtMost c b s (advanceTo c b s) := by
  have hretire : ReachesAtMost c b s (retireAll c (fun t => t < b) s) :=
    retireWhile_atMost (fun t ht => Nat.le_of_lt (by simpa using ht)) _ s
  unfold advanceTo
  dsimp only
  split
  · split
    · exact hretire
    · exact hretire.trans (chargeTo_atMost (Nat.le_refl b) _)
  · exact .refl c b s

/-- Advance-to(b) brings a working window to b, unless LOCKOUT cuts it off (R54). -/
theorem advanceTo_reaches {c : Fin 4} {b : Nat} {s : State} (harmed : (s.comp c).window.armed = true) (hon : s.onRoute = true)
    (hl : (advanceTo c b s).store.lockout = false) : b ≤ ((advanceTo c b s).comp c).window.committed := by
  have hs : s.store.lockout = false := by
    cases h : s.store.lockout
    · rfl
    · rw [(advanceTo_frame c b s).lockout h] at hl; exact absurd hl (by simp)
  have hworks : windowWorks (s.windowMode c) = true := (windowWorks_iff s c).2 ⟨hs, harmed, hon⟩
  unfold advanceTo at hl ⊢
  dsimp only at hl ⊢
  split at hl
  · next h =>
    rw [if_pos h]
    split at hl
    · next hlock => exact absurd hlock (by simp [State.lockedOut, hl])
    · next hlock =>
      rw [if_neg hlock, chargeTo_window hl]
      exact Nat.le_max_right _ _
  · next h =>
    rw [if_neg h]
    simpa [hworks] using h

/-- Every window of the list that works stands at b at the end, when none stood later; unless LOCKOUT cuts this off. -/
theorem foldl_advanceTo_reaches {b : Nat} (l : List (Fin 4)) {s : State} (hle : ∀ c, (s.comp c).window.committed ≤ b)
    (hon : s.onRoute = true) (hl : (l.foldl (fun s c => advanceTo c b s) s).store.lockout = false) :
    (∀ c, ((l.foldl (fun s c => advanceTo c b s) s).comp c).window.committed ≤ b)
      ∧ ∀ c ∈ l, (s.comp c).window.armed = true → ((l.foldl (fun s c => advanceTo c b s) s).comp c).window.committed = b := by
  induction l generalizing s with
  | nil => exact ⟨hle, nofun⟩
  | cons c l ih =>
    rw [List.foldl_cons] at hl ⊢
    have hframe := advanceTo_frame c b s
    have hmost := advanceTo_atMost c b s
    have hle' : ∀ k, ((advanceTo c b s).comp k).window.committed ≤ b := fun k => by
      by_cases hk : k = c
      · subst hk; exact Nat.le_trans hmost.bound (Nat.max_le.2 ⟨hle k, Nat.le_refl b⟩)
      · rw [hmost.others k hk]; exact hle k
    have hrest := foldl_window (fun s c => advanceTo_frame c b s) l (advanceTo c b s)
    obtain ⟨hall, hmem⟩ := ih hle' (by rw [State.onRoute, hframe.route]; exact hon) hl
    refine ⟨hall, fun k hk harmed => ?_⟩
    rcases List.mem_cons.1 hk with rfl | hk
    · have hopen : (advanceTo k b s).store.lockout = false := by
        cases h : (advanceTo k b s).store.lockout
        · rfl
        · rw [hrest.lockout h] at hl; exact absurd hl (by simp)
      exact Nat.le_antisymm (hall k)
        (Nat.le_trans (advanceTo_reaches harmed hon hopen) (hrest.comps k).committed)
    · exact hmem k hk (by rw [(hframe.comps k).armed]; exact harmed)

/-! ### The end of a route (R117) -/

theorem foldl_updWindow_comp (f : Window → Window) {l : List (Fin 4)} (hl : l.Nodup) (s : State) (k : Fin 4) :
    (l.foldl (fun s c => s.updWindow c f) s).comp k
      = if k ∈ l then { s.comp k with window := f (s.comp k).window } else s.comp k := by
  induction l generalizing s with
  | nil => simp
  | cons c l ih =>
    obtain ⟨hc, hnodup⟩ := List.nodup_cons.1 hl
    rw [List.foldl_cons, ih hnodup, updWindow_comp]
    by_cases hk : k = c
    · subst hk; simp [hc]
    · simp [hk]

theorem windowsIdle_comp (s : State) (c : Fin 4) :
    s.windowsIdle.comp c = { s.comp c with window := discardWindow (s.comp c).window } := by
  rw [State.windowsIdle, foldl_updWindow_comp _ (by decide), if_pos (mem_compartments c)]

theorem foldl_updWindow_only (f : Window → Window) (l : List (Fin 4)) (s : State) :
    l.foldl (fun s c => s.updWindow c f) s = { s with comps := (l.foldl (fun s c => s.updWindow c f) s).comps } := by
  induction l generalizing s with
  | nil => rfl
  | cons c l ih => rw [List.foldl_cons, ih]; rfl

theorem windowsIdle_only (s : State) : s.windowsIdle = { s with comps := s.windowsIdle.comps } := foldl_updWindow_only _ _ s

/-- What the steps after the ROUTE_CLOSE record make of the state (R117). -/
theorem finishRoute_parts (reason : CloseReason) (s : State) :
    (finishRoute reason s).route = { s.route with state := .noRoute, closeReason := some reason } ∧ (finishRoute reason s).drops = []
      ∧ (finishRoute reason s).contexts = s.contexts ∧ (finishRoute reason s).claims = s.claims
      ∧ (finishRoute reason s).store = { s.store with slots := (freeNotVisited s).store.slots }
      ∧ ∀ c, (finishRoute reason s).comp c = { s.comp c with window := discardWindow (s.comp c).window } := by
  have hfree := freeNotVisited_only s
  rw [finishRoute_eq]
  refine ⟨?_, ?_, ?_, ?_, ?_, fun c => ?_⟩
  · rw [windowsIdle_only, State.routeEnded, hfree]
  · rw [windowsIdle_only]; rfl
  · rw [windowsIdle_only, State.routeEnded, hfree]
  · rw [windowsIdle_only, State.routeEnded, hfree]
  · rw [windowsIdle_only, State.routeEnded, hfree]
  · have hcomp : ((freeNotVisited s).routeEnded reason).comp c = s.comp c := by rw [State.routeEnded, hfree]; rfl
    rw [windowsIdle_comp, hcomp]

/-- The windows are left by the steps up to the ROUTE_CLOSE record. -/
theorem fillRouteClose_comps (reason : CloseReason) (s : State) : (fillRouteClose reason s).comps = s.comps := by
  unfold fillRouteClose
  split
  · exact (fillReserved_frame _ _ _).comps
  · rfl

/-- A route that has ended: none is open, the manifest is empty and the windows stand IDLE where they stood (R117). -/
theorem endRoute_ended {reason : CloseReason} {s : State} (hl : (endRoute reason s).store.lockout = false) :
    (endRoute reason s).route.state = .noRoute ∧ (endRoute reason s).drops = []
      ∧ (endRoute reason s).route.closeReason = some reason
      ∧ ∀ c, ((endRoute reason s).comp c).window = discardWindow (s.comp c).window := by
  unfold endRoute at hl ⊢
  dsimp only at hl ⊢
  split at hl
  · next h => exact absurd h (by simp [State.lockedOut, hl])
  · next h =>
    rw [if_neg h]
    obtain ⟨hroute, hdrops, -, -, -, hcomp⟩ := finishRoute_parts reason (fillRouteClose reason (dropsNotVisited s))
    refine ⟨by rw [hroute], hdrops, by rw [hroute], fun c => ?_⟩
    rw [hcomp, State.comp_congr (fillRouteClose_comps reason (dropsNotVisited s))]
    rfl

/-- The close time reached by every window, with no stop left: the route's work is complete (R117). -/
theorem routeComplete_of {s : State} {z : Nat} (hl : s.store.lockout = false) (hst : s.route.state = .closing)
    (hz : s.route.closeTime = some z) (hreached : s.horizonReached z = true) (hctx : s.contexts = [])
    (hwindows : ∀ c, (s.comp c).window.armed = true → (s.comp c).window.committed = z) : s.routeComplete = true := by
  have hall : (compartments.all fun c => !(s.comp c).window.armed || decide ((s.comp c).window.committed = z)) = true :=
    List.all_eq_true.2 fun c _ => by
      cases harmed : (s.comp c).window.armed
      · rfl
      · simp [hwindows c harmed]
  simp only [State.routeComplete, hst, State.lockedOut, hl, hctx, hz, hreached]
  simpa using hall

theorem exec_closeAdvance {s t : State} (hw : s.working = true) (h : advanceClose s = t) : exec .closeAdvance s = .next t :=
  next_ends hw (advanceClose_carries _ s).ends h

/-! ### Forced settlement outside every stop (R118, R201) -/

theorem retireWhile_alone (c : Fin 4) (due : Nat → Bool) (fuel : Nat) {s : State} (hl : s.store.lockout = false)
    (hctx : s.contexts = []) : AtComp c s (retireWhile c due fuel s) := by
  induction fuel generalizing s with
  | zero => exact .refl c s
  | succ fuel ih =>
    unfold retireWhile
    split
    · split
      · exact .refl c s
      · next ev _ _ =>
        split
        · obtain ⟨hcharge, -⟩ := chargeTo_alone hl hctx c ev.time
          obtain ⟨happly, -⟩ := retireHead_at (c := c) (ev := ev) (s := s) rfl (by rw [hcharge.accounted.store]; exact hl) rfl
          have hat := hcharge.trans happly
          exact hat.trans (ih (by rw [hat.accounted.store]; exact hl) (by rw [hat.accounted.contexts]; exact hctx))
        · exact .refl c s
    · exact .refl c s

theorem advanceTo_alone (c : Fin 4) (T : Nat) {s : State} (hl : s.store.lockout = false) (hctx : s.contexts = []) :
    AtComp c s (advanceTo c T s) := by
  have hretire : AtComp c s (retireAll c (fun t => t < T) s) := retireWhile_alone c _ _ hl hctx
  unfold advanceTo
  dsimp only
  split
  · rw [if_neg (hretire.accounted.unlocked hl)]
    exact hretire.trans (chargeTo_alone (by rw [hretire.accounted.store]; exact hl) (by rw [hretire.accounted.contexts]; exact hctx) c T).1
  · exact .refl c s

theorem forceWindow_alone (c : Fin 4) {s : State} (hl : s.store.lockout = false) (hctx : s.contexts = []) :
    AtComp c s (forceWindow c s) := by
  unfold forceWindow
  dsimp only
  split
  · have hretire : AtComp c s (retireAll c (fun _ => true) s) := retireWhile_alone c _ _ hl hctx
    rw [if_neg (hretire.accounted.unlocked hl)]
    exact hretire.trans (advanceTo_alone c _ (by rw [hretire.accounted.store]; exact hl) (by rw [hretire.accounted.contexts]; exact hctx))
  · have hretire : AtComp c s (retireAll c (fun t => t < s.route.closeTime.getD s.now) s) := retireWhile_alone c _ _ hl hctx
    have hadvance := hretire.trans (advanceTo_alone c (s.route.closeTime.getD s.now) (by rw [hretire.accounted.store]; exact hl)
      (by rw [hretire.accounted.contexts]; exact hctx))
    rw [if_neg (hadvance.accounted.unlocked hl)]
    exact hadvance.trans (updComp_at c _ _)
  · exact .refl c s

theorem forceWindows_alone {s : State} (hl : s.store.lockout = false) (hctx : s.contexts = []) : Accounted s (forceWindows s) := by
  have hfold : ∀ (l : List (Fin 4)) (u : State), Accounted s u → Accounted s (l.foldl (fun s c => forceWindow c s) u) := by
    intro l
    induction l with
    | nil => exact fun _ h => h
    | cons c l ih =>
      exact fun u h => ih _ (h.trans (forceWindow_alone c (by rw [h.store]; exact hl) (by rw [h.contexts]; exact hctx)).accounted)
  exact hfold _ s (.refl s)

/-! ### The end of a route whose record is read back soundly (R117, R149) -/

theorem freeIfNotVisited_slot {d : Drop} {i : Fin 256} (h : d.reservation ≠ some i) (s : State) :
    (freeIfNotVisited s d).slot i = s.slot i := by
  unfold freeIfNotVisited
  split
  · next j _ hj =>
    have hij : i ≠ j := fun e => h (e ▸ hj)
    rw [handBack, State.setSlot_slot, if_neg hij]
  · rfl

theorem freeNotVisited_slot {s : State} {i : Fin 256} (h : ∀ d ∈ s.drops, d.reservation ≠ some i) :
    (freeNotVisited s).slot i = s.slot i := by
  have hfold : ∀ (l : List Drop) (u : State), (∀ d ∈ l, d.reservation ≠ some i) → (l.foldl freeIfNotVisited u).slot i = u.slot i := by
    intro l
    induction l with
    | nil => exact fun _ _ => rfl
    | cons d l ih =>
      intro u hd
      rw [List.foldl_cons, ih _ fun e he => hd e (List.mem_cons_of_mem _ he), freeIfNotVisited_slot (hd d List.mem_cons_self)]
  rw [freeNotVisited_eq]
  exact hfold _ s h

theorem dropsNotVisited_reservation {s : State} {i : Fin 256} (h : ∀ d ∈ s.drops, d.reservation ≠ some i) :
    ∀ d ∈ (dropsNotVisited s).drops, d.reservation ≠ some i := fun d hd => by
  obtain ⟨e, he, rfl⟩ := List.mem_map.1 hd
  split
  · exact h e he
  · exact h e he

/-- The end of a route whose reservation is i and whose record is read back soundly. -/
theorem endRoute_sound {reason : CloseReason} {s : State} {i : Fin 256} {reads : List Bool} (hl : s.store.lockout = false)
    (hres : s.route.reservation = some i) (hdrops : ∀ d ∈ s.drops, d.reservation ≠ some i) (hread : s.array.script = false :: reads) :
    (endRoute reason s).store.lockout = false
      ∧ (endRoute reason s).route
          = { s.route with reservation := none, state := .noRoute, closeReason := some reason }
      ∧ (endRoute reason s).contexts = s.contexts ∧ (endRoute reason s).claims = s.claims
      ∧ (endRoute reason s).store.fillList = s.store.fillList ++ [i]
      ∧ ∃ h, (endRoute reason s).slot i = .filled h (routeCloseBody reason (dropsNotVisited s))
          ∧ h.number = s.store.nextNumber := by
  have hfill : fillRouteClose reason (dropsNotVisited s)
      = { writeRecord i (routeCloseBody reason (dropsNotVisited s)) (dropsNotVisited s).unreserved with
          array := { script := reads, count := s.array.count + 1 } } := by
    have hres' : (dropsNotVisited s).route.reservation = some i := hres
    simp only [fillRouteClose, hres']
    exact fillReserved_sound (s := (dropsNotVisited s).unreserved) hl hread i _
  have hopen : (fillRouteClose reason (dropsNotVisited s)).store.lockout = false := by rw [hfill]; exact hl
  have hend : endRoute reason s = finishRoute reason (fillRouteClose reason (dropsNotVisited s)) := by
    rw [endRoute, if_neg (by simp [State.lockedOut, hopen])]
  obtain ⟨hroute, -, hctx, hclaims, hstore, -⟩ := finishRoute_parts reason (fillRouteClose reason (dropsNotVisited s))
  have hslot : (finishRoute reason (fillRouteClose reason (dropsNotVisited s))).slot i
      = (fillRouteClose reason (dropsNotVisited s)).slot i := by
    rw [State.slot, hstore]
    exact freeNotVisited_slot (by rw [hfill]; exact dropsNotVisited_reservation hdrops)
  rw [hend, hctx, hclaims, hstore, hroute, hslot, hfill]
  refine ⟨hl, rfl, rfl, rfl, rfl, (dropsNotVisited s).unreserved.fillHeader (routeCloseBody reason (dropsNotVisited s)), ?_, rfl⟩
  exact (State.setSlot_slot (dropsNotVisited s).unreserved i i _).trans (if_pos rfl)

/-! ### MONITOR_RESET (R200, R201) -/

theorem monitorReset_frame {m : CmdHdr} {ops : List Byte} (hs : sourceOk m.src = true) (hlen : ops.length ≤ 239) :
    CommandFrame (runMonitorReset m ops) (.monitorReset m ops) :=
  commandFrame_of hs (payload := cmdMonitorReset :: ops) (by simp only [List.length_cons]; omega) fun _ => rfl

theorem exec_monitorReset {s : State} {m : CmdHdr} {ops : List Byte} (h : s.serves m) (hlen : ops.length ≤ 239) :
    exec (.monitorReset m ops) s = .next (runMonitorReset m ops s.admitted) :=
  (monitorReset_frame h.1.2.1 hlen).runs h.1 fun s => (runMonitorReset_carries _ _ _ s).ends

theorem runMonitorReset_operand {s : State} {ops : List Byte} (hl : s.store.lockout = false) (h : ops ≠ []) (m : CmdHdr) :
    runMonitorReset m ops s = answer cmdMonitorReset m (.refused .malformed) s := by
  have hne : (!ops.isEmpty) = true := by simpa using h
  rw [runMonitorReset, gated, if_neg (by simp [State.lockedOut, hl]), if_pos hne]

theorem runMonitorReset_idle {s : State} (hl : s.store.lockout = false) (h : s.onRoute = false) (m : CmdHdr) :
    runMonitorReset m [] s = resetIdle m s := by
  rw [runMonitorReset, gated, if_neg (by simp [State.lockedOut, hl])]
  simp [h]

theorem runMonitorReset_route {s : State} (hl : s.store.lockout = false) (h : s.onRoute = true) (m : CmdHdr) :
    runMonitorReset m [] s = forcedSettlement m s := by
  rw [runMonitorReset, gated, if_neg (by simp [State.lockedOut, hl])]
  simp [h]

/-- The abort of the claims leaves the alerts. -/
theorem abortClaims_alerts (s : State) : (abortClaims s).alerts = s.alerts := by
  have h : ∀ (ks : List Claim) (s : State), (ks.foldl (fun s k => abortClaim k s) s).alerts = s.alerts := by
    intro ks
    induction ks with
    | nil => exact fun _ => rfl
    | cons k ks ih =>
      intro s
      have hone : (abortClaim k s).alerts = s.alerts := by
        simp only [abortClaim, sendClaimAnswer, State.updClaimCounts]
        rw [offerReply_only]; rfl
      rw [List.foldl_cons, ih, hone]
  exact h _ s

theorem answer_last (code : Byte) (m : CmdHdr) (marks : Byte) (data : List Byte) (s : State) :
    (answer code m (.done marks data) s).ports.trunk.replies.getLast?
      = some (originate m.src typMgmtReply ([code, m.seq, 0, marks] ++ data)) := by
  rw [answer_done_replies]
  exact List.getLast?_concat

/-- The abort of the claims leaves a slot that no claim holds. -/
theorem abortClaims_slot_other {s : State} {i : Fin 256} (h : ∀ k ∈ s.claims.queue, k.reservation ≠ i) :
    (abortClaims s).slot i = s.slot i := by
  have hi : i ∉ s.claims.queue.map (·.reservation) := fun hm => by
    obtain ⟨k, hk, e⟩ := List.mem_map.1 hm
    exact h k hk e
  rw [abortClaims_slot, if_neg hi]

/-- The windows settled by force, on the route closed now (R201, steps 2 to 4). -/
def State.forced (s : State) : State :=
  forceWindows { zeroAlerts s with route := { s.route with closeTime := some s.now } }

/-- Forced settlement of a route with no stop to settle. -/
theorem forcedSettlement_plain {s : State} (hl : s.store.lockout = false) (hst : s.route.state = .opened) (hctx : s.contexts = [])
    (hlive : s.liveDrop = none) (m : CmdHdr) :
    Accounted { zeroAlerts s with route := { s.route with closeTime := some s.now } } s.forced
      ∧ forcedSettlement m s
          = endForced m s { zeroAlerts s with route := { s.route with closeTime := some s.now } } s.forced := by
  have hbegin : beginForced (zeroAlerts s) = { zeroAlerts s with route := { s.route with closeTime := some s.now } } := by
    have hst' : (zeroAlerts s).route.state = .opened := hst
    have hlive' : State.liveDrop { zeroAlerts s with route := { s.route with closeTime := some s.now } } = none := hlive
    rw [beginForced, if_pos hst']
    exact closeLive_none hlive' _
  have hopen : ¬ (beginForced (zeroAlerts s)).lockedOut = true := by rw [hbegin]; simp [zeroAlerts, State.lockedOut, hl]
  have hforced : Accounted { zeroAlerts s with route := { s.route with closeTime := some s.now } } s.forced :=
    forceWindows_alone hl hctx
  refine ⟨hforced, ?_⟩
  rw [forcedSettlement]
  dsimp only
  rw [if_neg hopen, hbegin]
  exact if_neg (hforced.unlocked hl)

/-- Forced settlement from the end of the route on, when that stays outside LOCKOUT (R201). -/
theorem endForced_unlocked {s settling : State} (hl : (endRoute .reset s).store.lockout = false)
    (hsame : s.completions = settling.completions) (m : CmdHdr) (start : State) :
    endForced m start settling s = answer cmdMonitorReset m (.done markNone
      (beBytes 4 (abortClaims (endRoute .reset s)).forcedClose ++ [closeReasonCode .reset] ++ beBytes 1 0
        ++ beBytes 2 s.store.nextNumber)) (abortClaims (endRoute .reset s)) := by
  have hcount : s.completedSince settling = 0 := by rw [State.completedSince, hsame]; exact Nat.sub_self _
  rw [endForced]
  dsimp only
  rw [if_neg (by simp [State.lockedOut, hl]), hcount]

end Sys2Proof.Machine
end

section
open Sys2Proof Sys2Proof.Machine

/-- Settles O21: every working window is brought to the close time, and with no context left the work is complete. -/
theorem closeAdvanceEndsRoute : Obligations.CloseAdvanceEndsRoute := by
  intro s z hw hl hst hz hdue hle
  have hreached : s.horizonReached z = true := by simpa [State.horizonReached] using hdue
  have hadvance : advanceClose s = endRouteIfComplete (compartments.foldl (fun s c => advanceTo c z s) s) := by
    simp only [advanceClose, hz, hst, hreached, and_self, if_true]
  have hframe := foldl_window (fun s c => advanceTo_frame c z s) compartments s
  refine ⟨_, exec_closeAdvance hw hadvance, ?_⟩
  generalize hu : compartments.foldl (fun s c => advanceTo c z s) s = u at *
  cases hlock : (endRouteIfComplete u).store.lockout with
  | true => exact .inl rfl
  | false =>
    right
    have hul : u.store.lockout = false := by
      cases h : u.store.lockout
      · rfl
      · rw [endRouteIfComplete, if_neg (by simp [State.routeComplete, State.lockedOut, h])] at hlock
        exact h.symm.trans hlock
    have hon : s.onRoute = true := by simp [State.onRoute, hst]
    have hall : ∀ c ∈ compartments, (s.comp c).window.armed = true → (u.comp c).window.committed = z := by
      obtain ⟨-, hall⟩ := foldl_advanceTo_reaches compartments hle hon (by rw [hu]; exact hul)
      rwa [hu] at hall
    by_cases hcomplete : u.routeComplete = true
    · rw [endRouteIfComplete, if_pos hcomplete] at hlock ⊢
      obtain ⟨hroute, hdrops, hreason, hwindow⟩ := endRoute_ended hlock
      refine ⟨fun c harmed => ?_, fun _ => ⟨hroute, hdrops, hreason, fun c => ?_⟩⟩
      · rw [hwindow]
        exact hall c (mem_compartments c) harmed
      · rw [hwindow]
        exact ⟨rfl, rfl⟩
    · rw [endRouteIfComplete, if_neg hcomplete]
      refine ⟨fun c harmed => hall c (mem_compartments c) harmed, fun hctx => absurd ?_ hcomplete⟩
      refine routeComplete_of (z := z) hul (by rw [hframe.route]; exact hst) (by rw [hframe.route]; exact hz) ?_ hctx fun c harmed =>
        hall c (mem_compartments c) (by rw [← (hframe.comps c).armed]; exact harmed)
      simpa [State.horizonReached, State.now, hframe.config, hframe.clock] using hdue

/-- Settles O56: off a route the claims are aborted; on one with no stop the windows are settled and the record is filled. -/
theorem monitorResetEndsRoute : Obligations.MonitorResetEndsRoute := by
  intro s m h
  obtain ⟨ht, hl⟩ := id h
  refine ⟨fun ops hops hlen => ?_, fun hst => ?_, fun i reads hst hctx hlive hres hdrops hclaims hread => ?_⟩
  · rw [exec_monitorReset h hlen, runMonitorReset_operand (s := s.admitted) hl hops]
    rfl
  · have hframe := abortClaims_frame (zeroAlerts s.admitted)
    have hstore := abortClaims_store (zeroAlerts s.admitted)
    refine ⟨resetIdle m s.admitted, (exec_monitorReset h (by simp)).trans (by
      rw [runMonitorReset_idle (s := s.admitted) hl ((onRoute_false_iff _).2 hst)]), fun j => ?_,
      abortClaims_queue (zeroAlerts s.admitted), fun k hk => ?_,
      fun j hj => abortClaims_slot_other (s := zeroAlerts s.admitted) hj, answer_last _ _ _ _ _,
      hframe.comps, hframe.stations, hframe.classes, hframe.route, hframe.drops, hframe.contexts, hframe.config, hframe.clock,
      hframe.pass, ?_, ?_⟩
    · change (abortClaims (zeroAlerts s.admitted)).alerts.table[j] = _
      rw [abortClaims_alerts]
      simp [zeroAlerts, State.admitted]
    · change (abortClaims (zeroAlerts s.admitted)).slot k.reservation = _
      rw [abortClaims_slot]
      exact if_pos (List.mem_map_of_mem hk)
    · change (abortClaims (zeroAlerts s.admitted)).store.fillList = _
      rw [hstore]
      rfl
    · change (abortClaims (zeroAlerts s.admitted)).store.nextNumber = _
      rw [hstore]
      rfl
  · obtain ⟨hforced, hrun⟩ := forcedSettlement_plain (s := s.admitted) hl hst hctx hlive m
    generalize s.admitted.forced = u at hforced hrun
    obtain ⟨hopen, hroute, hcontexts, hqueue, hlist, hd, hslot, hnumber⟩ := endRoute_sound (reason := .reset) (s := u) (i := i)
      (reads := reads) (by rw [hforced.store]; exact hl) (by rw [hforced.route]; exact hres) (by rw [hforced.drops]; exact hdrops)
      (by rw [hforced.array]; exact hread)
    obtain ⟨-, hnodrops, -, hwindow⟩ := endRoute_ended hopen
    have hframe := abortClaims_frame (endRoute .reset u)
    have hstore := abortClaims_store (endRoute .reset u)
    have hroute' : (abortClaims (endRoute .reset u)).route
        = { s.route with closeTime := some s.now, reservation := none, state := .noRoute, closeReason := some .reset } := by
      rw [hframe.route, hroute, hforced.route]
      rfl
    have hslot' : (abortClaims (endRoute .reset u)).slot i = (endRoute .reset u).slot i :=
      abortClaims_slot_other (by rw [hqueue, hforced.claims]; exact hclaims)
    have hbody : routeCloseBody .reset (dropsNotVisited u) = .routeClose
        { closeTime := u.route.closeTime.getD 0, reason := .reset,
          comps := (compartments.filter fun c => (u.comp c).window.armed).map fun c => (c, (u.comp c).account, (u.comp c).totals)
          drops := (dropsNotVisited u).drops.map fun d => (d.number, d.site, d.state, d.record) } := rfl
    rw [hbody] at hslot
    have hexec := exec_monitorReset h (ops := []) (by simp)
    rw [runMonitorReset_route (s := s.admitted) hl (by simp [State.onRoute, State.admitted, hst]), hrun,
      endForced_unlocked hopen hforced.completions] at hexec
    refine ⟨_, hd, _, hexec, ?_, ?_, ?_, ?_, ?_, ?_, abortClaims_queue _, fun c => ?_, hslot'.trans hslot, ?_, rfl, ?_, ?_, ?_, ?_⟩
    · exact congrArg (·.state) hroute'
    · exact congrArg (·.closeReason) hroute'
    · exact congrArg (·.closeTime) hroute'
    · exact congrArg (·.reservation) hroute'
    · exact hframe.drops.trans hnodrops
    · exact (hframe.contexts.trans hcontexts).trans (hforced.contexts.trans hctx)
    · change ((abortClaims (endRoute .reset u)).comp c).window.armed = false ∧ ((abortClaims (endRoute .reset u)).comp c).window.events = []
      rw [State.comp_congr hframe.comps, hwindow]
      exact ⟨rfl, rfl⟩
    · rw [hnumber, hforced.store]
      rfl
    · rw [hforced.route]
      rfl
    · change (abortClaims (endRoute .reset u)).store.fillList = _
      rw [hstore, hlist, hforced.store]
      rfl
    · change (abortClaims (endRoute .reset u)).store.lockout = false
      rw [hstore]
      exact hopen
    · rw [answer_last, State.forcedClose, hroute', hforced.store]
      rfl

end

section
/-! SUPPORT. The seeding of the compartments and the opening of a route (R55, R82, R83, R115, R152). -/
namespace Sys2Proof.Machine

/-! ### Seeding (R55, R82, R83) -/

/-- The account of compartment c as a route that opens at t begins it (R82, R83). -/
def State.openingAccount (s : State) (c : Fin 4) (t : Nat) : Account :=
  if (s.comp c).profile.enabled then
    (governing (s.comp c).profile.freshness (s.seedAccount c t).readings t).elim (s.seedAccount c t) fun v =>
      accountTgValue (s.comp c).profile (s.seedAccount c t) v t
  else s.seedAccount c t

/-- Compartment c as a route that opens at t begins it. -/
def State.openingComp (s : State) (c : Fin 4) (t : Nat) : Comp :=
  { profile := (s.comp c).profile, window := seedWindow (s.comp c).profile.enabled t, account := s.openingAccount c t,
    doors := s.seedDoors c t, totals := {} }

theorem seedThermal_some {c : Fin 4} {t : Nat} {s : State} {v : Int}
    (h : governing (s.comp c).profile.freshness (s.comp c).account.readings t = some v) :
    seedThermal c t s = setTg c t (some v) s := by simp only [seedThermal, h]

theorem seedThermal_none {c : Fin 4} {t : Nat} {s : State}
    (h : governing (s.comp c).profile.freshness (s.comp c).account.readings t = none) :
    seedThermal c t s = raise .noData (.compartment c) none s := by simp only [seedThermal, h]

theorem seeded_at (s : State) (t : Nat) (c : Fin 4) : AtComp c s (s.seeded t c) :=
  ⟨rfl, fun k hk => by rw [seeded_comp, if_neg hk]⟩

/-- Seeding sets one compartment. -/
theorem seedComp_at (t : Nat) (s : State) (c : Fin 4) :
    AtComp c s (seedComp t s c) ∧ (seedComp t s c).comp c = s.openingComp c t := by
  have hat := seeded_at s t c
  have hcomp := seeded_comp s t c c
  rw [if_pos rfl] at hcomp
  rw [seedComp_eq, State.openingComp, State.openingAccount]
  split
  · cases hv : governing (s.comp c).profile.freshness (s.seedAccount c t).readings t with
    | none =>
      rw [seedThermal_none (by rw [hcomp]; exact hv)]
      exact ⟨hat.trans (raise_at c _ _ _ _), hcomp⟩
    | some v =>
      obtain ⟨htg, hset⟩ := setTg_some c t v (s.seeded t c)
      rw [seedThermal_some (by rw [hcomp]; exact hv), hset, hcomp]
      exact ⟨hat.trans htg, rfl⟩
  · exact ⟨hat, hcomp⟩

/-- What a compartment is seeded with depends on the stations and on its own profile and doors. -/
theorem openingComp_congr {s t : State} {c : Fin 4} (hs : t.stations = s.stations) (hc : t.comp c = s.comp c) (n : Nat) :
    t.openingComp c n = s.openingComp c n := by
  simp only [State.openingComp, State.openingAccount, State.seedAccount, State.seedDoors, State.seedReading, State.seedDoor,
    State.probeAt, State.contactOf, hs, hc]

/-- The compartments of the list are seeded one by one. -/
theorem foldl_seedComp (t : Nat) {l : List (Fin 4)} (hl : l.Nodup) (s : State) :
    Accounted s (l.foldl (seedComp t) s)
      ∧ ∀ c, (l.foldl (seedComp t) s).comp c = if c ∈ l then s.openingComp c t else s.comp c := by
  induction l generalizing s with
  | nil => exact ⟨.refl s, fun c => by simp⟩
  | cons c l ih =>
    obtain ⟨hnot, hnodup⟩ := List.nodup_cons.1 hl
    obtain ⟨hat, hcomp⟩ := seedComp_at t s c
    obtain ⟨hrest, hcomps⟩ := ih hnodup (seedComp t s c)
    refine ⟨hat.accounted.trans hrest, fun k => ?_⟩
    rw [List.foldl_cons, hcomps]
    by_cases hk : k = c
    · subst hk
      rw [if_neg hnot, if_pos List.mem_cons_self, hcomp]
    · have hother := hat.others k hk
      rw [openingComp_congr hat.accounted.stations hother, hother]
      simp [hk]

theorem openingAccount_disabled {s : State} {c : Fin 4} (h : (s.comp c).profile.enabled = false) (t : Nat) :
    s.openingAccount c t = {} := by
  simp [State.openingAccount, State.seedAccount, h]

/-- An account begins with nothing charged. -/
theorem openingAccount_zero (s : State) (c : Fin 4) (t : Nat) :
    (s.openingAccount c t).e = 0 ∧ (s.openingAccount c t).p = 0 ∧ (s.openingAccount c t).h = 0 ∧ (s.openingAccount c t).gap = 0 := by
  unfold State.openingAccount State.seedAccount
  split
  · cases governing (s.comp c).profile.freshness (Vector.ofFn fun p => s.seedReading c t p) t <;> exact ⟨rfl, rfl, rfl, rfl⟩
  · exact ⟨rfl, rfl, rfl, rfl⟩

/-- An enabled compartment's account begins on the fresh readings of its probes, with the Tg and the grade they give. -/
theorem openingAccount_enabled {s : State} {c : Fin 4} (h : (s.comp c).profile.enabled = true) (t : Nat) :
    (∀ q : Fin 4, (s.openingAccount c t).readings[q] = s.seedReading c t q)
      ∧ (s.openingAccount c t).tg = governing (s.comp c).profile.freshness (s.openingAccount c t).readings t
      ∧ (s.openingAccount c t).thermal = (s.openingAccount c t).tg.map (classify (s.comp c).profile) := by
  have hseed : s.seedAccount c t = { readings := Vector.ofFn fun p => s.seedReading c t p } := by
    rw [State.seedAccount, if_pos h]
  have hopening : s.openingAccount c t = (governing (s.comp c).profile.freshness (s.seedAccount c t).readings t).elim
      (s.seedAccount c t) fun v => accountTgValue (s.comp c).profile (s.seedAccount c t) v t := by
    rw [State.openingAccount, if_pos h]
  cases hv : governing (s.comp c).profile.freshness (s.seedAccount c t).readings t with
  | none =>
    rw [hv, Option.elim_none] at hopening
    rw [hopening, hv, hseed]
    exact ⟨fun q => by simp, rfl, rfl⟩
  | some v =>
    rw [hv, Option.elim_some] at hopening
    have hreadings : (s.openingAccount c t).readings = (s.seedAccount c t).readings := by rw [hopening]; rfl
    rw [hreadings, hv, hopening, hseed]
    exact ⟨fun q => by simp, rfl, rfl⟩

/-! ### Two FREE slots (R115) -/

theorem freeCount_of_two {s : State} {i j : Fin 256} (hij : i < j) (hi : (s.slot i).isFree = true) (hj : (s.slot j).isFree = true) :
    2 ≤ s.freeCount := by
  have hlen : s.store.slots.toList.length = 256 := by simp
  have hget : ∀ k : Fin 256, s.store.slots.toList[k.val]'(by rw [hlen]; exact k.isLt) = s.slot k := fun k => by
    simp [State.slot]
  have htake : 0 < (s.store.slots.toList.take j.val).countP Slot.isFree := by
    refine List.countP_pos_iff.2 ⟨s.slot i, ?_, hi⟩
    rw [List.mem_take_iff_getElem]
    exact ⟨i.val, by rw [hlen]; omega, hget i⟩
  have hdrop : 0 < (s.store.slots.toList.drop j.val).countP Slot.isFree := by
    refine List.countP_pos_iff.2 ⟨s.slot j, ?_, hj⟩
    rw [List.mem_drop_iff_getElem]
    exact ⟨0, by rw [hlen]; omega, by simpa using hget j⟩
  have hsplit : s.freeCount = (s.store.slots.toList.take j.val).countP Slot.isFree + (s.store.slots.toList.drop j.val).countP Slot.isFree := by
    rw [State.freeCount, ← List.countP_append, List.take_append_drop]
  omega

/-! ### ROUTE_OPEN (R115, R152) -/

theorem routeOpen_frame {m : CmdHdr} {ops : List Byte} (hs : sourceOk m.src = true) (hlen : ops.length ≤ 239) :
    CommandFrame (runGated cmdRouteOpen m (judgeRouteOpen ops)) (.routeOpen m ops) :=
  commandFrame_of hs (payload := cmdRouteOpen :: ops) (by simp only [List.length_cons]; omega) fun _ => rfl

/-- s with a route begun on slot i, at the end of the seeding. -/
def State.routeSeeded (s : State) (id : Nat) (i : Fin 256) : State := compartments.foldl (seedComp s.now) (beginRoute id i s)

/-- Beginning and seeding a route touch the route, the compartments and slot i, and nothing else but the alerts. -/
theorem routeSeeded_parts (s : State) (id : Nat) (i : Fin 256) :
    Accounted ((s.identified id i).setSlot i .reserved) (s.routeSeeded id i)
      ∧ ∀ c, (s.routeSeeded id i).comp c = s.openingComp c s.now := by
  have htold : Told ((s.identified id i).setSlot i .reserved) (beginRoute id i s) := by
    rw [beginRoute_eq]
    exact reserveSlot_told i _
  obtain ⟨haccounted, hcomps⟩ := foldl_seedComp s.now (l := compartments) (by decide) (beginRoute id i s)
  refine ⟨htold.accounted.trans haccounted, fun c => ?_⟩
  rw [State.routeSeeded, hcomps, if_pos (mem_compartments c)]
  exact openingComp_congr htold.stations (htold.comp c) s.now

theorem judgeRouteOpen_some {ops : List Byte} {id : Nat} {s : State} (hid : parseWord ops = some id)
    (hst : s.route.state = .noRoute) (ht : s.clock.timeSet = true) (henabled : ∃ c, (s.comp c).profile.enabled = true)
    (hfree : 2 ≤ s.freeCount) {i : Fin 256} (hi : s.lowestFree = some i) :
    judgeRouteOpen ops s = .ok (markNone, [], openRoute id i s) := by
  have hany : (compartments.any fun c => (s.comp c).profile.enabled) = true := by
    obtain ⟨c, hc⟩ := henabled
    exact List.any_eq_true.2 ⟨c, mem_compartments c, hc⟩
  have hoff := (onRoute_false_iff s).2 hst
  simp only [judgeRouteOpen, hid, hoff, ht, hany, hi, Nat.not_lt.2 hfree]
  rfl

end Sys2Proof.Machine
end

section
open Sys2Proof Sys2Proof.Machine

/-- Settles O51: the checks in their order, and the record filled into the second FREE slot once the compartments are seeded. -/
theorem routeOpenBeginsRoute : Obligations.RouteOpenBeginsRoute := by
  refine ⟨fun s m h => ⟨fun ops hops hlen => ?_, fun ops hops => ⟨fun hst => ?_, fun hst ht => ⟨fun hdisabled => ?_, fun henabled hfree => ?_⟩⟩⟩,
    fun s m i3 i2 i1 i0 reads i j h hst ht henabled hi hij hj hbetween hread => ?_⟩
  · refine gated_refused (routeOpen_frame h.1.2.1 hlen) h ?_
    rw [judgeRouteOpen, parseWord_none hops]
  · obtain ⟨id, hid⟩ := Option.isSome_iff_exists.1 (parseWord_length.2 hops)
    refine gated_refused (routeOpen_frame h.1.2.1 (by omega)) h ?_
    rcases hst with hst | ht
    · have hon : s.admitted.onRoute = true := (onRoute_iff _).2 hst
      simp only [judgeRouteOpen, hid, hon, if_true]
    · have ht' : s.admitted.clock.timeSet = false := ht
      simp only [judgeRouteOpen, hid, ht']
      split <;> rfl
  · obtain ⟨id, hid⟩ := Option.isSome_iff_exists.1 (parseWord_length.2 hops)
    refine gated_refused (routeOpen_frame h.1.2.1 (by omega)) h ?_
    have hoff : s.admitted.onRoute = false := (onRoute_false_iff _).2 hst
    have ht' : s.admitted.clock.timeSet = true := ht
    have hnone : (compartments.any fun c => (s.admitted.comp c).profile.enabled) = false :=
      List.any_eq_false.2 fun c _ => by rw [show (s.admitted.comp c).profile.enabled = false from hdisabled c]; simp
    simp only [judgeRouteOpen, hid, hoff, ht', hnone]
    rfl
  · obtain ⟨id, hid⟩ := Option.isSome_iff_exists.1 (parseWord_length.2 hops)
    refine gated_refused (routeOpen_frame h.1.2.1 (by omega)) h ?_
    have hoff : s.admitted.onRoute = false := (onRoute_false_iff _).2 hst
    have ht' : s.admitted.clock.timeSet = true := ht
    obtain ⟨c, hc⟩ := henabled
    have hany : (compartments.any fun c => (s.admitted.comp c).profile.enabled) = true :=
      List.any_eq_true.2 ⟨c, mem_compartments c, hc⟩
    have hfew : s.admitted.freeCount < 2 := hfree
    simp only [judgeRouteOpen, hid, hoff, ht', hany, hfew]
    rfl
  · obtain ⟨id, hid⟩ : ∃ id, id = ((i3.toNat * 256 + i2.toNat) * 256 + i1.toNat) * 256 + i0.toNat := ⟨_, rfl⟩
    have hjudge := judgeRouteOpen_some (s := s.admitted) ((parseWord_four i3 i2 i1 i0).trans (congrArg some hid.symm)) hst ht henabled
      (freeCount_of_two hij hi.1 hj) (lowestFree_of_firstFree hi)
    obtain ⟨haccounted, hcomps⟩ := routeSeeded_parts s.admitted id i
    obtain ⟨u, hu⟩ : ∃ u, u = s.admitted.routeSeeded id i := ⟨_, rfl⟩
    rw [← hu] at haccounted hcomps
    have hslots : ∀ k, u.slot k = if k = i then .reserved else s.slot k := fun k => by
      rw [haccounted.slot, State.setSlot_slot]
      rfl
    have hfirst : u.firstFree j := by
      refine ⟨by rw [hslots, if_neg (Fin.ne_of_gt hij)]; exact hj, fun k hk => ?_⟩
      rw [hslots]
      split
      · rfl
      · next hne =>
        rcases Nat.lt_or_gt_of_ne (fun e => hne (Fin.ext e)) with hlt | hgt
        · exact hi.2 k hlt
        · exact hbetween k hgt hk
    have hul : u.store.lockout = false := by rw [haccounted.store]; exact h.2
    have hfill : fillRouteOpen u = fillFree j (routeOpenBody u) u := by
      simp only [fillRouteOpen, lowestFree_of_firstFree hfirst]
    have htold := fillFree_sound hul (by rw [haccounted.array]; exact hread) j (routeOpenBody u)
    have hopen : openRoute id i s.admitted = (fillFree j (routeOpenBody u) u).opened := by
      rw [openRoute_eq, ← hfill, hu]
      rfl
    rw [hopen] at hjudge
    have hexec := gated_done (routeOpen_frame h.1.2.1 (by simp)) h (fun s x hx => judgeRouteOpen_upholds hx) hjudge
    generalize fillFree j (routeOpenBody u) u = v at htold hexec
    have hbody : routeOpenBody u = .routeOpen
        { openTime := u.route.openTime, settings := u.config, profiles := u.comps.map (·.profile), classes := u.classes
          seeds := (compartments.filter fun c => (u.comp c).profile.enabled).map fun c => (c, seedEntry (u.comp c))
          drops := u.drops.map fun d => (d.number, d.site, d.items.length) } := rfl
    have hslotJ : v.slot j = .filled (u.fillHeader (routeOpenBody u)) (routeOpenBody u) := by
      rw [htold.slot]
      exact (State.setSlot_slot u j j _).trans (if_pos rfl)
    have hslotI : v.slot i = .reserved := by
      rw [htold.slot]
      refine (writeRecord_other (Fin.ne_of_lt hij) _ u).trans ?_
      rw [hslots, if_pos rfl]
    have hcomp : ∀ c, v.comp c = s.openingComp c s.now := fun c => (htold.comp c).trans (hcomps c)
    rw [hbody] at hslotJ
    have hroute : v.route = { s.route with
        id := id, openTime := s.now, closeTime := none, closeReason := none, reservation := some i } := by
      rw [htold.route]
      exact haccounted.route
    have hheader : (u.fillHeader (routeOpenBody u)).number = s.store.nextNumber ∧ (u.fillHeader (routeOpenBody u)).routeId = id := by
      have hstore := haccounted.store
      have hid' := haccounted.route
      exact ⟨by rw [State.fillHeader, hstore]; rfl, by rw [State.fillHeader, hid']; rfl⟩
    have hlist : v.store.fillList = s.store.fillList ++ [j] := by
      rw [htold.store]
      change u.store.fillList ++ [j] = _
      rw [haccounted.store]
      rfl
    refine ⟨_, _, _, hexec, rfl, ?_, ?_, ?_, ?_, ?_, hslotI, hslotJ, hheader.1, ?_, ?_, haccounted.config, haccounted.classes, hlist, ?_, fun c => ?_,
      htold.drops.trans haccounted.drops, htold.contexts.trans haccounted.contexts, htold.stations.trans haccounted.stations,
      htold.classes.trans haccounted.classes, htold.config.trans haccounted.config, htold.claims.trans haccounted.claims, ?_⟩
    · rw [← hid]
      exact congrArg (·.id) hroute
    · exact congrArg (·.openTime) hroute
    · exact congrArg (·.closeTime) hroute
    · exact congrArg (·.closeReason) hroute
    · exact congrArg (·.reservation) hroute
    · exact hheader.2.trans (congrArg (·.id) hroute).symm
    · rw [haccounted.route]
      rfl
    · change v.store.lockout = false
      rw [htold.store]
      exact hul
    · have hc : (answer cmdRouteOpen m (.done markNone []) v.opened).comp c = s.openingComp c s.now := hcomp c
      rw [hc]
      obtain ⟨he, hp, hh, hgap⟩ := openingAccount_zero s c s.now
      exact ⟨rfl, rfl, rfl, he, hp, hh, hgap, fun hoff => openingAccount_disabled hoff _, fun hon => openingAccount_enabled hon _⟩
    · rw [answer_done_replies]
      have htrunk : v.ports.trunk = s.admitted.ports.trunk := htold.trunk.trans haccounted.trunk
      change v.ports.trunk.replies ++ _ = _
      rw [htrunk]
      rfl

end

section
/-! SUPPORT. Field frames as they arrive: the Station Table first, what a repeat and an unknown source make of it, and the up direction of the Pass Path (R5, R8 to R11, R13, R19, R27 to R30). -/
namespace Sys2Proof.Machine

/-! ### The rows of the field line -/

/-- Row i is the arrival of frame f on the field line, handed on by take (R3, R5). -/
structure FieldRow (f : Frame) (take : State → State) (i : Instr) : Prop where
  exec_eq : ∀ s, exec i s = .next (whileWorking (arrives .field f take) s)
  ends : ∀ s, Ends 0 s (take s)

/-- An error-free frame that a listening port receives is counted and handed on (R3, R7). -/
theorem FieldRow.taken {dst typ : Byte} {h : Hdr} {payload : List Byte} {take : State → State} {i : Instr}
    (hrow : FieldRow (fieldFrame dst typ h payload) take i) {s : State} (hw : s.working = true)
    (hq : s.ports.field.sending = none) (hs : sourceOk h.src = true) (hf : h.flags.getLsbD 0 = false) (hd : dst ≠ 0)
    (hp : payload.length ≤ 240) : exec i s = .next (take (countReceived .field s)) := by
  have harr : arrives .field (fieldFrame dst typ h payload) take s = take (countReceived .field s) := by
    simp [arrives, whileListening, State.listens, hq, frameFailure_field hs hf hd hp]
  rw [hrow.exec_eq]
  exact next_ends hw (arrives_ends hrow.ends s) harr

/-- A frame from a known station that is no repeat goes to the known source's rule (R27, R28). -/
theorem FieldRow.hears {dst typ : Byte} {h : Hdr} {payload : List Byte} {unknown : State → State} {known : Station → State → State}
    {i : Instr} (hrow : FieldRow (fieldFrame dst typ h payload) (stationFirst (fieldFrame dst typ h payload) unknown known) i)
    {s : State} {e : Station} (hh : s.hears h e) (hd : dst ≠ 0) (hp : payload.length ≤ 240) :
    exec i s = .next (known e (s.heard h)) := by
  have hfirst := stationFirst_hears (dst := dst) (typ := typ) (payload := payload) hh unknown known
  obtain ⟨hw, hq, hs, hf, -, -⟩ := hh
  rw [hrow.taken hw hq hs hf hd hp, hfirst]

/-- A frame from an unknown source is reported and counted, and goes to the unknown source's rule (R29). -/
theorem FieldRow.unheard {dst typ : Byte} {h : Hdr} {payload : List Byte} {unknown : State → State} {known : Station → State → State}
    {i : Instr} (hrow : FieldRow (fieldFrame dst typ h payload) (stationFirst (fieldFrame dst typ h payload) unknown known) i)
    {s : State} (hw : s.working = true) (hq : s.ports.field.sending = none) (hs : sourceOk h.src = true)
    (hf : h.flags.getLsbD 0 = false) (hfind : s.findStation h.src = none) (hd : dst ≠ 0) (hp : payload.length ≤ 240) :
    exec i s = .next (unknown (reportUnknown h.src typ (countReceived .field s))) := by
  have hfind' : (countReceived .field s).findStation (fieldFrame dst typ h payload).src = none := hfind
  rw [hrow.taken hw hq hs hf hd hp]
  simp only [stationFirst, hfind']
  rfl

/-- A repeat is counted at its entry and in the table; outside LOCKOUT it goes no further (R28). -/
theorem FieldRow.repeated {dst typ : Byte} {h : Hdr} {payload : List Byte} {unknown : State → State} {known : Station → State → State}
    {i : Instr} (hrow : FieldRow (fieldFrame dst typ h payload) (stationFirst (fieldFrame dst typ h payload) unknown known) i)
    {s : State} {e : Station} (hw : s.working = true) (hq : s.ports.field.sending = none) (hs : sourceOk h.src = true)
    (hf : h.flags.getLsbD 0 = false) (hfind : s.findStation h.src = some e) (hseen : e.seqSeen = true) (hseq : e.lastSeq = h.seq)
    (hl : s.store.lockout = false) (hd : dst ≠ 0) (hp : payload.length ≤ 240) :
    exec i s = .next (countRepeat h.src (countReceived .field s)) := by
  have hfind' : (countReceived .field s).findStation (fieldFrame dst typ h payload).src = some e := hfind
  have hrep : isRepeat e (fieldFrame dst typ h payload) = true := by simp [isRepeat, fieldFrame, hseen, hseq]
  have hopen : (countRepeat h.src (countReceived .field s)).lockedOut = false := hl
  have hdrop : dropRepeat (fieldFrame dst typ h payload) (countReceived .field s) = countRepeat h.src (countReceived .field s) :=
    if_neg (by rw [show (fieldFrame dst typ h payload).src = h.src from rfl, hopen]; simp)
  rw [hrow.taken hw hq hs hf hd hp]
  simp only [stationFirst, hfind', hrep, if_true, hdrop]

/-- A field frame handed on goes to the Station Table first; one past the device is offered up when its source is unknown (R5, R29). -/
def StationRule (f : Frame) (take : State → State) : Prop :=
  ∃ unknown known, (∀ s, take s = stationFirst f unknown known s) ∧ (f.dst ≠ deviceAddr → ∀ s, unknown s = offerUp { unknown := true } f s)

theorem takeSample_rule (f : Frame) : StationRule f (takeSample f) := ⟨fun s => passRead f (s, { unknown := true }), _, fun _ => rfl, fun hd _ => if_neg hd⟩
theorem takeDoorState_rule (f : Frame) : StationRule f (takeDoorState f) := ⟨fun s => passRead f (s, { unknown := true }), _, fun _ => rfl, fun hd _ => if_neg hd⟩
theorem takePassUp_rule (f : Frame) : StationRule f (takePassUp f) := ⟨_, _, fun _ => rfl, fun _ _ => rfl⟩

/-- A rule for frames to the device alone. -/
theorem stationRule_device {f : Frame} {take : State → State} {unknown : State → State} {known : Station → State → State}
    (hd : f.dst = deviceAddr) (h : ∀ s, take s = stationFirst f unknown known s) : StationRule f take :=
  ⟨unknown, known, h, fun hne => absurd hd hne⟩

theorem stationRule_request {f : Frame} {take deliver : State → State} {q : Asked} (hd : f.dst = deviceAddr)
    (h : ∀ s, take s = takeRequest f q deliver s) : StationRule f take := stationRule_device hd h

theorem fieldHandOn_rule (f : Frame) : StationRule f (fieldHandOn f) := by
  unfold fieldHandOn fieldToDevice fieldBroadcast
  by_cases hd : f.dst = deviceAddr
  · simp only [if_pos hd]
    split; · exact takeSample_rule f
    split; · exact takeDoorState_rule f
    split; · exact stationRule_request hd fun _ => rfl
    split; · exact stationRule_request hd fun _ => rfl
    split; · exact stationRule_request hd fun _ => rfl
    split; · exact stationRule_request hd fun _ => rfl
    split; · exact stationRule_request hd fun _ => rfl
    split; · exact stationRule_request hd fun _ => rfl
    split; · exact stationRule_device hd fun _ => rfl
    exact stationRule_device hd fun _ => rfl
  · simp only [if_neg hd]
    split
    · split; · exact takeSample_rule f
      split; · exact takeDoorState_rule f
      exact takePassUp_rule f
    · exact takePassUp_rule f

theorem sampleRow (dst : Byte) (h : Hdr) (payload : List Byte) :
    FieldRow (fieldFrame dst typSample h payload) (if actedOn dst then takeSample (fieldFrame dst typSample h payload)
      else takePassUp (fieldFrame dst typSample h payload)) (.sample dst h payload) := by
  refine ⟨fun _ => rfl, fun s => ?_⟩
  split
  · exact (takeSample_carries _ _ s).ends
  · exact (takePassUp_carries _ _ s).ends

theorem doorStateRow (dst : Byte) (h : Hdr) (payload : List Byte) :
    FieldRow (fieldFrame dst typDoorState h payload) (if actedOn dst then takeDoorState (fieldFrame dst typDoorState h payload)
      else takePassUp (fieldFrame dst typDoorState h payload)) (.doorState dst h payload) := by
  refine ⟨fun _ => rfl, fun s => ?_⟩
  split
  · exact (takeDoorState_carries _ _ s).ends
  · exact (takePassUp_carries _ _ s).ends

theorem passUpRow (dst typ : Byte) (h : Hdr) (payload : List Byte) :
    FieldRow (fieldFrame dst typ h payload) (fieldHandOn (fieldFrame dst typ h payload)) (.fieldFramePassUp dst typ h payload) :=
  ⟨fun _ => rfl, fun s => (fieldHandOn_carries _ _ s).ends⟩

theorem unhandledRow (typ : Byte) (h : Hdr) (payload : List Byte) :
    FieldRow (fieldFrame deviceAddr typ h payload) (fieldHandOn (fieldFrame deviceAddr typ h payload))
      (.unhandledFrame .field typ h payload []) := ⟨fun _ => rfl, fun s => (fieldHandOn_carries _ _ s).ends⟩

theorem stopArriveRow (h : Hdr) (payload : List Byte) : FieldRow (fieldFrame deviceAddr typStopArrive h payload)
    (takeStopArrive (fieldFrame deviceAddr typStopArrive h payload)) (.stopArrive h payload) :=
  ⟨fun _ => rfl, fun s => (takeStopArrive_carries _ _ s).ends⟩

theorem stopDepartRow (h : Hdr) (payload : List Byte) : FieldRow (fieldFrame deviceAddr typStopDepart h payload)
    (takeStopDepart (fieldFrame deviceAddr typStopDepart h payload)) (.stopDepart h payload) :=
  ⟨fun _ => rfl, fun s => (takeStopDepart_carries _ _ s).ends⟩

theorem handoverOpenRow (h : Hdr) (payload : List Byte) : FieldRow (fieldFrame deviceAddr typHandoverOpen h payload)
    (takeHandoverOpen (fieldFrame deviceAddr typHandoverOpen h payload)) (.handoverOpen h payload) :=
  ⟨fun _ => rfl, fun s => (takeHandoverOpen_carries _ _ s).ends⟩

theorem itemConfirmRow (h : Hdr) (payload : List Byte) : FieldRow (fieldFrame deviceAddr typItemConfirm h payload)
    (takeItemConfirm (fieldFrame deviceAddr typItemConfirm h payload)) (.itemConfirm h payload) :=
  ⟨fun _ => rfl, fun s => (takeItemConfirm_carries _ _ s).ends⟩

theorem handoverCloseRow (h : Hdr) (payload : List Byte) : FieldRow (fieldFrame deviceAddr typHandoverClose h payload)
    (takeHandoverClose (fieldFrame deviceAddr typHandoverClose h payload)) (.handoverClose h payload) :=
  ⟨fun _ => rfl, fun s => (takeHandoverClose_carries _ _ s).ends⟩

theorem handoverAbortRow (h : Hdr) (payload : List Byte) : FieldRow (fieldFrame deviceAddr typHandoverAbort h payload)
    (takeHandoverAbort (fieldFrame deviceAddr typHandoverAbort h payload)) (.handoverAbort h payload) :=
  ⟨fun _ => rfl, fun s => (takeHandoverAbort_carries _ _ s).ends⟩

theorem terminalLodgeRow (h : Hdr) (payload : List Byte) : FieldRow (fieldFrame deviceAddr typClaimLodge h payload)
    (takeClaimLodge (fieldFrame deviceAddr typClaimLodge h payload)) (.terminalClaimLodge h payload) :=
  ⟨fun _ => rfl, fun s => (takeClaimLodge_carries _ _ s).ends⟩

/-- Every field row goes to the Station Table first (R5, R27). -/
theorem fieldRow_of {i : Instr} {h : Hdr} {dst typ : Byte} {payload : List Byte} (hi : fieldRow? i = some (h, dst, typ, payload)) :
    ∃ take, FieldRow (fieldFrame dst typ h payload) take i ∧ StationRule (fieldFrame dst typ h payload) take := by
  unfold fieldRow? at hi
  split at hi <;> cases hi
  · refine ⟨_, sampleRow _ _ _, ?_⟩
    split
    · exact takeSample_rule _
    · exact takePassUp_rule _
  · refine ⟨_, doorStateRow _ _ _, ?_⟩
    split
    · exact takeDoorState_rule _
    · exact takePassUp_rule _
  · exact ⟨_, passUpRow _ _ _ _, fieldHandOn_rule _⟩
  · exact ⟨_, stopArriveRow _ _, stationRule_request rfl fun _ => rfl⟩
  · exact ⟨_, stopDepartRow _ _, stationRule_request rfl fun _ => rfl⟩
  · exact ⟨_, handoverOpenRow _ _, stationRule_request rfl fun _ => rfl⟩
  · exact ⟨_, itemConfirmRow _ _, stationRule_request rfl fun _ => rfl⟩
  · exact ⟨_, handoverCloseRow _ _, stationRule_request rfl fun _ => rfl⟩
  · exact ⟨_, handoverAbortRow _ _, stationRule_request rfl fun _ => rfl⟩
  · exact ⟨_, terminalLodgeRow _ _, stationRule_device rfl fun _ => rfl⟩
  · exact ⟨_, unhandledRow _ _ _, fieldHandOn_rule _⟩

/-! ### Unhandled types (R5) -/

theorem fieldToDevice_unhandled {f : Frame} (h : fieldTypes.contains f.typ = false) : fieldToDevice f = takeUnhandledField f := by
  simp only [fieldTypes, List.contains_eq_mem, decide_eq_false_iff_not, List.mem_cons, not_or] at h
  obtain ⟨h1, h2, h3, h4, h5, h6, h7, h8, h9, -⟩ := h
  rw [fieldToDevice, if_neg h1, if_neg h2, if_neg h3, if_neg h4, if_neg h5, if_neg h6, if_neg h7, if_neg h8, if_neg h9]

theorem unhandledTypeRow {typ : Byte} (h : fieldTypes.contains typ = false) (hd : Hdr) (payload : List Byte) :
    FieldRow (fieldFrame deviceAddr typ hd payload)
      (stationFirst (fieldFrame deviceAddr typ hd payload) (countUnhandled .field) fun _ s => countUnhandled .field s)
      (.unhandledFrame .field typ hd payload []) := by
  have hrow := unhandledRow typ hd payload
  have hon : fieldHandOn (fieldFrame deviceAddr typ hd payload) = fieldToDevice (fieldFrame deviceAddr typ hd payload) := if_pos rfl
  rw [hon, fieldToDevice_unhandled h] at hrow
  exact hrow

theorem trunkToDevice_unhandled {f : Frame} (h : trunkTypes.contains f.typ = false) : trunkToDevice f = countUnhandled .trunk := by
  simp only [trunkTypes, List.contains_eq_mem, decide_eq_false_iff_not, List.mem_cons, not_or] at h
  obtain ⟨h1, h2, -⟩ := h
  rw [trunkToDevice, if_neg h1, if_neg h2]

theorem exec_unhandledTrunk {s : State} {typ : Byte} {h : Hdr} {payload trailer : List Byte} (hw : s.working = true)
    (htyp : trunkTypes.contains typ = false) (hok : trunkOk h payload trailer = true) :
    exec (.unhandledFrame .trunk typ h payload trailer) s = .next (countUnhandled .trunk (countReceived .trunk s)) := by
  have hon : handOn .trunk (trailedFrame deviceAddr typ h payload trailer) = countUnhandled .trunk := by
    have hdev : trunkHandOn (trailedFrame deviceAddr typ h payload trailer)
        = trunkToDevice (trailedFrame deviceAddr typ h payload trailer) := if_pos rfl
    exact hdev.trans (trunkToDevice_unhandled (f := trailedFrame deviceAddr typ h payload trailer) htyp)
  have harr := trunkArrives (typ := typ) hw hok (by decide : deviceAddr ≠ 0) (run := countUnhandled .trunk) rfl
  exact congrArg Host.Outcome.next (by rw [hon, harr])

/-! ### The up direction (R8 to R11, R13, R19) -/

/-- The entry of a station changed is the one it had, changed. -/
theorem updStation_findStation {f : Station → Station} (hf : ∀ e, (f e).addr = e.addr) (a : Byte) (s : State) :
    (s.updStation a f).findStation a = (s.findStation a).map f := by
  have haddr : ((fun e => decide (e.addr = a)) ∘ fun e : Station => if e.addr = a then f e else e)
      = fun e => decide (e.addr = a) := funext fun e => by
    simp only [Function.comp]
    split
    · rw [hf]
    · rfl
  unfold State.findStation State.updStation
  dsimp only
  rw [List.find?_map, haddr]
  cases hfind : s.stations.entries.find? fun e => decide (e.addr = a) with
  | none => rfl
  | some e =>
    have he : e.addr = a := by simpa using List.find?_some hfind
    simp [he]

/-- The entry of a station heard is the one it had, its number taken (R28). -/
theorem heard_findStation {s : State} {h : Hdr} {e : Station} (hfind : s.findStation h.src = some e) :
    (s.heard h).findStation h.src = some (takeSequence h.seq e) := by
  rw [State.heard, updStation_findStation (f := takeSequence h.seq) (fun _ => rfl)]
  exact congrArg (Option.map (takeSequence h.seq)) hfind

theorem classByte_up_known {s : State} {f : Frame} {e : Station} (h : s.findStation f.src = some e) :
    s.classByte .up f = e.override.getD s.pass.classTable[f.typ.toFin] := by
  simp only [State.classByte, h]

theorem classByte_up_unknown {s : State} {f : Frame} (h : s.findStation f.src = none) :
    s.classByte .up f = s.pass.classTable[f.typ.toFin] := by
  simp only [State.classByte, h]

theorem passes_up_iff (f : Frame) (s : State) :
    s.passes .up f = true ↔ s.classByte .up f &&& (if s.onRoute then s.pass.upRoute else s.pass.upIdle) ≠ 0 := by
  simp only [State.passes, State.maskInForce, bne_iff_ne]

section OfferUp
variable {m : Marks} {f : Frame} {s : State} {cls mask : Byte} (hcls : s.classByte .up f = cls)
  (hmask : mask = if s.onRoute then s.pass.upRoute else s.pass.upIdle) (hl : s.store.lockout = false)
include hcls hmask hl

/-- A frame that meets the mask in force goes up with its annotation (R9, R11). -/
theorem offerUp_meets (h : cls &&& mask ≠ 0) : offerUp m f s = joinFifo .up (annotate m s f) s := by
  have hpass : s.passes .up f = true := (passes_up_iff f s).2 (by rw [hcls, ← hmask]; exact h)
  rw [offerUp, if_neg (by simp [State.lockedOut, hl]), if_pos hpass]

/-- One that does not is held back (R9). -/
theorem offerUp_misses (h : cls &&& mask = 0) : offerUp m f s = holdBack .up s := by
  have hpass : ¬ s.passes .up f = true := fun hp => (passes_up_iff f s).1 hp (by rw [hcls, ← hmask]; exact h)
  rw [offerUp, if_neg (by simp [State.lockedOut, hl]), if_neg hpass]

end OfferUp

/-- In LOCKOUT every frame goes up as it came (R19). -/
theorem offerUp_locked {s : State} (hl : s.store.lockout = true) (m : Marks) (f : Frame) : offerUp m f s = joinFifo .up f s := by
  rw [offerUp, if_pos (by simp [State.lockedOut, hl])]

/-- A frame past the device that is no broadcast reading or report (R5, R30). -/
theorem passUpOnlyRow {dst typ : Byte} (hdev : dst ≠ deviceAddr) (hread : dst = broadcastAddr → typ ≠ typSample ∧ typ ≠ typDoorState)
    (h : Hdr) (payload : List Byte) :
    FieldRow (fieldFrame dst typ h payload)
      (stationFirst (fieldFrame dst typ h payload) (fun s => offerUp { unknown := true } (fieldFrame dst typ h payload) s)
        fun e s => offerUp { comp := bindingComp e.binding } (fieldFrame dst typ h payload) s)
      (.fieldFramePassUp dst typ h payload) := by
  have hon : fieldHandOn (fieldFrame dst typ h payload) = takePassUp (fieldFrame dst typ h payload) := by
    refine (if_neg hdev).trans ?_
    by_cases hb : dst = broadcastAddr
    · obtain ⟨h1, h2⟩ := hread hb
      exact (if_pos hb).trans ((if_neg h1).trans (if_neg h2))
    · exact if_neg hb
  have hrow := passUpRow dst typ h payload
  rw [hon] at hrow
  exact hrow

end Sys2Proof.Machine
end

section
open Sys2Proof Sys2Proof.Machine

/-- Settles O31: every field row goes to the Station Table first, which counts a repeat. -/
theorem repeatsGoNoFurther : Obligations.RepeatsGoNoFurther := by
  intro s i h dst typ payload e hi hd hp hw hq hs hf hl hfind hseen hseq
  obtain ⟨take, hrow, unknown, known, htake, -⟩ := fieldRow_of hi
  obtain rfl := funext htake
  rw [hrow.repeated hw hq hs hf hfind hseen hseq hl hd hp]
  rfl

/-- Settles O33: on the trunk the type is judged alone; on the field line the Station Table comes first. -/
theorem unhandledFramesAreCounted : Obligations.UnhandledFramesAreCounted := by
  refine ⟨fun s typ h payload trailer hw htyp hok => ?_, fun s typ h payload e hh htyp hp => ?_, fun s typ h payload hw hq hok htyp hfind => ?_⟩
  · rw [exec_unhandledTrunk hw htyp hok]
    rfl
  · rw [(unhandledTypeRow htyp h payload).hears hh (by decide) hp]
    rfl
  · simp only [fieldOk, Bool.and_eq_true, Bool.not_eq_true', decide_eq_true_eq] at hok
    obtain ⟨⟨hs, hf⟩, hp⟩ := hok
    rw [(unhandledTypeRow htyp h payload).unheard hw hq hs hf hfind (by decide) hp]
    rfl

end

section
/-! SUPPORT. A reading and a door report from a known station: what they make of the entry, the live door and the window (R27, R31 to R35, R89 to R92). -/
namespace Sys2Proof.Machine

/-! ### Readings (R31 to R34) -/

theorem notEarlier_of_none (t : Nat) : notEarlier t none = true := rfl

theorem notEarlier_map (t : Nat) (r : Option (Int × Nat)) : notEarlier t (r.map (·.2)) = r.all fun r => decide (r.2 ≤ t) := by
  cases r <;> rfl

theorem notEarlier_map_fault (t : Nat) (r : Option (SensorFault × Nat)) :
    notEarlier t (r.map (·.2)) = r.all fun r => decide (r.2 ≤ t) := by
  cases r <;> rfl

theorem liveReading_eq (v : Int) (t : Nat) : liveReading v t = fun x =>
    if x.latest.all (fun r => r.2 ≤ t) then { x with latest := some (v, t), faultMark := none }
    else { x with held := satInc max16 x.held } := funext fun x => by rw [liveReading, notEarlier_map]

theorem markFault_eq (k : SensorFault) (t : Nat) : markFault k t = fun x =>
    if x.latest.all (fun r => r.2 ≤ t) && x.faultMark.all (fun r => r.2 ≤ t) then { x with faultMark := some (k, t) }
    else { x with held := satInc max16 x.held } := funext fun x => by
  rw [markFault, notEarlier_map, notEarlier_map_fault]

theorem raise_updStations (k : AlertCode) (x : Subject) (v : Option Int) (f : StationTable → StationTable) (s : State) :
    (raise k x v s).updStations f = raise k x v (s.updStations f) := rfl

/-- A reading that the clamping changed is reported and counted (R33). -/
def State.clampTold (s : State) (a : Byte) (raw off : Int) : State :=
  if corrected raw off != raw + off then
    (raise .readingClamped (.station a) (some (raw + off)) s).updStations fun n => { n with clamped := satInc max32 n.clamped }
  else s

section ReadSample
variable (a : Byte) (c pos : Fin 4) (off : Int) (age : BitVec 16) {hi lo : Byte} (rest : List Byte) (s : State)

/-- A sentinel (R32). -/
theorem readSample_sentinel {k : SensorFault} (h : sentinel (int16 hi lo) = some k) :
    readSample a c pos off age (hi :: lo :: rest) s
      = (((raise .probeFault (.station a) (some (int16 hi lo)) s).updStations fun n =>
            { n with probeFaults := satInc max32 n.probeFaults }).updStation a (markFault k (s.sampleTime age)),
          { comp := some c, probeFault := true }) := by
  simp only [readSample, h]

/-- The state in which a valid reading is handed over (R33, R34). -/
def State.readingTaken (s : State) (a : Byte) (off raw : Int) (t : Nat) : State :=
  (s.clampTold a raw off).updStation a (liveReading (corrected raw off) t)

/-- A valid reading (R33 to R35). -/
theorem readSample_valid (h : sentinel (int16 hi lo) = none) :
    readSample a c pos off age (hi :: lo :: rest) s
      = (handOver c (s.sampleTime age) (.probe pos (corrected (int16 hi lo) off))
            (s.readingTaken a off (int16 hi lo) (s.sampleTime age)),
          { comp := some c, temperature := some (corrected (int16 hi lo) off),
            late := (s.readingTaken a off (int16 hi lo) (s.sampleTime age)).lateMark c (s.sampleTime age),
            clamped := corrected (int16 hi lo) off != int16 hi lo + off }) := by
  simp only [readSample, h]
  rfl

end ReadSample

theorem readSample_short {payload : List Byte} (h : payload.length < 2) (a : Byte) (c pos : Fin 4) (off : Int) (age : BitVec 16)
    (s : State) : readSample a c pos off age payload s
      = (s.updStations fun n => { n with shortReadings := satInc max32 n.shortReadings }, { comp := some c }) := by
  match payload with
  | [] => rfl
  | [_] => rfl
  | _ :: _ :: _ => simp only [List.length_cons] at h; omega

theorem sentinel_none {raw : Int} (h1 : raw ≠ -2048) (h2 : raw ≠ -2047) : sentinel raw = none := by
  rw [sentinel, if_neg h1, if_neg h2]

theorem sentinel_some {raw : Int} (h : raw = -2048 ∨ raw = -2047) :
    sentinel raw = some (if raw = -2048 then .sensorOpen else .sensorShort) := by
  unfold sentinel
  split
  · rfl
  · next h1 => rw [if_pos (h.resolve_left h1)]

theorem corrected_inRange {raw off : Int} (h1 : -880 ≤ raw + off) (h2 : raw + off ≤ 1200) : corrected raw off = raw + off := by
  unfold corrected clampInt
  rw [if_neg (by omega), if_neg (by omega)]

theorem clampTold_inRange {raw off : Int} (h1 : -880 ≤ raw + off) (h2 : raw + off ≤ 1200) (a : Byte) (s : State) :
    s.clampTold a raw off = s := by
  rw [State.clampTold, corrected_inRange h1 h2]
  exact if_neg (by simp)

theorem corrected_outside {raw off : Int} (h : raw + off < -880 ∨ 1200 < raw + off) :
    corrected raw off = if raw + off < -880 then (-880 : Int) else 1200 := by
  unfold corrected clampInt
  split
  · rfl
  · next h1 => rw [if_pos (h.resolve_left h1)]

theorem clampTold_outside {raw off : Int} (h : raw + off < -880 ∨ 1200 < raw + off) (a : Byte) (s : State) :
    s.clampTold a raw off = raise .readingClamped (.station a) (some (raw + off))
      (s.updStations fun n => { n with clamped := satInc max32 n.clamped }) := by
  have hne : corrected raw off ≠ raw + off := by rw [corrected_outside h]; split <;> omega
  rw [State.clampTold, if_pos (by simpa using hne), raise_updStations]

/-- Telling of a clamped reading moves no station, window or route. -/
theorem clampTold_accounted (s : State) (a : Byte) (raw off : Int) :
    Told { s with stations := (s.clampTold a raw off).stations } (s.clampTold a raw off) := by
  unfold State.clampTold
  split
  · exact raise_told .readingClamped (.station a) (some (raw + off)) (s.updStations fun n => { n with clamped := satInc max32 n.clamped })
  · exact .refl s

theorem readingTaken_told (s : State) (a : Byte) (off raw : Int) (t : Nat) :
    Told { s with stations := (s.readingTaken a off raw t).stations } (s.readingTaken a off raw t) := by
  have h := clampTold_accounted s a raw off
  unfold Told at h ⊢
  rw [State.readingTaken, State.updStation, h]

/-! ### Hand-over (R35, R46) -/

theorem handOver_idle {s : State} {c : Fin 4} (h : s.handsOver c = false) (t : Nat) (k : EventContent) : handOver c t k s = s := by
  rw [handOver, h]
  rfl

/-- The conditions of a hand-over are those of the route, the store and the compartment (R35, R46). -/
theorem handsOver_iff (s : State) (c : Fin 4) : s.handsOver c = true ↔
    s.onRoute = true ∧ (s.comp c).profile.enabled = true ∧ s.store.lockout = false ∧ (s.comp c).window.armed = true := by
  simp only [State.handsOver, Bool.and_eq_true, windowWorks_iff, Bool.not_eq_true', State.lockedOut]
  exact ⟨fun ⟨⟨⟨hon, hen⟩, hl⟩, _, harmed, _⟩ => ⟨hon, hen, hl, harmed⟩, fun ⟨hon, hen, hl, harmed⟩ => ⟨⟨⟨hon, hen⟩, hl⟩, hl, harmed, hon⟩⟩

theorem handsOver_congr {s t : State} (hroute : t.route = s.route) (hstore : t.store = s.store) {c : Fin 4}
    (hcomp : t.comp c = s.comp c) : t.handsOver c = s.handsOver c := by
  rw [Bool.eq_iff_iff, handsOver_iff, handsOver_iff, State.onRoute, State.onRoute, hroute, hstore, hcomp]

/-- A reading to the device (R5). -/
theorem sampleDeviceRow (h : Hdr) (payload : List Byte) :
    FieldRow (fieldFrame deviceAddr typSample h payload)
      (stationFirst (fieldFrame deviceAddr typSample h payload)
        (fun s => passRead (fieldFrame deviceAddr typSample h payload) (s, { unknown := true }))
        fun e s => passRead (fieldFrame deviceAddr typSample h payload) (readSampleFrame e (fieldFrame deviceAddr typSample h payload) s))
      (.sample deviceAddr h payload) := sampleRow deviceAddr h payload

/-- A reading to the device from a bound probe is read, and goes no further. -/
theorem exec_sampleDevice {s : State} {h : Hdr} {e : Station} {c q : Fin 4} {off : Int} {payload : List Byte} (hh : s.hears h e)
    (he : e.binding = .probe c q off) (hp : payload.length ≤ 240) :
    exec (.sample deviceAddr h payload) s = .next (readSample h.src c q off h.age payload (s.heard h)).1 := by
  rw [(sampleDeviceRow h payload).hears hh (by decide) hp]
  simp only [readSampleFrame, he]
  exact congrArg Host.Outcome.next (if_pos rfl)

/-! ### Door reports (R31, R34, R89 to R92) -/

/-- A report of a contact fault is told (R89). -/
def State.doorTold (s : State) (c : Fin 4) (p : Fin 2) (b : Byte) : State :=
  if doorStateOf b = .fault then raise .doorContactFault (.door c p) (some b.toNat) s else s

/-- The state in which a door report of sample time t is handed over: the entry and the live door have taken it (R34, R90). -/
def State.doorTaken (s : State) (a : Byte) (c : Fin 4) (p : Fin 2) (e : Station) (b : Byte) (t : Nat) : State :=
  if notEarlier t e.doorTime then
    liveDoorChange c p e.doorLive (doorStateOf b) t ((s.doorTold c p b).updStation a (liveDoor (doorStateOf b) t))
  else (s.doorTold c p b).updStation a (liveDoor (doorStateOf b) t)

theorem readDoor_byte (a : Byte) (c : Fin 4) (p : Fin 2) (e : Station) (age : BitVec 16) (b : Byte) (rest : List Byte) (s : State) :
    readDoor a c p e age (b :: rest) s
      = (handOver c (s.sampleTime age) (.door p (doorStateOf b)) (s.doorTaken a c p e b (s.sampleTime age)),
          { comp := some c, late := (s.doorTaken a c p e b (s.sampleTime age)).lateMark c (s.sampleTime age) }) := rfl

theorem doorTold_contact {b : Byte} (h : b = 0 ∨ b = 1) (s : State) (c : Fin 4) (p : Fin 2) : s.doorTold c p b = s := by
  rw [State.doorTold]
  rcases h with rfl | rfl
  · exact if_neg (by decide)
  · exact if_neg (by decide)

theorem doorStateOf_fault {b : Byte} (h0 : b ≠ 0) (h1 : b ≠ 1) : doorStateOf b = .fault := by
  rw [doorStateOf, if_neg h0, if_neg h1]

theorem doorTold_fault {b : Byte} (h0 : b ≠ 0) (h1 : b ≠ 1) (s : State) (c : Fin 4) (p : Fin 2) :
    s.doorTold c p b = raise .doorContactFault (.door c p) (some b.toNat) s := if_pos (doorStateOf_fault h0 h1)

/-- A report no earlier than the last one moves the live door (R90). -/
theorem doorTaken_later {e : Station} {t : Nat} (h : ∀ r, e.doorTime = some r → r ≤ t) (s : State) (a : Byte) (c : Fin 4) (p : Fin 2)
    (b : Byte) : s.doorTaken a c p e b t
      = liveDoorChange c p e.doorLive (doorStateOf b) t ((s.doorTold c p b).updStation a (liveDoor (doorStateOf b) t)) := by
  have hlater : notEarlier t e.doorTime = true := by
    cases hr : e.doorTime with
    | none => rfl
    | some r => exact decide_eq_true (h r hr)
  rw [State.doorTaken, if_pos hlater]

theorem doorTaken_earlier {e : Station} {t r : Nat} (hr : e.doorTime = some r) (h : t < r) (s : State) (a : Byte) (c : Fin 4)
    (p : Fin 2) (b : Byte) : s.doorTaken a c p e b t = (s.doorTold c p b).updStation a (liveDoor (doorStateOf b) t) := by
  have hearlier : ¬ notEarlier t e.doorTime = true := by rw [hr]; simp [notEarlier, h]
  rw [State.doorTaken, if_neg hearlier]

theorem updDoor_door (s : State) (c : Fin 4) (p : Fin 2) (f : DoorSlot → DoorSlot) :
    ((s.updDoor c p f).comp c).doors[p] = f (s.comp c).doors[p] := by
  simp [State.updDoor, State.updComp_comp_self]

/-- Off a route an opening begins with its deadline, and is not judged (R91, R92). -/
theorem beginOpening_offRoute {s : State} {c : Fin 4} {t : Nat} (hoff : s.onRoute = false)
    (hlater : s.now < t + (s.comp c).profile.openLimit) (hfits : t + (s.comp c).profile.openLimit ≤ max32) (p : Fin 2) :
    beginOpening c p t s = s.updDoor c p fun x =>
      { x with opening := some t, deadline := some (t + (s.comp c).profile.openLimit), liveOpenings := satInc max16 x.liveOpenings } := by
  have hdeadline : openingDeadline (s.comp c).profile.openLimit t = some (t + (s.comp c).profile.openLimit) := if_pos hfits
  have hnever : ∀ u : State, u.onRoute = false → judgeOpening c p u = u := fun u hu => by
    rw [judgeOpening, hu]
    rfl
  rw [beginOpening, hdeadline, expireOpening_early (fun d hd => ?_)]
  · exact hnever _ hoff
  · rw [updDoor_door] at hd
    have hd' : t + (s.comp c).profile.openLimit = d := Option.some.inj hd
    rw [← hd']
    exact hlater

theorem updDoor_at (c : Fin 4) (p : Fin 2) (f : DoorSlot → DoorSlot) (s : State) : AtComp c s (s.updDoor c p f) := updComp_at c _ s

theorem expireOpening_at (c : Fin 4) (p : Fin 2) (s : State) : AtComp c s (expireOpening c p s) := by
  unfold expireOpening
  split
  · split
    · exact (updDoor_at c p _ s).trans (raise_at c _ _ _ _)
    · exact .refl c s
  · exact .refl c s

theorem judgeOpening_at (c : Fin 4) (p : Fin 2) (s : State) : AtComp c s (judgeOpening c p s) := by
  unfold judgeOpening
  split
  · exact raise_at c _ _ _ s
  · exact .refl c s

/-- A change of the live door moves its compartment alone. -/
theorem liveDoorChange_at (c : Fin 4) (p : Fin 2) (old : Option DoorState) (new : DoorState) (t : Nat) (s : State) :
    AtComp c s (liveDoorChange c p old new t s) := by
  unfold liveDoorChange beginOpening endOpening
  split
  · exact .refl c s
  · split
    · exact ((updDoor_at c p _ s).trans (expireOpening_at c p _)).trans (judgeOpening_at c p _)
    · split
      · exact updDoor_at c p _ s
      · exact .refl c s

theorem doorTold_told (s : State) (c : Fin 4) (p : Fin 2) (b : Byte) : Told s (s.doorTold c p b) := by
  unfold State.doorTold
  split
  · exact raise_told _ _ _ s
  · exact .refl s

/-- A door report moves its station's entry, its compartment's door and nothing else but the alerts. -/
theorem doorTaken_at (s : State) (a : Byte) (c : Fin 4) (p : Fin 2) (e : Station) (b : Byte) (t : Nat) :
    AtComp c (s.updStation a (liveDoor (doorStateOf b) t)) (s.doorTaken a c p e b t) := by
  have htold : Told (s.updStation a (liveDoor (doorStateOf b) t)) ((s.doorTold c p b).updStation a (liveDoor (doorStateOf b) t)) := by
    have h := doorTold_told s c p b
    have hstations := h.stations
    unfold Told at h ⊢
    unfold State.updStation
    rw [hstations]
    rw [h]
  have hat : AtComp c (s.updStation a (liveDoor (doorStateOf b) t)) ((s.doorTold c p b).updStation a (liveDoor (doorStateOf b) t)) :=
    ⟨htold.accounted, fun k _ => htold.comp k⟩
  unfold State.doorTaken
  split
  · exact hat.trans (liveDoorChange_at c p _ _ t _)
  · exact hat

/-- A door report to the device from a bound contact is read, and goes no further (R5). -/
theorem exec_doorDevice {s : State} {h : Hdr} {e : Station} {c : Fin 4} {p : Fin 2} {payload : List Byte} (hh : s.hears h e)
    (he : e.binding = .door c p) (hp : payload.length ≤ 240) :
    exec (.doorState deviceAddr h payload) s = .next (readDoor h.src c p e h.age payload (s.heard h)).1 := by
  have hrow : FieldRow (fieldFrame deviceAddr typDoorState h payload)
      (stationFirst (fieldFrame deviceAddr typDoorState h payload)
        (fun s => passRead (fieldFrame deviceAddr typDoorState h payload) (s, { unknown := true }))
        fun e s => passRead (fieldFrame deviceAddr typDoorState h payload) (readDoorFrame e (fieldFrame deviceAddr typDoorState h payload) s))
      (.doorState deviceAddr h payload) := doorStateRow deviceAddr h payload
  rw [hrow.hears hh (by decide) hp]
  simp only [readDoorFrame, he]
  exact congrArg Host.Outcome.next (if_pos rfl)

end Sys2Proof.Machine
end

section
open Sys2Proof Sys2Proof.Machine

/-- Settles O28: each kind of reading is read by its own rule, and the window takes nothing. -/
theorem sampleMovesLiveReading : Obligations.SampleMovesLiveReading := by
  intro s h e c q off hh he hidle
  have hidle' : ∀ raw t, ((s.heard h).readingTaken h.src off raw t).handsOver c = false := fun raw t => by
    have htold := readingTaken_told (s.heard h) h.src off raw t
    rw [handsOver_congr htold.route htold.store (htold.comp c)]
    exact hidle
  refine ⟨fun hi lo rest hp => ⟨fun h1 h2 => ⟨fun h3 h4 => ?_, fun hout => ?_⟩, fun hsent => ?_⟩, fun payload hp => ?_⟩
  · rw [exec_sampleDevice hh he (by simp only [List.length_cons]; omega), readSample_valid _ _ _ _ _ _ _ (sentinel_none h1 h2)]
    dsimp only
    rw [handOver_idle (hidle' _ _), State.readingTaken, clampTold_inRange h3 h4, corrected_inRange h3 h4, liveReading_eq]
    rfl
  · rw [exec_sampleDevice hh he (by simp only [List.length_cons]; omega), readSample_valid _ _ _ _ _ _ _ (sentinel_none h1 h2)]
    dsimp only
    rw [handOver_idle (hidle' _ _), State.readingTaken, clampTold_outside hout, corrected_outside hout, liveReading_eq]
    rfl
  · rw [exec_sampleDevice hh he (by simp only [List.length_cons]; omega), readSample_sentinel _ _ _ _ _ _ _ (sentinel_some hsent),
      raise_updStations, markFault_eq]
    rfl
  · rw [exec_sampleDevice hh he (by omega), readSample_short hp]

/-- Settles O30: off a route a report moves the entry, and the live door when it is no earlier than the last one. -/
theorem doorReportMovesLiveDoor : Obligations.DoorReportMovesLiveDoor := by
  intro s h e c p b rest hh he hp hst
  have hread : exec (.doorState deviceAddr h (b :: rest)) s
      = .next ((s.heard h).doorTaken h.src c p e b (s.now - h.age.toNat)) := by
    rw [exec_doorDevice hh he (by simp only [List.length_cons]; omega), readDoor_byte]
    have hat := doorTaken_at (s.heard h) h.src c p e b ((s.heard h).sampleTime h.age)
    refine congrArg Host.Outcome.next (handOver_idle ?_ _ _)
    rw [State.handsOver, (onRoute_false_iff _).2 ((congrArg (·.state) hat.accounted.route).trans hst)]
    rfl
  rw [hread]
  refine ⟨fun hlater => ?_, fun ⟨r, hr, hearlier⟩ hb => ?_⟩
  · rw [doorTaken_later hlater]
    refine ⟨fun hlive hb => ?_, fun hb hlive hdue hfits => ?_, fun hb hlive => ?_, fun h0 h1 hlive => ?_⟩
    · rw [doorTold_contact hb, liveDoorChange, if_pos hlive]
    · subst hb
      have hopened : doorStateOf 1 = .opened := rfl
      rw [doorTold_contact (.inr rfl), hopened, liveDoorChange, if_neg hlive, if_pos rfl]
      exact congrArg Host.Outcome.next (beginOpening_offRoute (s := (s.heard h).updStation h.src (liveDoor .opened (s.now - h.age.toNat)))
        ((onRoute_false_iff _).2 hst) hdue hfits p)
    · subst hb
      rw [doorTold_contact (.inl rfl), liveDoorChange, hlive]
      rfl
    · rw [doorTold_fault h0 h1, doorStateOf_fault h0 h1, liveDoorChange, hlive]
      rfl
  · rw [doorTaken_earlier hr hearlier, doorTold_contact hb]

end

section
/-! SUPPORT. The hand-over outside every stop, and the copy of a broadcast reading or report that goes up (R5, R9, R11, R13, R30, R35, R47 to R52). -/
namespace Sys2Proof.Machine

/-! ### Hand-over outside every stop -/

theorem updWindow_at (c : Fin 4) (f : Window → Window) (s : State) : AtComp c s (s.updWindow c f) := updComp_at c _ s

section Alone
variable {s : State} (hl : s.store.lockout = false) (hctx : s.contexts = [])
include hl hctx

theorem retireHead_alone (c : Fin 4) (ev : PendingEvent) : AtComp c s (retireHead c ev s) := by
  obtain ⟨hcharge, -⟩ := chargeTo_alone hl hctx c ev.time
  obtain ⟨happly, -⟩ := retireHead_at (c := c) (ev := ev) (s := s) rfl (by rw [hcharge.accounted.store]; exact hl) rfl
  exact hcharge.trans happly

theorem insertAndSettle_alone (c : Fin 4) (ev : PendingEvent) : AtComp c s (insertAndSettle c ev s) := by
  have hjoin : AtComp c s (joinWindow c ev s) := updWindow_at c _ s
  unfold insertAndSettle
  dsimp only
  split
  · exact hjoin.trans (retireWhile_alone c _ _ (s := joinWindow c ev s) hl hctx)
  · exact hjoin

theorem retireArriving_alone (c : Fin 4) (ev : PendingEvent) : AtComp c s (retireArriving c ev s) := by
  obtain ⟨hcharge, -⟩ := chargeTo_alone hl hctx c ev.time
  obtain ⟨happly, -⟩ := applyEvent_at c ev (chargeTo c ev.time s)
  unfold retireArriving
  dsimp only
  rw [if_neg (hcharge.accounted.unlocked hl)]
  exact ((hcharge.trans happly).trans (updComp_at c _ _)).trans (raise_at c _ _ _ _)

theorem replaceEarliest_alone (c : Fin 4) (x ev : PendingEvent) : AtComp c s (replaceEarliest c x ev s) := by
  have hretire := retireHead_alone hl hctx c x
  have hreport : AtComp c s (reportForced c x.time (retireHead c x s)) :=
    (hretire.trans (updComp_at c _ _)).trans (raise_at c _ _ _ _)
  unfold replaceEarliest
  dsimp only
  rw [if_neg (hretire.accounted.unlocked hl)]
  exact hreport.trans (insertAndSettle_alone (by rw [hreport.accounted.store]; exact hl) (by rw [hreport.accounted.contexts]; exact hctx) c ev)

theorem insertIntoWindow_alone (c : Fin 4) (ev : PendingEvent) : AtComp c s (insertIntoWindow c ev s) := by
  unfold insertIntoWindow
  split
  · split
    · exact insertAndSettle_alone hl hctx c ev
    · split
      · exact retireArriving_alone hl hctx c ev
      · exact replaceEarliest_alone hl hctx c _ ev
  · exact insertAndSettle_alone hl hctx c ev

/-- Outside every stop a hand-over moves its compartment alone. -/
theorem handOver_alone (c : Fin 4) (t : Nat) (k : EventContent) : AtComp c s (handOver c t k s) := by
  have hnumber : AtComp c s (numberArrival c s) := updWindow_at c _ s
  unfold handOver takeEvent
  dsimp only
  split
  · split
    · exact (hnumber.trans (updComp_at c _ _)).trans (raise_at c _ _ _ _)
    · split
      · exact hnumber.trans (updComp_at c _ _)
      · exact hnumber.trans (insertIntoWindow_alone (s := numberArrival c s) hl hctx c _)
  · exact .refl c s

end Alone

/-! ### A frame read from a known station -/

/-- t is s with a frame of station a read outside every stop: of the Station Table a's class override stays, and besides the compartments and the alerts nothing else moves. -/
structure ReadFrom (a : Byte) (s t : State) : Prop where
  accounted : Accounted { s with stations := t.stations } t
  override : (t.findStation a).map (·.override) = (s.findStation a).map (·.override)

theorem ReadFrom.accounts {a : Byte} {s t u : State} (h : ReadFrom a s t) (k : Accounted t u) : ReadFrom a s u where
  accounted := by
    have hstations := k.stations
    have haccounted := h.accounted
    unfold Accounted at haccounted k ⊢
    rw [hstations, k, haccounted]
  override := by rw [← h.override, State.findStation, State.findStation, k.stations]

theorem updStation_read {f : Station → Station} (ha : ∀ e, (f e).addr = e.addr) (ho : ∀ e, (f e).override = e.override) (a : Byte)
    (s : State) : ReadFrom a s (s.updStation a f) where
  accounted := rfl
  override := by
    rw [updStation_findStation ha, Option.map_map]
    exact congrArg (fun g => Option.map g (s.findStation a)) (funext ho)

theorem updStations_read (f : StationTable → StationTable) (hf : ∀ n, (f n).entries = n.entries) (a : Byte) (s : State) :
    ReadFrom a s (s.updStations f) where
  accounted := rfl
  override := by rw [State.findStation, State.findStation, State.updStations, hf]

theorem ReadFrom.trans {a : Byte} {s t u : State} (h : ReadFrom a s t) (k : ReadFrom a t u) : ReadFrom a s u where
  accounted := by
    have haccounted := h.accounted
    have kaccounted := k.accounted
    unfold Accounted at haccounted kaccounted ⊢
    rw [kaccounted, haccounted]
  override := k.override.trans h.override

theorem ReadFrom.told {a : Byte} {s t : State} (h : Told s t) : ReadFrom a s t where
  accounted := by
    have hstations := h.stations
    have haccounted := h.accounted
    unfold Accounted at haccounted ⊢
    rw [hstations]
    exact haccounted
  override := by rw [State.findStation, State.findStation, h.stations]

theorem readingTaken_read (a : Byte) (off raw : Int) (t : Nat) (s : State) : ReadFrom a s (s.readingTaken a off raw t) := by
  have htold : ReadFrom a s (s.clampTold a raw off) := by
    unfold State.clampTold
    split
    · exact (ReadFrom.told (raise_told _ _ _ s)).trans (updStations_read (fun n => { n with clamped := satInc max32 n.clamped }) (fun _ => rfl) a _)
    · exact .told (.refl s)
  refine htold.trans (updStation_read (f := liveReading (corrected raw off) t) (fun e => ?_) (fun e => ?_) a _)
  · unfold liveReading; split <;> rfl
  · unfold liveReading; split <;> rfl

theorem doorTaken_read (a : Byte) (c : Fin 4) (p : Fin 2) (e : Station) (b : Byte) (t : Nat) (s : State) :
    ReadFrom a s (s.doorTaken a c p e b t) := by
  refine (updStation_read (f := liveDoor (doorStateOf b) t) (fun e => ?_) (fun e => ?_) a s).accounts (doorTaken_at s a c p e b t).accounted
  · unfold liveDoor; split <;> rfl
  · unfold liveDoor; split <;> rfl

section Offered
variable {a : Byte} {s t : State} (h : ReadFrom a s t)
include h
theorem ReadFrom.store : t.store = s.store := by rw [h.accounted]
theorem ReadFrom.contexts : t.contexts = s.contexts := by rw [h.accounted]
theorem ReadFrom.route : t.route = s.route := by rw [h.accounted]
theorem ReadFrom.pass : t.pass = s.pass := by rw [h.accounted]
theorem ReadFrom.drops : t.drops = s.drops := by rw [h.accounted]
theorem ReadFrom.trunk : t.ports.trunk = s.ports.trunk := by rw [h.accounted]
theorem ReadFrom.now : t.now = s.now := by rw [State.now, State.now, h.accounted]

/-- The copy of a frame read that went to broadcast (R9, R11, R13). -/
theorem offerUp_read {f : Frame} {e : Station} {mask : Byte} (m : Marks) (hsrc : f.src = a) (hl : s.store.lockout = false)
    (hfind : s.findStation a = some e) (hmask : mask = if s.onRoute then s.pass.upRoute else s.pass.upIdle)
    (hmeets : e.override.getD s.pass.classTable[f.typ.toFin] &&& mask ≠ 0) (hroom : s.ports.trunk.forward.length < 32) :
    offerUp m f t = (t.updPort .trunk fun x => { x with forward := x.forward ++ [{ frame :=
        { f with flags := f.flags ||| 1, trailer := trailerBytes m s.liveDropNumber s.now } }] }).updDirCounts .up
      fun k => { k with forwarded := satInc max32 k.forwarded } := by
  have hcls : t.classByte .up f = e.override.getD s.pass.classTable[f.typ.toFin] := by
    have hoverride := h.override
    rw [hfind] at hoverride
    obtain ⟨e', he', hsame⟩ := Option.map_eq_some_iff.1 hoverride
    rw [classByte_up_known (by rw [hsrc]; exact he'), hsame, h.pass]
  have hmask' : mask = if t.onRoute then t.pass.upRoute else t.pass.upIdle := by
    rw [h.pass, State.onRoute, h.route]
    exact hmask
  have hlive : t.liveDropNumber = s.liveDropNumber := by simp only [State.liveDropNumber, State.liveDrop, h.drops]
  have hroom' : (t.port (outPort .up)).forward.length < Config.fifoPlaces := by
    change t.ports.trunk.forward.length < 32
    rw [h.trunk]
    exact hroom
  rw [offerUp_meets hcls hmask' (by rw [h.store]; exact hl) hmeets, joinFifo_room hroom', annotate, hlive, h.now]
  rfl

end Offered

theorem updDoor_window (s : State) (c : Fin 4) (p : Fin 2) (f : DoorSlot → DoorSlot) :
    ((s.updDoor c p f).comp c).profile = (s.comp c).profile ∧ ((s.updDoor c p f).comp c).window = (s.comp c).window := by
  rw [State.updDoor, State.updComp_comp_self]
  exact ⟨rfl, rfl⟩

theorem expireOpening_window (s : State) (c : Fin 4) (p : Fin 2) :
    ((expireOpening c p s).comp c).profile = (s.comp c).profile ∧ ((expireOpening c p s).comp c).window = (s.comp c).window := by
  unfold expireOpening
  split
  · split
    · exact updDoor_window s c p fun x => { x with deadline := none, longOpenings := satInc max16 x.longOpenings }
    · exact ⟨rfl, rfl⟩
  · exact ⟨rfl, rfl⟩

theorem judgeOpening_comp (s : State) (c : Fin 4) (p : Fin 2) : (judgeOpening c p s).comp c = s.comp c := by
  unfold judgeOpening
  split <;> rfl

/-- A change of the live door leaves the compartment's profile and window. -/
theorem liveDoorChange_window (s : State) (c : Fin 4) (p : Fin 2) (old : Option DoorState) (new : DoorState) (t : Nat) :
    ((liveDoorChange c p old new t s).comp c).profile = (s.comp c).profile
      ∧ ((liveDoorChange c p old new t s).comp c).window = (s.comp c).window := by
  unfold liveDoorChange beginOpening endOpening
  split
  · exact ⟨rfl, rfl⟩
  · split
    · rw [judgeOpening_comp]
      obtain ⟨hprofile, hwindow⟩ := updDoor_window s c p fun x =>
        { x with opening := some t, liveOpenings := satInc max16 x.liveOpenings, deadline := openingDeadline (s.comp c).profile.openLimit t }
      obtain ⟨hprofile', hwindow'⟩ := expireOpening_window (s.updDoor c p fun x =>
        { x with opening := some t, liveOpenings := satInc max16 x.liveOpenings, deadline := openingDeadline (s.comp c).profile.openLimit t }) c p
      exact ⟨hprofile'.trans hprofile, hwindow'.trans hwindow⟩
    · split
      · exact updDoor_window s c p _
      · exact ⟨rfl, rfl⟩

theorem doorTaken_window (s : State) (a : Byte) (c : Fin 4) (p : Fin 2) (e : Station) (b : Byte) (t : Nat) :
    ((s.doorTaken a c p e b t).comp c).profile = (s.comp c).profile ∧ ((s.doorTaken a c p e b t).comp c).window = (s.comp c).window := by
  have hcomp : ((s.doorTold c p b).updStation a (liveDoor (doorStateOf b) t)).comp c = s.comp c := (doorTold_told s c p b).comp c
  unfold State.doorTaken
  split
  · obtain ⟨hprofile, hwindow⟩ := liveDoorChange_window ((s.doorTold c p b).updStation a (liveDoor (doorStateOf b) t)) c p e.doorLive (doorStateOf b) t
    rw [hprofile, hwindow, hcomp]
    exact ⟨rfl, rfl⟩
  · rw [hcomp]
    exact ⟨rfl, rfl⟩

/-! ### Readings and reports to broadcast -/

/-- A reading to broadcast is read like one to the device, and its copy is offered up (R5, R30). -/
theorem exec_sampleBroadcast {s : State} {h : Hdr} {e : Station} {c q : Fin 4} {off : Int} {payload : List Byte} (hh : s.hears h e)
    (he : e.binding = .probe c q off) (hp : payload.length ≤ 240) :
    exec (.sample broadcastAddr h payload) s = .next
      (offerUp (readSample h.src c q off h.age payload (s.heard h)).2 (fieldFrame broadcastAddr typSample h payload)
        (readSample h.src c q off h.age payload (s.heard h)).1) := by
  have hrow : FieldRow (fieldFrame broadcastAddr typSample h payload)
      (stationFirst (fieldFrame broadcastAddr typSample h payload)
        (fun s => passRead (fieldFrame broadcastAddr typSample h payload) (s, { unknown := true }))
        fun e s => passRead (fieldFrame broadcastAddr typSample h payload) (readSampleFrame e (fieldFrame broadcastAddr typSample h payload) s))
      (.sample broadcastAddr h payload) := sampleRow broadcastAddr h payload
  rw [hrow.hears hh (by decide) hp]
  simp only [readSampleFrame, he]
  exact congrArg Host.Outcome.next (if_neg (show broadcastAddr ≠ deviceAddr by decide))

theorem exec_doorBroadcast {s : State} {h : Hdr} {e : Station} {c : Fin 4} {p : Fin 2} {payload : List Byte} (hh : s.hears h e)
    (he : e.binding = .door c p) (hp : payload.length ≤ 240) :
    exec (.doorState broadcastAddr h payload) s = .next
      (offerUp (readDoor h.src c p e h.age payload (s.heard h)).2 (fieldFrame broadcastAddr typDoorState h payload)
        (readDoor h.src c p e h.age payload (s.heard h)).1) := by
  have hrow : FieldRow (fieldFrame broadcastAddr typDoorState h payload)
      (stationFirst (fieldFrame broadcastAddr typDoorState h payload)
        (fun s => passRead (fieldFrame broadcastAddr typDoorState h payload) (s, { unknown := true }))
        fun e s => passRead (fieldFrame broadcastAddr typDoorState h payload) (readDoorFrame e (fieldFrame broadcastAddr typDoorState h payload) s))
      (.doorState broadcastAddr h payload) := doorStateRow broadcastAddr h payload
  rw [hrow.hears hh (by decide) hp]
  simp only [readDoorFrame, he]
  exact congrArg Host.Outcome.next (if_neg (show broadcastAddr ≠ deviceAddr by decide))

/-- A reading outside every stop moves the stations, its compartment and the alerts. -/
theorem readSample_read {s : State} (hl : s.store.lockout = false) (hctx : s.contexts = []) (a : Byte) (c q : Fin 4) (off : Int)
    (age : BitVec 16) (hi lo : Byte) (rest : List Byte) : ReadFrom a s (readSample a c q off age (hi :: lo :: rest) s).1 := by
  cases hk : sentinel (int16 hi lo) with
  | some k =>
    rw [readSample_sentinel _ _ _ _ _ _ _ hk]
    refine ((ReadFrom.told (raise_told _ _ _ s)).trans
      (updStations_read (fun n => { n with probeFaults := satInc max32 n.probeFaults }) (fun _ => rfl) a _)).trans
      (updStation_read (f := markFault k (s.sampleTime age)) (fun e => ?_) (fun e => ?_) a _)
    · unfold markFault; split <;> rfl
    · unfold markFault; split <;> rfl
  | none =>
    rw [readSample_valid _ _ _ _ _ _ _ hk]
    have hread := readingTaken_read a off (int16 hi lo) (s.sampleTime age) s
    exact hread.accounts (handOver_alone (by rw [hread.store]; exact hl) (by rw [hread.contexts]; exact hctx) c _ _).accounted

theorem readDoor_read {s : State} (hl : s.store.lockout = false) (hctx : s.contexts = []) (a : Byte) (c : Fin 4) (p : Fin 2)
    (e : Station) (age : BitVec 16) (b : Byte) (rest : List Byte) : ReadFrom a s (readDoor a c p e age (b :: rest) s).1 := by
  rw [readDoor_byte]
  have hread := doorTaken_read a c p e b (s.sampleTime age) s
  exact hread.accounts (handOver_alone (by rw [hread.store]; exact hl) (by rw [hread.contexts]; exact hctx) c _ _).accounted

end Sys2Proof.Machine
end

section
open Sys2Proof Sys2Proof.Machine

/-- Settles O32: the test of the up direction and the room of the FIFO pick the branch; a broadcast is read first. -/
theorem fieldFramesAreOffered : Obligations.FieldFramesAreOffered := by
  refine ⟨fun s h e dst typ cls mask payload f hh hd hdev hread hp hcls hmask hf => ?_,
    fun s r i h dst typ mask payload f hi hw hq hs hflag hfind hd hdev hp hmask hf hr => ?_,
    fun s h e mask hh hl hctx hroom hmask => ⟨fun c q off v hi lo rest marks he hp hmeets hv hm => ?_,
      fun c p b rest marks he hp hmeets hm => ?_⟩⟩
  · obtain rfl : f = fieldFrame dst typ h payload := hf
    have hexec := (passUpOnlyRow hdev hread h payload).hears hh hd hp
    obtain ⟨-, -, -, -, hfind, -⟩ := hh
    have hcls' : (s.heard h).classByte .up (fieldFrame dst typ h payload) = cls := by
      rw [classByte_up_known (f := fieldFrame dst typ h payload) (heard_findStation hfind), hcls]
      rfl
    rw [hexec]
    refine ⟨fun hl hmeets hroom => ?_, fun hl hmisses => ?_, fun hl hmeets hfull => ?_, fun hl hroom => ?_⟩
    · rw [offerUp_meets hcls' hmask hl hmeets, joinFifo_room (d := .up) (s := s.heard h) hroom]
      rfl
    · rw [offerUp_misses hcls' hmask hl hmisses]
      rfl
    · rw [offerUp_meets hcls' hmask hl hmeets, joinFifo_full (d := .up) (s := s.heard h) hfull]
      rfl
    · rw [offerUp_locked (s := s.heard h) hl, joinFifo_room (d := .up) (s := s.heard h) hroom]
      rfl
  · obtain rfl : f = fieldFrame dst typ h payload := hf
    obtain ⟨take, hrow, unknown, known, htake, hoffer⟩ := fieldRow_of hi
    obtain rfl := funext htake
    have hexec := hrow.unheard hw hq hs hflag hfind hd hp
    rw [hoffer hdev] at hexec
    have hr' : reportUnknown h.src typ (countReceived .field s) = r := hr.symm
    rw [hr'] at hexec
    have hclass : r.classByte .up (fieldFrame dst typ h payload) = s.pass.classTable[typ.toFin] := by
      rw [classByte_up_unknown (by rw [hr]; exact hfind), hr]
      rfl
    have hmask' : mask = if r.onRoute then r.pass.upRoute else r.pass.upIdle := by rw [hr]; exact hmask
    have hlock : r.store.lockout = s.store.lockout := by rw [hr]; rfl
    have hforward : r.ports.trunk.forward = s.ports.trunk.forward := by rw [hr]; rfl
    have hlive : r.liveDropNumber = s.liveDropNumber := by rw [hr]; rfl
    have hnow : r.now = s.now := by rw [hr]; rfl
    have hfifo : s.ports.trunk.forward.length < 32 → (r.port (outPort .up)).forward.length < Config.fifoPlaces := fun hroom => by
      change r.ports.trunk.forward.length < 32
      rw [hforward]
      exact hroom
    clear hr hr'
    rw [hexec]
    refine ⟨fun hl hmeets hroom => ?_, fun hl hmisses => ?_, fun hl hroom => ?_⟩
    · rw [← hlock] at hl
      rw [offerUp_meets hclass hmask' hl hmeets, joinFifo_room (hfifo hroom), annotate, hlive, hnow]
      rfl
    · rw [← hlock] at hl
      rw [offerUp_misses hclass hmask' hl hmisses]
      rfl
    · rw [← hlock] at hl
      rw [offerUp_locked hl, joinFifo_room (hfifo hroom)]
      rfl
  · have hdevice := exec_sampleDevice (payload := hi :: lo :: rest) hh he (by simp only [List.length_cons]; omega)
    have hbroadcast := exec_sampleBroadcast (payload := hi :: lo :: rest) hh he (by simp only [List.length_cons]; omega)
    obtain ⟨-, -, -, -, hfind, -⟩ := hh
    have hread := readSample_read (s := s.heard h) hl hctx h.src c q off h.age hi lo rest
    have hmarks : (readSample h.src c q off h.age (hi :: lo :: rest) (s.heard h)).2 = marks := by
      by_cases hsent : int16 hi lo = -2048 ∨ int16 hi lo = -2047
      · rw [readSample_sentinel _ _ _ _ _ _ _ (sentinel_some hsent), hm, if_pos hsent]
      · obtain ⟨h1, h2⟩ := not_or.1 hsent
        have htold := readingTaken_told (s.heard h) h.src off (int16 hi lo) ((s.heard h).sampleTime h.age)
        have hcorrected : corrected (int16 hi lo) off = v := by rw [corrected, clampInt_eq_max_min (by omega), hv]
        have hlate : ((s.heard h).readingTaken h.src off (int16 hi lo) ((s.heard h).sampleTime h.age)).lateMark c
            ((s.heard h).sampleTime h.age) = (s.handsOver c && decide (s.now - h.age.toNat < (s.comp c).window.committed)) := by
          rw [State.lateMark, State.isLate, handsOver_congr (s := s) htold.route htold.store (htold.comp c), htold.comp c]
          rfl
        rw [readSample_valid _ _ _ _ _ _ _ (sentinel_none h1 h2), hm, if_neg hsent]
        have hclamped : (v != int16 hi lo + off) = decide (v ≠ int16 hi lo + off) := by rw [Bool.eq_iff_iff]; simp
        dsimp only
        rw [hlate, hcorrected, hclamped]
    rw [hmarks, offerUp_read (f := fieldFrame broadcastAddr typSample h (hi :: lo :: rest)) hread (e := takeSequence h.seq e) marks rfl hl (heard_findStation hfind) hmask hmeets hroom] at hbroadcast
    exact ⟨_, hdevice, hbroadcast⟩
  · have hdevice := exec_doorDevice (payload := b :: rest) hh he (by simp only [List.length_cons]; omega)
    have hbroadcast := exec_doorBroadcast (payload := b :: rest) hh he (by simp only [List.length_cons]; omega)
    obtain ⟨-, -, -, -, hfind, -⟩ := hh
    have hread := readDoor_read (s := s.heard h) hl hctx h.src c p e h.age b rest
    have hmarks : (readDoor h.src c p e h.age (b :: rest) (s.heard h)).2 = marks := by
      have hat := doorTaken_at (s.heard h) h.src c p e b ((s.heard h).sampleTime h.age)
      obtain ⟨hprofile, hwindow⟩ := doorTaken_window (s.heard h) h.src c p e b ((s.heard h).sampleTime h.age)
      have hhands : ((s.heard h).doorTaken h.src c p e b ((s.heard h).sampleTime h.age)).handsOver c = s.handsOver c := by
        rw [Bool.eq_iff_iff, handsOver_iff, handsOver_iff, State.onRoute, hat.accounted.route, hat.accounted.store, hprofile, hwindow]
        rfl
      rw [readDoor_byte, hm]
      dsimp only
      rw [State.lateMark, State.isLate, hhands, hwindow]
      rfl
    rw [hmarks, offerUp_read (f := fieldFrame broadcastAddr typDoorState h (b :: rest)) hread (e := takeSequence h.seq e) marks rfl hl (heard_findStation hfind) hmask hmeets hroom] at hbroadcast
    exact ⟨_, hdevice, hbroadcast⟩

end

section
/-! SUPPORT. Terminal requests as rows of the field line: what each names, and the checks that come before its own rule (R29, R36, R125, R126, R142). -/
namespace Sys2Proof.Machine

/-! ### The rows -/

/-- Row i is a terminal request of header h and type typ, about drop n and item index, delivered with this judgement and this effect; length says whether its payload is of the length its type requires (R36, R126). -/
def RequestRow (h : Hdr) (typ n index : Byte) (length : Bool) (judge : State → Drop → TermResult) (act : Drop → State → State)
    (i : Instr) : Prop :=
  ∃ payload, payload.length ≤ 240 ∧ FieldRow (fieldFrame deviceAddr typ h payload)
    (takeRequest (fieldFrame deviceAddr typ h payload) (askedBy h typ n index)
      (deliverRequest (askedBy h typ n index) length judge act)) i

theorem stopArriveRequest (h : Hdr) (n : Byte) : RequestRow h typStopArrive n 0 true (fun s d => judgeArrive s d h.src)
    (fun d s => actArrive d h.src s) (.stopArrive h [n]) := ⟨[n], by simp, stopArriveRow h [n]⟩

theorem stopDepartRequest (h : Hdr) (n : Byte) : RequestRow h typStopDepart n 0 true (fun _ d => judgeDepart d h.src) actDepart
    (.stopDepart h [n]) := ⟨[n], by simp, stopDepartRow h [n]⟩

theorem handoverOpenRequest (h : Hdr) (n : Byte) : RequestRow h typHandoverOpen n 0 true (fun _ d => judgeOpen d h.src) actOpen
    (.handoverOpen h [n]) := ⟨[n], by simp, handoverOpenRow h [n]⟩

theorem handoverAbortRequest (h : Hdr) (n : Byte) : RequestRow h typHandoverAbort n 0 true (fun _ d => judgeOpen d h.src) actAbort
    (.handoverAbort h [n]) := ⟨[n], by simp, handoverAbortRow h [n]⟩

theorem itemConfirmRequest (h : Hdr) (n i a1 a0 r1 r0 why t1 t0 : Byte) :
    ∃ judge act, RequestRow h typItemConfirm n i true judge act (.itemConfirm h [n, i, a1, a0, r1, r0, why, t1, t0]) := by
  have hasked : askedConfirm (fieldFrame deviceAddr typItemConfirm h [n, i, a1, a0, r1, r0, why, t1, t0])
      = askedBy h typItemConfirm n i := by
    simp [askedConfirm, fieldFrame, parseConfirm, askedBy]
  have hrow := itemConfirmRow h [n, i, a1, a0, r1, r0, why, t1, t0]
  unfold takeItemConfirm at hrow
  rw [hasked] at hrow
  exact ⟨_, _, _, by simp, hrow⟩

theorem handoverCloseRequest {digest : List Byte} (hlen : digest.length = 8) (h : Hdr) (n : Byte) :
    RequestRow h typHandoverClose n 0 true (fun _ d => judgeClose d h.src)
      (fun d s => actClose d (BitVec.ofNat 64 (beNat digest)) s) (.handoverClose h (n :: digest)) := by
  match digest, hlen with
  | [b7, b6, b5, b4, b3, b2, b1, b0], _ => exact ⟨_, by simp, handoverCloseRow h [n, b7, b6, b5, b4, b3, b2, b1, b0]⟩

/-- A request of the right length is a row about the drop and the item it names. -/
theorem requestRow_of {i : Instr} {h : Hdr} {typ n index : Byte} (hi : stopRequest? i = some (h, typ, n, index)) :
    ∃ judge act, RequestRow h typ n index true judge act i := by
  unfold stopRequest? at hi
  split at hi <;> cases hi
  · exact ⟨_, _, stopArriveRequest _ _⟩
  · exact ⟨_, _, stopDepartRequest _ _⟩
  · exact ⟨_, _, handoverOpenRequest _ _⟩
  · exact itemConfirmRequest _ _ _ _ _ _ _ _ _ _
  · exact ⟨_, _, handoverCloseRequest rfl _ _⟩
  · exact ⟨_, _, handoverAbortRequest _ _⟩

/-! ### Payloads of another length (log entry 20) -/

theorem parseConfirm_eq_none {ops : List Byte} (h : ops.length ≠ 9) : parseConfirm ops = none := by
  unfold parseConfirm
  split
  · simp at h
  · rfl

theorem parseHandoverClose_eq_none {ops : List Byte} (h : ops.length ≠ 9) : parseHandoverClose ops = none := by
  unfold parseHandoverClose
  split
  · simp at h
  · rfl

section WrongLength
variable {payload : List Byte} (hp : payload.length ≤ 240) (h : Hdr)
include hp

/-- A one-byte request of another length names no drop. -/
theorem requestRow_oneDrop (hlen : payload.length ≠ 1) {typ : Byte} {judge : State → Drop → TermResult} {act : Drop → State → State}
    {i : Instr} (hrow : FieldRow (fieldFrame deviceAddr typ h payload) (takeRequest (fieldFrame deviceAddr typ h payload)
      (askedDrop (fieldFrame deviceAddr typ h payload)) (deliverRequest (askedDrop (fieldFrame deviceAddr typ h payload))
        (oneDrop (fieldFrame deviceAddr typ h payload)) judge act)) i) : RequestRow h typ 0 0 false judge act i := by
  have hnone : parseDropOnly payload = none := parseDropOnly_eq_none hlen
  have hasked : askedDrop (fieldFrame deviceAddr typ h payload) = askedBy h typ 0 0 := by
    simp [askedDrop, fieldFrame, hnone, askedBy]
  have hone : oneDrop (fieldFrame deviceAddr typ h payload) = false := by simp [oneDrop, fieldFrame, hnone]
  rw [hasked, hone] at hrow
  exact ⟨payload, hp, hrow⟩

theorem requestRow_itemConfirm (hlen : payload.length ≠ 9) :
    ∃ judge act, RequestRow h typItemConfirm 0 0 false judge act (.itemConfirm h payload) := by
  have hrow := itemConfirmRow h payload
  have hnone := parseConfirm_eq_none hlen
  unfold takeItemConfirm at hrow
  simp only [askedConfirm, fieldFrame, hnone] at hrow
  exact ⟨_, _, payload, hp, hrow⟩

theorem requestRow_handoverClose (hlen : payload.length ≠ 9) :
    ∃ judge act, RequestRow h typHandoverClose 0 0 false judge act (.handoverClose h payload) := by
  have hrow := handoverCloseRow h payload
  have hnone := parseHandoverClose_eq_none hlen
  unfold takeHandoverClose at hrow
  simp only [askedClose, fieldFrame, hnone] at hrow
  exact ⟨_, _, payload, hp, hrow⟩

end WrongLength

/-! ### The Station Table's own refusal (R29, R36) -/

section Row
variable {h : Hdr} {typ n index : Byte} {length : Bool} {judge : State → Drop → TermResult} {act : Drop → State → State} {i : Instr}
  (hrow : RequestRow h typ n index length judge act i) {s : State}
include hrow

/-- A request goes to the Station Table first (R5). -/
theorem RequestRow.first : ∃ payload, payload.length ≤ 240 ∧ FieldRow (fieldFrame deviceAddr typ h payload)
    (stationFirst (fieldFrame deviceAddr typ h payload) (refuseNotTerminal (askedBy h typ n index)) fun e s =>
      if isTerminal e then deliverRequest (askedBy h typ n index) length judge act s
      else refuseNotTerminal (askedBy h typ n index) s) i := hrow

/-- A request from no terminal is refused by the Station Table (R36). -/
theorem RequestRow.notTerminal {e : Station} (hh : s.hears h e) (he : e.binding ≠ .terminal) :
    exec i s = .next (sendTermReply h.src typ n.toNat index (.refused .notTerminal) (s.heard h)) := by
  obtain ⟨payload, hp, hrow⟩ := hrow.first
  have hterm : isTerminal e = false := by simpa [isTerminal] using he
  rw [hrow.hears hh (by decide) hp]
  simp only [hterm]
  rfl

/-- So is one from a station that is unknown, which is reported first (R29, R36). -/
theorem RequestRow.unknown (hw : s.working = true) (hq : s.ports.field.sending = none) (hs : sourceOk h.src = true)
    (hf : h.flags.getLsbD 0 = false) (hfind : s.findStation h.src = none) :
    exec i s = .next (sendTermReply h.src typ n.toNat index (.refused .notTerminal)
      (reportUnknown h.src typ (countReceived .field s))) := by
  obtain ⟨payload, hp, hrow⟩ := hrow.first
  rw [hrow.unheard hw hq hs hf hfind (by decide) hp]
  rfl

/-- One from a terminal is delivered to the Stop Controller (R36). -/
theorem RequestRow.delivered {e : Station} (hh : s.hears h e) (he : e.binding = .terminal) :
    exec i s = .next (deliverRequest (askedBy h typ n index) length judge act (s.heard h)) := by
  obtain ⟨payload, hp, hrow⟩ := hrow.first
  have hterm : isTerminal e = true := by simp [isTerminal, he]
  rw [hrow.hears hh (by decide) hp]
  simp only [hterm, if_true]

end Row

/-! ### The checks before the request's own rule (R126, R142) -/

section Checked
variable {s : State} {h : Hdr} {e : Station} {typ n index : Byte} {judge : State → Drop → TermResult} {act : Drop → State → State}
  {i : Instr} {w : TermReason} (hh : s.hears h e) (he : e.binding = .terminal)
include hh he

theorem RequestRow.checked (hrow : RequestRow h typ n index true judge act i)
    (hw : (s.requested h).requestCheck true n.toNat = some w) : exec i s = .next (s.refuses h typ n index w) := by
  rw [hrow.delivered hh he]
  simp only [State.requested] at hw
  simp only [deliverRequest, askedBy, hw, Bool.not_true, Bool.and_false, Bool.false_eq_true, if_false]
  rfl

/-- A wrong length is refused with LOCKOUT in LOCKOUT. -/
theorem RequestRow.wrongLength_locked (hrow : RequestRow h typ n index false judge act i) (hl : s.store.lockout = true) :
    exec i s = .next (s.refuses h typ n index .lockout) := by
  have hlock : (s.requested h).lockedOut = true := hl
  have hcheck : (s.requested h).requestCheck false n.toNat = some .lockout := if_pos hlock
  rw [hrow.delivered hh he]
  simp only [State.requested] at hlock hcheck
  simp only [deliverRequest, askedBy, hcheck, hlock, Bool.not_true, Bool.false_and, Bool.false_eq_true, if_false]
  rfl

/-- Outside LOCKOUT it is refused with STATE, and counted as malformed. -/
theorem RequestRow.wrongLength (hrow : RequestRow h typ n index false judge act i) (hl : s.store.lockout = false) :
    exec i s = .next
      (State.refuses { s with stopCounts := { s.stopCounts with malformed := satInc max32 s.stopCounts.malformed } }
        h typ n index .state) := by
  have hlock : (s.requested h).lockedOut = false := hl
  have hcheck : (s.requested h).requestCheck false n.toNat = some .state := by
    rw [State.requestCheck, hlock]
    rfl
  rw [hrow.delivered hh he]
  simp only [State.requested] at hlock hcheck
  simp only [deliverRequest, askedBy, hcheck, hlock, Bool.not_false, Bool.and_self, if_true]
  rfl

end Checked

section Checks
variable {s : State} {h : Hdr} {n : Nat} (hl : s.store.lockout = false)

theorem requestCheck_lockout (length : Bool) (hl : s.store.lockout = true) :
    (s.requested h).requestCheck length n = some .lockout := if_pos hl

include hl

theorem requestCheck_noRoute (hr : s.route.state = .noRoute) : (s.requested h).requestCheck true n = some .noRoute := by
  have hlock : (s.requested h).lockedOut = false := hl
  have hroute : (s.requested h).onRoute = false := bne_eq_false_iff_eq.mpr hr
  simp [State.requestCheck, hlock, hroute]

theorem requestCheck_noDrop (hr : s.route.state ≠ .noRoute) (hn : n = 0 ∨ 64 < n ∨ s.findDrop n = none) :
    (s.requested h).requestCheck true n = some .noDrop := by
  have hlock : (s.requested h).lockedOut = false := hl
  have hroute : (s.requested h).onRoute = true := bne_iff_ne.mpr hr
  have hnone : n = 0 ∨ 64 < n ∨ ((s.requested h).findDrop n).isNone = true :=
    hn.imp_right (Or.imp_right fun hfind => Option.isNone_iff_eq_none.mpr hfind)
  rw [State.requestCheck, if_neg (by simp [hlock]), if_neg (by simp), if_neg (by simp [hroute]), if_pos hnone]

end Checks

end Sys2Proof.Machine
end

section
open Sys2Proof Sys2Proof.Machine

/-- Settles O35: the Station Table refuses first, then the checks of R126 in their order. -/
theorem requestsAreRefusedFirst : Obligations.RequestsAreRefusedFirst := by
  refine ⟨fun s i h typ n index e hi hh => ?checks, fun s h e payload hh he hp => ?lengths,
    fun s i h typ n index hi hw hq hs hf hfind => ?unknown⟩
  case checks =>
    obtain ⟨judge, act, hrow⟩ := requestRow_of hi
    refine ⟨fun he => hrow.notTerminal hh he, fun he hl => hrow.checked hh he (requestCheck_lockout true hl),
      fun he hl hr => hrow.checked hh he (requestCheck_noRoute hl hr), fun he hl hr hn => hrow.checked hh he (requestCheck_noDrop hl hr ?_)⟩
    exact hn.imp_left fun hzero => by rw [hzero]; rfl
  case lengths =>
    intro x hx hlen
    have hrow : ∃ judge act, RequestRow h x.2.1 0 0 false judge act x.1 := by
      simp only [List.mem_cons, List.not_mem_nil, or_false] at hx
      obtain rfl | rfl | rfl | rfl | rfl | rfl := hx
      · exact ⟨_, _, requestRow_oneDrop hp h hlen (stopArriveRow h payload)⟩
      · exact ⟨_, _, requestRow_oneDrop hp h hlen (stopDepartRow h payload)⟩
      · exact ⟨_, _, requestRow_oneDrop hp h hlen (handoverOpenRow h payload)⟩
      · exact requestRow_itemConfirm hp h hlen
      · exact requestRow_handoverClose hp h hlen
      · exact ⟨_, _, requestRow_oneDrop hp h hlen (handoverAbortRow h payload)⟩
    obtain ⟨judge, act, hrow⟩ := hrow
    exact ⟨fun hl => ⟨0, 0, hrow.wrongLength_locked hh he hl⟩, fun hl => ⟨0, 0, hrow.wrongLength hh he hl⟩⟩
  case unknown =>
    obtain ⟨judge, act, hrow⟩ := requestRow_of hi
    rw [hrow.unknown hw hq hs hf hfind]
    rfl

end

section
/-! SUPPORT. Requests that pass the checks: how each is judged in each state of its drop, and what an accepted one does to the drop and its context (R127 to R136). -/
namespace Sys2Proof.Machine

/-! ### Judged and answered -/

section Asked
variable {s : State} {h : Hdr} {n : Byte} {d : Drop} {typ index : Byte} {judge : State → Drop → TermResult}
  {act : Drop → State → State} {i : Instr} (hrow : RequestRow h typ n index true judge act i) (ha : s.asks h n d)
include hrow ha

/-- A request that passes the checks is answered as it is judged, and acted on when that accepts it (R125, R145). -/
theorem RequestRow.answered {r : TermResult} (hj : judge (s.requested h) d = r) :
    exec i s = .next (stopReply (askedBy h typ n index) r (if r = .accepted then act d (s.requested h) else s.requested h)) := by
  obtain ⟨e, hh, he⟩ := ha.1
  rw [hrow.delivered hh he, deliverRequest_asks ha hj]

theorem RequestRow.refused {w : TermReason} (hj : judge (s.requested h) d = .refused w) :
    exec i s = .next (s.refuses h typ n index w) := hrow.answered ha hj

/-- An effect that touches no count may as well come after the counts of its answer. -/
theorem RequestRow.accepted {effect : State → State} (hj : judge (s.requested h) d = .accepted)
    (hact : (act d (s.requested h)).updStopCounts (countResult .accepted)
      = effect ((s.requested h).updStopCounts (countResult .accepted))) :
    exec i s = .next (s.accepts h typ n index effect) := by
  rw [hrow.answered ha hj, if_pos rfl, stopReply, hact]
  rfl

end Asked

/-! ### The judgements -/

section Judgements
variable {d : Drop} {src : Byte}

theorem judgeOpen_owner (hst : d.state = .active ∨ d.state = .handingOver) (hown : d.owner = some src) :
    judgeOpen d src = .accepted := by
  obtain hst | hst := hst <;> simp [judgeOpen, hst, hown]

theorem judgeOpen_other (hst : d.state = .active ∨ d.state = .handingOver) (hown : d.owner ≠ some src) :
    judgeOpen d src = .refused .notOwner := by
  obtain hst | hst := hst <;> simp [judgeOpen, hst, hown]

theorem judgeOpen_state (h1 : d.state ≠ .active) (h2 : d.state ≠ .handingOver) : judgeOpen d src = .refused .state := by
  unfold judgeOpen
  split
  · exact absurd ‹_› h1
  · exact absurd ‹_› h2
  · rfl

theorem judgeClose_owner (hst : d.state = .handingOver ∨ d.state = .handedOver) (hown : d.owner = some src) :
    judgeClose d src = .accepted := by
  obtain hst | hst := hst <;> simp [judgeClose, hst, hown]

theorem judgeClose_other (hst : d.state = .handingOver ∨ d.state = .handedOver) (hown : d.owner ≠ some src) :
    judgeClose d src = .refused .notOwner := by
  obtain hst | hst := hst <;> simp [judgeClose, hst, hown]

theorem judgeClose_state (h1 : d.state ≠ .handingOver) (h2 : d.state ≠ .handedOver) : judgeClose d src = .refused .state := by
  unfold judgeClose
  split
  · exact absurd ‹_› h1
  · exact absurd ‹_› h2
  · rfl

theorem judgeDepart_live (hst : d.state = .active ∨ d.state = .handedOver) :
    judgeDepart d src = if d.owner = some src then .accepted else .refused .notOwner := by
  obtain hst | hst := hst <;> simp only [judgeDepart, hst]

theorem judgeDepart_departed (hst : d.state = .settling ∨ ∃ o, d.state = .final o) :
    judgeDepart d src = if d.owner = some src then .accepted else .refused .state := by
  obtain hst | ⟨o, hst⟩ := hst <;> simp only [judgeDepart, hst]

theorem judgeDepart_handingOver (hst : d.state = .handingOver) :
    judgeDepart d src = .refused (if d.owner = some src then .state else .notOwner) := by
  simp only [judgeDepart, hst]
  split <;> rfl

theorem judgeDepart_planned (hst : d.state = .planned) : judgeDepart d src = .refused .state := by simp only [judgeDepart, hst]

variable {s : State}

/-- No drop is HANDING_OVER. -/
theorem noHandover_any (h : ∀ x ∈ s.drops, x.state ≠ .handingOver) : (s.drops.any fun e => e.state == .handingOver) = false := by
  simpa using h

theorem judgeArrive_planned (hst : d.state = .planned) (hr : s.route.state = .opened) (hnone : ∀ x ∈ s.drops, x.state ≠ .handingOver) :
    judgeArrive s d src = if 4 ≤ s.contexts.length then .retry else .accepted := by
  simp [judgeArrive, hst, hr, noHandover_any hnone, Config.contextPlaces]

theorem judgeArrive_busy (hst : d.state = .planned) (h : s.route.state = .closing ∨ ∃ x ∈ s.drops, x.state = .handingOver) :
    judgeArrive s d src = .refused .state := by
  by_cases hr : s.route.state = .closing
  · simp [judgeArrive, hst, hr]
  · have hany : (s.drops.any fun e => e.state == .handingOver) = true := by simpa using h.resolve_left hr
    simp [judgeArrive, hst, hr, hany]

theorem judgeArrive_active (hst : d.state = .active) : judgeArrive s d src = .accepted := by simp only [judgeArrive, hst]

theorem judgeArrive_other (hst : d.state = .handingOver ∨ d.state = .handedOver) (hown : d.owner ≠ some src) :
    judgeArrive s d src = .refused .notOwner := by
  obtain hst | hst := hst <;> simp [judgeArrive, hst, hown]

end Judgements

/-! ### What an accepted request does -/

section Acts
variable {d : Drop} {s : State}

theorem actOpen_active (hst : d.state = .active) :
    actOpen d s = s.withStop d.number (fun x => { clearItems x with state := .handingOver })
      fun x => { x with attempts := satInc max8 x.attempts, idleDeadline := some (s.now + s.config.idleTimeout) } := by
  simp only [actOpen, hst]
  rfl

theorem actOpen_handingOver (hst : d.state = .handingOver) : actOpen d s = s := by simp only [actOpen, hst]

theorem actAbort_active (hst : d.state = .active) : actAbort d s = s := by simp only [actAbort, hst]

theorem actAbort_handingOver (hst : d.state = .handingOver) :
    actAbort d s = s.withStop d.number (fun x => { clearItems x with state := .active }) fun x => { x with idleDeadline := none } := by
  simp only [actAbort, hst]
  rfl

theorem actClose_handingOver (hst : d.state = .handingOver) (digest : BitVec 64) :
    actClose d digest s = s.withStop d.number (fun x => { x with state := .handedOver }) fun x =>
      { x with digest := some digest, handoverClose := some s.now, outcome := some (handoverOutcome d.items),
               idleDeadline := none, departDeadline := some (s.now + s.config.departTimeout) } := by
  simp only [actClose, hst]
  rfl

theorem actClose_handedOver (hst : d.state = .handedOver) (digest : BitVec 64) : actClose d digest s = s := by
  simp only [actClose, hst]

theorem actDepart_live (hst : d.state = .active ∨ d.state = .handedOver) : actDepart d s = closeStop d.number s.now s := by
  obtain hst | hst := hst <;> simp only [actDepart, hst]

theorem actDepart_departed (hst : d.state = .settling ∨ ∃ o, d.state = .final o) : actDepart d s = s := by
  obtain hst | ⟨o, hst⟩ := hst <;> simp only [actDepart, hst]

theorem actArrive_active (hst : d.state = .active) (src : Byte) :
    actArrive d src s = s.updDrop d.number fun x => { x with owner := some src } := by simp only [actArrive, hst]

theorem actArrive_planned (hst : d.state = .planned) (src : Byte) : actArrive d src s = openStop d src s := by
  simp only [actArrive, hst]

/-- The outcome of a handover, from its items (R132). -/
theorem handoverOutcome_eq (items : List Item) :
    handoverOutcome items = if ∀ i ∈ items, i.accepted = i.planned then .delivered
      else if ∀ i ∈ items, i.accepted = 0 then .refused else .partlyDelivered := by
  simp only [handoverOutcome, List.all_eq_true, decide_eq_true_eq]

end Acts

/-! ### Stops that open and close -/

/-- A stop that closes without a fixed outcome is reported as abandoned (R136). -/
theorem reportAbandoned_open {x : Context} (h : x.outcome = none) (T : Nat) (s : State) :
    reportAbandoned x T s = (raise .stopAbandoned (.drop x.drop) (some (T - x.arrival : Nat)) s).updStopCounts fun n =>
      { n with abandoned := satInc max32 n.abandoned } := by
  rw [reportAbandoned, if_pos (by simp [h])]

theorem sendTermReply_only (src typ : Byte) (n : Nat) (index : Byte) (r : TermResult) (s : State) :
    sendTermReply src typ n index r s = { s with ports := (sendTermReply src typ n index r s).ports } := offerReply_only _ _ _

/-- The stop of drop d opened where no stop is live (R127, R128). -/
theorem openStop_idle {s : State} {d : Drop} {src : Byte} (hlive : s.liveDrop = none) :
    openStop d src s = { s with
      drops := s.drops.map fun x => if x.number = d.number then { x with state := .active, owner := some src } else x
      contexts := s.contexts ++ [newContext s d s.now s.lastEnd] } := by
  simp only [openStop, closeLive_none hlive, hlive]
  rfl

/-- Where one is live it closes first, and its end is the end before (R127, R128). -/
theorem openStop_live {s : State} {d l : Drop} {x : Context} {src : Byte} (hlive : s.liveDrop = some l)
    (hplain : s.closesPlainly l.number x) :
    ∃ u, Told (s.stopClosed l.number s.now) u ∧ openStop d src s = { u with
      drops := u.drops.map fun x => if x.number = d.number then { x with state := .active, owner := some src } else x
      contexts := u.contexts ++ [newContext u d s.now (some s.now)]
      stopCounts := (openStop d src s).stopCounts } := by
  obtain ⟨u, htold, hreport⟩ := reportAbandoned_told x s.now (s.stopClosed l.number s.now)
  have hclose : closeLive s.now s = { u with stopCounts := (reportAbandoned x s.now (s.stopClosed l.number s.now)).stopCounts } := by
    rw [closeLive_live hlive, closeStop_plainly hplain, hreport]
  refine ⟨u, htold, ?_⟩
  simp only [openStop, hclose, hlive]
  rfl

end Sys2Proof.Machine
end

section
open Sys2Proof Sys2Proof.Machine

/-- Settles O36: the state of the drop, the route and the contexts decide; an accepted arrival closes the live stop and opens the new one. -/
theorem stopArriveOpensStop : Obligations.StopArriveOpensStop := by
  intro s h n d ha
  have hrow := stopArriveRequest h n
  refine ⟨fun hst hr hnone hroom => ⟨fun hlive => ?idle, fun l x hlive hplain => ?live⟩, fun hst hr hnone hfull => ?full,
    fun hst => ?active, fun hst hbusy => ?busy, fun hst hown => ?other⟩
  case idle =>
    have hj : judgeArrive (s.requested h) d h.src = .accepted :=
      (judgeArrive_planned hst hr hnone).trans (if_neg (Nat.not_le.mpr hroom))
    refine hrow.accepted ha hj ?_
    simp only [actArrive_planned hst, openStop_idle (s := s.requested h) hlive]
    rfl
  case live =>
    have hj : judgeArrive (s.requested h) d h.src = .accepted :=
      (judgeArrive_planned hst hr hnone).trans (if_neg (Nat.not_le.mpr hroom))
    have hplain' : (s.requested h).closesPlainly l.number x := hplain
    obtain ⟨u, htold, hopen⟩ := openStop_live (d := d) (src := h.src) (s := s.requested h) hlive hplain'
    have hexec := hrow.answered ha hj
    rw [if_pos rfl, actArrive_planned hst, hopen, stopReply, sendTermReply_only] at hexec
    refine ⟨_, hexec, ?_, ?_, htold.comps, htold.store, htold.route, htold.claims⟩
    · refine congrArg (List.map _) (htold.drops.trans (List.map_congr_left fun y hy => ?_))
      rw [← closeDrop_settles, if_neg (hnone y hy)]
    · have hstart : (fun c => startFor u (s.requested h).now (some (s.requested h).now) c)
          = fun c => startFor s s.now (some s.now) c := funext fun c => by
        unfold startFor
        rw [htold.config, htold.comp]
        rfl
      have hnew : newContext u d (s.requested h).now (some (s.requested h).now) = newContext s d s.now (some s.now) := by
        simp only [newContext, congrFun hstart]
        rfl
      change u.contexts ++ [newContext u d (s.requested h).now (some (s.requested h).now)] = _
      rw [hnew, htold.contexts]
      rfl
  case full =>
    have hj : judgeArrive (s.requested h) d h.src = .retry := (judgeArrive_planned hst hr hnone).trans (if_pos hfull)
    exact hrow.answered ha hj
  case active =>
    refine hrow.accepted ha (judgeArrive_active hst) ?_
    simp only [actArrive_active hst]
    rfl
  case busy => exact hrow.refused ha (judgeArrive_busy hst hbusy)
  case other => exact hrow.refused ha (judgeArrive_other hst hown)

/-- Settles O37: the owner and the state of the drop decide. -/
theorem handoversOpenAndAbort : Obligations.HandoversOpenAndAbort := by
  intro s h n d ha
  have hopen := handoverOpenRequest h n
  have habort := handoverAbortRequest h n
  refine ⟨fun hown => ⟨fun hst => ⟨?_, ?_⟩, fun hst => ⟨?_, ?_⟩⟩, fun hown hst => ⟨?_, ?_⟩, fun h1 h2 => ⟨?_, ?_⟩⟩
  · refine hopen.accepted ha (judgeOpen_owner (.inl hst) hown) ?_
    rw [actOpen_active hst]
    rfl
  · refine habort.accepted ha (judgeOpen_owner (.inl hst) hown) ?_
    rw [actAbort_active hst]
    rfl
  · refine hopen.accepted ha (judgeOpen_owner (.inr hst) hown) ?_
    rw [actOpen_handingOver hst]
    rfl
  · refine habort.accepted ha (judgeOpen_owner (.inr hst) hown) ?_
    rw [actAbort_handingOver hst]
    rfl
  · exact hopen.refused ha (judgeOpen_other hst hown)
  · exact habort.refused ha (judgeOpen_other hst hown)
  · exact hopen.refused ha (judgeOpen_state h1 h2)
  · exact habort.refused ha (judgeOpen_state h1 h2)

/-- Settles O39: the owner and the state of the drop decide, and the items fix the outcome. -/
theorem handoverCloseFixesOutcome : Obligations.HandoverCloseFixesOutcome := by
  intro s h n digest d ha hlen
  have hrow := handoverCloseRequest hlen h n
  refine ⟨fun hst hown => ?_, fun hst hown => ?_, fun hst hown => hrow.refused ha (judgeClose_other hst hown),
    fun h1 h2 => hrow.refused ha (judgeClose_state h1 h2)⟩
  · refine hrow.accepted ha (judgeClose_owner (.inl hst) hown) ?_
    rw [actClose_handingOver hst, handoverOutcome_eq]
    rfl
  · refine hrow.accepted ha (judgeClose_owner (.inr hst) hown) ?_
    rw [actClose_handedOver hst]
    rfl

/-- Settles O40: the owner and the state of the drop decide; a live stop closes at part time, with its outcome or as abandoned. -/
theorem stopDepartClosesStop : Obligations.StopDepartClosesStop := by
  intro s h n d ha
  have hrow := stopDepartRequest h n
  refine ⟨fun x hplain hown => ⟨fun hst hfixed => ?fixed, fun hst hopen => ?abandoned⟩, fun hst => ⟨fun hown => ?_, fun hown => ?_⟩,
    fun hst => hrow.refused ha (judgeDepart_handingOver hst), fun hst hown => ?_, fun hst => hrow.refused ha (judgeDepart_planned hst)⟩
  case fixed =>
    have hplain' : (s.requested h).closesPlainly d.number x := hplain
    refine hrow.accepted ha ((judgeDepart_live (.inr hst)).trans (if_pos hown)) ?_
    rw [actDepart_live (.inr hst), closeStop_plainly hplain', reportAbandoned_fixed hfixed]
    rfl
  case abandoned =>
    have hplain' : (s.requested h).closesPlainly d.number x := hplain
    obtain ⟨-, hdrop, -⟩ := hplain
    refine hrow.accepted ha ((judgeDepart_live (.inl hst)).trans (if_pos hown)) ?_
    rw [actDepart_live (.inl hst), closeStop_plainly hplain', reportAbandoned_open hopen, hdrop]
    rfl
  · refine hrow.accepted ha ((judgeDepart_departed hst).trans (if_pos hown)) ?_
    rw [actDepart_departed hst]
    rfl
  · exact hrow.refused ha ((judgeDepart_departed hst).trans (if_neg hown))
  · exact hrow.refused ha ((judgeDepart_live hst).trans (if_neg hown))

end

section
/-! SUPPORT. The hand-over of an event to a window that works: late, after the close, into its place, and into a full window (R43, R47 to R53, R56). -/
namespace Sys2Proof.Machine

/-! ### Two changes of one compartment -/

theorem updComp_updComp (s : State) (c : Fin 4) (f g : Comp → Comp) : (s.updComp c f).updComp c g = s.updComp c fun k => g (f k) := by
  rw [State.updComp, State.updComp_comp_self]
  simp [State.updComp, State.setComp]

/-! ### The place of an event (R43, R50) -/

/-- In a window in order an event stands after every event of equal or earlier time. -/
theorem insertEvent_ordered (ev : PendingEvent) {l : List PendingEvent} (h : l.Pairwise fun a b => a.time ≤ b.time) :
    insertEvent ev l = l.filter (fun x => x.time ≤ ev.time) ++ [ev] ++ l.filter (fun x => ev.time < x.time) := by
  induction l with
  | nil => rfl
  | cons x xs ih =>
    obtain ⟨hhead, htail⟩ := List.pairwise_cons.1 h
    rw [insertEvent]
    split
    · next hle => simp [ih htail, hle]
    · next hlt =>
      have hnone : xs.filter (fun y => y.time ≤ ev.time) = [] := List.filter_eq_nil_iff.2 fun y hy => by
        have := hhead y hy
        simp only [decide_eq_true_eq]
        omega
      have hall : xs.filter (fun y => ev.time < y.time) = xs := List.filter_eq_self.2 fun y hy => by
        have := hhead y hy
        simp only [decide_eq_true_eq]
        omega
      have hlater : ev.time < x.time := Nat.lt_of_not_le hlt
      simp [hlt, hlater, hnone, hall]

/-! ### The raises of WINDOW_FORCED -/

/-- t holds the WINDOW_FORCED entry of s. -/
def KeepsForced (s t : State) : Prop := t.alertEntry .windowForced = s.alertEntry .windowForced

theorem KeepsForced.refl (s : State) : KeepsForced s s := rfl

theorem KeepsForced.trans {s t u : State} (h : KeepsForced s t) (k : KeepsForced t u) : KeepsForced s u := Eq.trans k h

theorem raise_keepsForced {k : AlertCode} (h : alertIndex .windowForced ≠ alertIndex k) (x : Subject) (v : Option Int) (s : State) :
    KeepsForced s (raise k x v s) := raise_alertEntry_other h x v s

theorem setTg_keepsForced (c : Fin 4) (x : Nat) (new : Option Int) (s : State) : KeepsForced s (setTg c x new s) := by
  cases new with
  | none => exact raise_keepsForced (k := .noData) (by decide) _ _ _
  | some t =>
    have hgrade : ∀ g : Grade, alertIndex .windowForced ≠ alertIndex (gradeAlert g) := fun g => by cases g <;> decide
    unfold setTg
    dsimp only
    split
    · exact .refl s
    · exact raise_keepsForced (hgrade _) _ _ _

theorem evalTg_keepsForced (c : Fin 4) (x : Nat) (s : State) : KeepsForced s (evalTg c x s) := by
  unfold evalTg
  dsimp only
  split
  · exact .refl s
  · exact setTg_keepsForced c x _ s

theorem addBreach_keepsForced (c : Fin 4) (x : Nat) (s : State) : KeepsForced s (addBreach c x s) := by
  unfold addBreach
  dsimp only
  split
  · exact raise_keepsForced (k := .budgetExceeded) (by decide) _ _ _
  · exact .refl s

theorem chargeTicks_keepsForced (c : Fin 4) (m n : Nat) (s : State) : KeepsForced s (chargeTicks c m n s) := by
  unfold chargeTicks
  dsimp only
  split
  · exact .refl s
  · exact addBreach_keepsForced c _ (s.updAccount c _)

theorem growTotals_keepsForced (c : Fin 4) (t m n : Nat) (s : State) : KeepsForced s (growTotals c t m n s) := by
  unfold growTotals
  dsimp only
  split
  · split <;> exact .refl s
  · exact .refl s

theorem chargePiece_keepsForced (c : Fin 4) (p : Nat) (s : State) : KeepsForced s (chargePiece c p s) :=
  (chargeTicks_keepsForced c _ _ s).trans (growTotals_keepsForced c _ _ _ _)

/-- Charging outside every stop forces no event out. -/
theorem chargeThrough_keepsForced {c : Fin 4} (ps : List Nat) {s : State} (hctx : s.contexts = []) :
    KeepsForced s (chargeThrough c ps s) := by
  induction ps generalizing s with
  | nil => exact .refl s
  | cons p ps ih =>
    rw [chargeThrough]
    split
    · exact .refl s
    · obtain ⟨hpiece, -⟩ := chargePiece_at c p s
      have hnone : (chargePiece c p s).contexts = [] := hpiece.accounted.contexts.trans (pieceContexts_nil hctx c p)
      have hresolve : resolveAt c p (chargePiece c p s) = chargePiece c p s := resolveAt_none (by rw [hnone]; simp) c
      obtain ⟨heval, -⟩ := evalTg_at c p (chargePiece c p s)
      rw [hresolve]
      exact ((chargePiece_keepsForced c p s).trans (evalTg_keepsForced c p _)).trans (ih (heval.accounted.contexts.trans hnone))

theorem chargeTo_keepsForced {c : Fin 4} {s : State} (hctx : s.contexts = []) (b : Nat) : KeepsForced s (chargeTo c b s) :=
  chargeThrough_keepsForced _ hctx

theorem applyDoor_keepsForced (c : Fin 4) (p : Fin 2) (d : DoorState) (t : Nat) (s : State) : KeepsForced s (applyDoor c p d t s) := by
  unfold applyDoor
  dsimp only
  split
  · exact .refl s
  · split <;> exact .refl s

theorem applyEvent_keepsForced (c : Fin 4) (ev : PendingEvent) (s : State) : KeepsForced s (applyEvent c ev s) := by
  unfold applyEvent
  split
  · exact evalTg_keepsForced c ev.time (s.updAccount c _)
  · exact applyDoor_keepsForced c _ _ ev.time s

theorem retireHead_keepsForced {c : Fin 4} {s : State} (hctx : s.contexts = []) (ev : PendingEvent) :
    KeepsForced s (retireHead c ev s) := by
  have hcharge := chargeTo_keepsForced (c := c) hctx ev.time
  unfold retireHead finishRetirement
  split
  · exact hcharge
  · exact hcharge.trans (applyEvent_keepsForced c ev ((chargeTo c ev.time s).updWindow c fun w => { w with events := w.events.tail }))

theorem retireWhile_keepsForced {c : Fin 4} {due : Nat → Bool} (fuel : Nat) {s : State} (hl : s.store.lockout = false)
    (hctx : s.contexts = []) : KeepsForced s (retireWhile c due fuel s) := by
  induction fuel generalizing s with
  | zero => exact .refl s
  | succ fuel ih =>
    rw [retireWhile]
    split
    · split
      · exact .refl s
      · next ev rest _ =>
        split
        · have hat := (retireHead_alone hl hctx c ev).accounted
          exact (retireHead_keepsForced hctx ev).trans (ih (hat.store ▸ hl) (hat.contexts.trans hctx))
        · exact .refl s
    · exact .refl s

/-- What the horizon retires at an insertion is not forced out. -/
theorem insertAndSettle_keepsForced {s : State} (hl : s.store.lockout = false) (hctx : s.contexts = []) (c : Fin 4)
    (ev : PendingEvent) : KeepsForced s (insertAndSettle c ev s) := by
  unfold insertAndSettle
  dsimp only
  split
  · exact retireWhile_keepsForced (s := joinWindow c ev s) _ hl hctx
  · exact .refl s

/-- A forced retirement counts one raise more. -/
theorem reportForced_raises (c : Fin 4) (t : Nat) (s : State) :
    ((reportForced c t s).alertEntry .windowForced).raises = satInc max16 (s.alertEntry .windowForced).raises := by
  rw [reportForced, raise_alertEntry_self, State.alertEntryAfter]
  split <;> rfl

theorem reportForced_comp (c : Fin 4) (t : Nat) (s : State) : (reportForced c t s).comp c
    = { s.comp c with window := { (s.comp c).window with forced := satInc max16 (s.comp c).window.forced } } :=
  State.updComp_comp_self s c fun k => { k with window := { k.window with forced := satInc max16 k.window.forced } }

theorem reportForced_at (c : Fin 4) (t : Nat) (s : State) : AtComp c s (reportForced c t s) :=
  (updComp_at c _ s).trans (raise_at c _ _ _ _)

/-! ### The hand-over of a reading (R35, R47 to R52) -/

/-- s with a valid reading of temperature v and sample time t, heard and taken live (R34). -/
def State.readingHeard (s : State) (h : Hdr) (v : Int) : State :=
  (s.heard h).updStation h.src (liveReading v (s.now - h.age.toNat))

/-- A valid reading to the device is handed over where the window works (R33 to R35). -/
theorem exec_sampleHandsOver {s : State} {h : Hdr} {e : Station} {c q : Fin 4} {off : Int} {hi lo : Byte} {rest : List Byte}
    (hh : s.hears h e) (he : e.binding = .probe c q off) (hp : rest.length ≤ 238) (h1 : int16 hi lo ≠ -2048)
    (h2 : int16 hi lo ≠ -2047) (h3 : -880 ≤ int16 hi lo + off) (h4 : int16 hi lo + off ≤ 1200) (hl : s.store.lockout = false)
    (hr : s.route.state ≠ .noRoute) (harmed : (s.comp c).window.armed = true) (henabled : (s.comp c).profile.enabled = true) :
    exec (.sample deviceAddr h (hi :: lo :: rest)) s = .next
      (takeEvent c (s.now - h.age.toNat) (.probe q (int16 hi lo + off)) (s.readingHeard h (int16 hi lo + off))) := by
  have hworks : (s.readingHeard h (int16 hi lo + off)).handsOver c = true :=
    (handsOver_iff _ c).2 ⟨bne_iff_ne.mpr hr, henabled, hl, harmed⟩
  rw [exec_sampleDevice hh he (by simp only [List.length_cons]; omega), readSample_valid _ _ _ _ _ _ _ (sentinel_none h1 h2)]
  dsimp only
  rw [State.readingTaken, clampTold_inRange h3 h4, corrected_inRange h3 h4]
  exact congrArg Host.Outcome.next (if_pos hworks)

section Hands
variable {u : State} {c : Fin 4} {t : Nat} {content : EventContent}

/-- The event a hand-over makes (R43). -/
def State.handed (u : State) (c : Fin 4) (t : Nat) (content : EventContent) : PendingEvent :=
  { time := t, arrival := (u.comp c).window.arrivals, content := content }

theorem numberArrival_comp (u : State) (c : Fin 4) : (numberArrival c u).comp c
    = { u.comp c with window := { (u.comp c).window with arrivals := satInc max32 (u.comp c).window.arrivals } } :=
  State.updComp_comp_self u c _

theorem isLate_iff (u : State) (c : Fin 4) (t : Nat) :
    (numberArrival c u).isLate c t = decide (t < (u.comp c).window.committed) := by
  rw [State.isLate, numberArrival_comp]

/-- An event before the committed time is late (R47, R49). -/
theorem takeEvent_late (hlate : t < (u.comp c).window.committed) :
    takeEvent c t content u = raise .lateSample (.compartment c) (some ((u.comp c).window.committed - t : Nat))
      (u.updComp c fun k => { k with
        window := { k.window with arrivals := satInc max32 k.window.arrivals }
        account := { k.account with
          late := satInc max16 k.account.late
          lateWarm := if isWarm k.profile.limit content then satInc max16 k.account.lateWarm else k.account.lateWarm } }) := by
  rw [takeEvent, isLate_iff, decide_eq_true hlate]
  simp only [if_true, refuseLate, numberArrival_comp]
  refine congrArg (raise _ _ _) ?_
  rw [State.updAccount, numberArrival, State.updWindow, updComp_updComp]
  simp only [State.updComp]

variable (htime : (u.comp c).window.committed ≤ t)
include htime

/-- In CLOSING an event at or after the close time is counted (R56). -/
theorem takeEvent_afterClose {z : Nat} (hst : u.route.state = .closing) (hz : u.route.closeTime = some z) (hclose : z ≤ t) :
    takeEvent c t content u = u.updComp c fun k => { k with window := { k.window with
      arrivals := satInc max32 k.window.arrivals
      afterClose := satInc max16 k.window.afterClose } } := by
  have hafter : beforeClose (numberArrival c u) t = false := by
    have hz' : (numberArrival c u).route.closeTime = some z := hz
    simpa [beforeClose, hz'] using hclose
  rw [takeEvent, isLate_iff, decide_eq_false (Nat.not_lt.mpr htime)]
  dsimp only
  rw [if_neg (by decide), if_pos ⟨hst, hafter⟩, State.updWindow, numberArrival, State.updWindow, updComp_updComp]

/-- Any other event in time goes into the window (R50, R51). -/
theorem takeEvent_inTime (hopen : u.route.state = .closing → ∀ z, u.route.closeTime = some z → t < z) :
    takeEvent c t content u = insertIntoWindow c (u.handed c t content) (numberArrival c u) := by
  have hbefore : ¬ ((numberArrival c u).route.state = .closing ∧ beforeClose (numberArrival c u) t = false) := by
    rintro ⟨hst, hafter⟩
    have hopen' : ∀ z, (numberArrival c u).route.closeTime = some z → t < z := hopen hst
    cases hz : (numberArrival c u).route.closeTime with
    | none => simp [beforeClose, hz] at hafter
    | some z =>
      have := hopen' z hz
      simp only [beforeClose, hz, decide_eq_false_iff_not] at hafter
      exact hafter this
  rw [takeEvent, isLate_iff, decide_eq_false (Nat.not_lt.mpr htime)]
  exact (if_neg (by decide)).trans (if_neg hbefore)

end Hands

/-! ### Into the window (R50 to R52) -/

/-- An event the horizon has not reached joins the window in its place, and nothing retires. -/
theorem insertAndSettle_waits {s : State} {c : Fin 4} {ev : PendingEvent} (hev : s.now < ev.time + s.config.settleDelay)
    (hord : (s.comp c).window.events.Pairwise fun a b => a.time ≤ b.time) :
    insertAndSettle c ev s = s.updWindow c fun w => { w with
      inserted := satInc max16 w.inserted
      events := w.events.filter (fun x => x.time ≤ ev.time) ++ [ev] ++ w.events.filter (fun x => ev.time < x.time) } := by
  have hnot : (joinWindow c ev s).horizonReached ev.time = false := decide_eq_false (Nat.not_le.mpr hev)
  rw [insertAndSettle, hnot]
  simp only [Bool.false_eq_true, if_false, joinWindow, State.updWindow, State.updComp, insertEvent_ordered ev hord]

theorem insertIntoWindow_room {s : State} {c : Fin 4} (h : (s.comp c).window.events.length < 16) (ev : PendingEvent) :
    insertIntoWindow c ev s = insertAndSettle c ev s := by
  unfold insertIntoWindow
  split
  · next x xs he =>
    rw [he] at h
    exact if_pos h
  · rfl

section Full
variable {s : State} {c : Fin 4} {x ev : PendingEvent} {xs : List PendingEvent} (he : (s.comp c).window.events = x :: xs)
  (hlen : (x :: xs).length = 16)
include he hlen

theorem insertIntoWindow_earliest (h : ev.time < x.time) : insertIntoWindow c ev s = retireArriving c ev s := by
  simp only [insertIntoWindow, he, hlen]
  exact if_pos h

theorem insertIntoWindow_later (h : x.time ≤ ev.time) : insertIntoWindow c ev s = replaceEarliest c x ev s := by
  simp only [insertIntoWindow, he, hlen]
  exact if_neg (Nat.not_lt.mpr h)

end Full

section Forced
variable {s : State} (hl : s.store.lockout = false) (hctx : s.contexts = []) (c : Fin 4)
include hl hctx

/-- The event that is the earliest of seventeen retires at once (R51). -/
theorem retireArriving_probe {q : Fin 4} {v : Int} {ev : PendingEvent} (hev : ev.content = .probe q v)
    (htime : (s.comp c).window.committed ≤ ev.time) :
    ((retireArriving c ev s).alertEntry .windowForced).raises = satInc max16 (s.alertEntry .windowForced).raises
      ∧ ((retireArriving c ev s).comp c).window
          = { (s.comp c).window with forced := satInc max16 (s.comp c).window.forced, committed := ev.time }
      ∧ ((retireArriving c ev s).comp c).account.readings = (s.comp c).account.readings.set q.val (some (v, ev.time)) := by
  obtain ⟨hat, -, -, hreadings⟩ := chargeTo_alone hl hctx c ev.time
  have hcharged : (chargeTo c ev.time s).store.lockout = false := by rw [hat.accounted.store]; exact hl
  have hwindow := chargeTo_window hcharged
  have hforced : KeepsForced s (applyEvent c ev (chargeTo c ev.time s)) :=
    (chargeTo_keepsForced hctx ev.time).trans (applyEvent_keepsForced c ev _)
  have hrun : retireArriving c ev s = reportForced c ev.time (applyEvent c ev (chargeTo c ev.time s)) :=
    if_neg (hat.accounted.unlocked hl)
  obtain ⟨-, happlied, -⟩ := applyEvent_at c ev (chargeTo c ev.time s)
  obtain ⟨-, hsample⟩ := applySample_at c q v ev.time (chargeTo c ev.time s)
  obtain ⟨hsampled, -⟩ := sampled_parts ((chargeTo c ev.time s).comp c).profile ((chargeTo c ev.time s).comp c).account q v ev.time
  have hread : ((applyEvent c ev (chargeTo c ev.time s)).comp c).account.readings
      = (s.comp c).account.readings.set q.val (some (v, ev.time)) := by
    simp only [applyEvent, hev, hsample, hsampled, hreadings]
  rw [hrun, reportForced_comp]
  refine ⟨(reportForced_raises c ev.time _).trans (by rw [hforced]), ?_, hread⟩
  dsimp only
  rw [happlied, hwindow, Nat.max_eq_right htime]

/-- Else the earliest event of the window retires, and the new one takes a place (R51). -/
theorem replaceEarliest_waits {x ev : PendingEvent} {xs : List PendingEvent} (he : (s.comp c).window.events = x :: xs)
    (hord : windowOrdered (s.comp c).window) :
    ∃ r, AtComp c s r ∧ (r.comp c).window = { (s.comp c).window with
          forced := satInc max16 (s.comp c).window.forced, committed := x.time, events := xs }
      ∧ (r.alertEntry .windowForced).raises = satInc max16 (s.alertEntry .windowForced).raises
      ∧ (∀ q' v, x.content = .probe q' v →
          (r.comp c).account.readings = (s.comp c).account.readings.set q'.val (some (v, x.time)))
      ∧ (∀ q' d, x.content = .door q' d → (r.comp c).doors[q'].settled = d)
      ∧ replaceEarliest c x ev s = insertAndSettle c ev r := by
  obtain ⟨-, hbefore, -⟩ := hord
  have htime : (s.comp c).window.committed ≤ x.time := hbefore x (by rw [he]; exact List.mem_cons_self)
  obtain ⟨hat, -, -, hreadings⟩ := chargeTo_alone hl hctx c x.time
  have hcharged : (chargeTo c x.time s).store.lockout = false := by rw [hat.accounted.store]; exact hl
  have hwindow := chargeTo_window hcharged
  obtain ⟨hretire, hretired, -⟩ := retireHead_at (c := c) (ev := x) (s := s) rfl hcharged rfl
  have hunlocked := (hat.trans hretire).accounted.unlocked hl
  have hforced : KeepsForced s (retireHead c x s) := by
    rw [retireHead_charged rfl hcharged]
    have happly := applyEvent_keepsForced c x ((chargeTo c x.time s).updWindow c fun w => { w with events := w.events.tail })
    exact (chargeTo_keepsForced hctx x.time).trans happly
  refine ⟨reportForced c x.time (retireHead c x s), (hat.trans hretire).trans (reportForced_at c x.time _), ?_,
    (reportForced_raises c x.time _).trans (by rw [hforced]), fun q' v hev => ?_, fun q' d hev => ?_, if_neg hunlocked⟩
  · rw [reportForced_comp]
    dsimp only
    rw [hretired, hwindow, Nat.max_eq_right htime]
    simp only [he, List.tail_cons]
  · obtain ⟨haccount, -⟩ := retireHead_probe (c := c) (s := s) rfl hcharged rfl hev
    obtain ⟨hsampled, -⟩ := sampled_parts ((chargeTo c x.time s).comp c).profile ((chargeTo c x.time s).comp c).account q' v x.time
    rw [reportForced_comp]
    dsimp only
    rw [haccount, hsampled, hreadings]
  · obtain ⟨-, hdoor⟩ := retireHead_door (c := c) (s := s) rfl hcharged rfl hev
    rw [reportForced_comp]
    exact hdoor

end Forced

end Sys2Proof.Machine
end

section
open Sys2Proof Sys2Proof.Machine

/-- Settles O29: the sample time, the close time and the room of the window pick the branch. -/
theorem sampleEntersWindow : Obligations.SampleEntersWindow := by
  intro s h e c q off hi lo rest hh he hp h1 h2 h3 h4 hl hr harmed henabled hord
  rw [exec_sampleHandsOver hh he hp h1 h2 h3 h4 hl hr harmed henabled]
  have hpairwise := hord.1
  refine ⟨fun hlate => ?late, fun z hst hz hclose htime => ?close, fun htime hopen hroom hwait => ?room,
    fun x xs hevents hlen hctx htime hopen => ?full⟩
  case late =>
    rw [takeEvent_late (u := s.readingHeard h (int16 hi lo + off)) hlate]
    simp only [isWarm, decide_eq_true_eq]
    rfl
  case close => exact congrArg Host.Outcome.next (takeEvent_afterClose (u := s.readingHeard h (int16 hi lo + off)) htime hst hz hclose)
  case room =>
    have hnumber := numberArrival_comp (s.readingHeard h (int16 hi lo + off)) c
    rw [takeEvent_inTime (u := s.readingHeard h (int16 hi lo + off)) htime hopen,
      insertIntoWindow_room (by rw [hnumber]; exact hroom), insertAndSettle_waits hwait (by rw [hnumber]; exact hpairwise),
      State.updWindow, numberArrival, State.updWindow, updComp_updComp]
    rfl
  case full =>
    have hnumber := numberArrival_comp (s.readingHeard h (int16 hi lo + off)) c
    have hat : ∀ t, AtComp c (numberArrival c (s.readingHeard h (int16 hi lo + off))) t → ∀ b, b ≠ c → t.comp b = s.comp b :=
      fun t ht b hb => (ht.others b hb).trans ((updWindow_at c _ (s.readingHeard h (int16 hi lo + off))).others b hb)
    rw [takeEvent_inTime (u := s.readingHeard h (int16 hi lo + off)) htime hopen]
    generalize hu : numberArrival c (s.readingHeard h (int16 hi lo + off)) = u at hnumber hat
    generalize hev : (s.readingHeard h (int16 hi lo + off)).handed c (s.now - h.age.toNat) (.probe q (int16 hi lo + off)) = ev
    have hcontent : ev.content = .probe q (int16 hi lo + off) := by rw [← hev]; rfl
    have hsampled : ev.time = s.now - h.age.toNat := by rw [← hev]; rfl
    have harrived : ev = { time := s.now - h.age.toNat, arrival := (s.comp c).window.arrivals
                           content := .probe q (int16 hi lo + off) } := hev.symm
    rw [← hsampled] at htime ⊢
    have hlu : u.store.lockout = false := by rw [← hu]; exact hl
    have hcu : u.contexts = [] := by rw [← hu]; exact hctx
    have hraises : u.alertEntry .windowForced = s.alertEntry .windowForced := by rw [← hu]; rfl
    have hevu : (u.comp c).window.events = x :: xs := by rw [hnumber]; exact hevents
    have hordu : windowOrdered (u.comp c).window := by rw [hnumber]; exact hord
    rw [← hraises]
    by_cases hearly : ev.time < x.time
    · rw [insertIntoWindow_earliest hevu hlen hearly]
      obtain ⟨hcount, hwindow, hread⟩ := retireArriving_probe hlu hcu c hcontent (by rw [hnumber]; exact htime)
      rw [hnumber] at hwindow hread
      exact ⟨_, rfl, hcount, hat _ (retireArriving_alone hlu hcu c _), fun _ => ⟨hwindow, hread⟩, fun hle => absurd hearly (by omega)⟩
    · rw [insertIntoWindow_later hevu hlen (Nat.le_of_not_lt hearly)]
      obtain ⟨r, hr, hwindow, hcount, hprobe, hdoor, hrun⟩ := replaceEarliest_waits hlu hcu c (ev := ev) hevu hordu
      rw [hnumber] at hwindow hprobe
      have hsettle := insertAndSettle_alone (by rw [hr.accounted.store]; exact hlu) (by rw [hr.accounted.contexts]; exact hcu) c ev (s := r)
      have hkeeps := insertAndSettle_keepsForced (by rw [hr.accounted.store]; exact hlu) (by rw [hr.accounted.contexts]; exact hcu) c ev (s := r)
      rw [hrun]
      refine ⟨_, rfl, (congrArg AlertEntry.raises hkeeps).trans hcount, hat _ (hr.trans hsettle), fun hlt => absurd hlt hearly,
        fun _ hwait => ?_⟩
      have hxs : (r.comp c).window.events = xs := by rw [hwindow]
      have hwaitr : r.now < ev.time + r.config.settleDelay := by
        rw [hr.accounted.now, hr.accounted.config, ← hu]
        exact hwait
      have hpairwise' : xs.Pairwise fun a b => a.time ≤ b.time := by
        rw [hevents] at hpairwise
        exact (List.pairwise_cons.1 hpairwise).2
      rw [insertAndSettle_waits hwaitr (by rw [hxs]; exact hpairwise'), updWindow_comp, if_pos rfl]
      refine ⟨?_, hprobe, hdoor⟩
      rw [hwindow, harrived]
      rfl

end

section
/-! SUPPORT. Claims judged and released while the array reads soundly: a claim read, an evaluation, a release, and the answers it makes (R171 to R177). -/
namespace Sys2Proof.Machine

/-! ### Claim reads (R171, R172) -/

/-- A claim read finds the record, or not, and the judgement follows from it. -/
theorem claimRead_judged {s : State} {sel : Selector} {r : Nat} {j : Judgement} {rest : List Bool}
    (h : s.judgedAs sel r j s.array.script rest) :
    judgeClaim s.classes sel (s.claimRead r) = j
      ∧ ∃ n, afterClaimRead r s = { s with array := { script := rest, count := n } } := by
  have hstay : ∀ {u : List Bool}, s.array.script = u → s = { s with array := { script := u, count := s.array.count } } := by
    rintro _ rfl; rfl
  rcases h with ⟨i, h, b, hfind, hslot, rfl, hreads⟩ | ⟨rfl, ⟨hfind, hreads⟩ | ⟨i, h, f, hfind, hslot, hreads⟩ | ⟨i, h, body, hfind, hslot, hbody, hreads⟩⟩
  · have hsound : s.readFails = false := readFails_of_script hreads
    have hafter := afterRead_of_script hreads
    rcases hslot with hslot | hslot
    · simp only [State.claimRead, afterClaimRead, hfind, hslot, hsound, Bool.false_eq_true, if_false, hafter]
      exact ⟨rfl, _, rfl⟩
    · simp only [State.claimRead, afterClaimRead, hfind, hslot, hsound, Bool.false_eq_true, if_false, hafter]
      exact ⟨rfl, _, rfl⟩
  · simp only [State.claimRead, afterClaimRead, hfind]
    exact ⟨rfl, _, hstay hreads⟩
  · simp only [State.claimRead, afterClaimRead, hfind, hslot]
    exact ⟨rfl, _, hstay hreads⟩
  · have hsound : s.readFails = false := readFails_of_script hreads
    have hafter := afterRead_of_script hreads
    have hunknown : judgeClaim s.classes sel (some body) = { drop := 0, entries := [{ index := sel, verdict := .unknownRecord }] } := by
      unfold judgeClaim
      split
      · next b hb => exact absurd (Option.some.inj hb) (hbody b)
      · rfl
    rcases hslot with hslot | hslot
    · simp only [State.claimRead, afterClaimRead, hfind, hslot, hsound, Bool.false_eq_true, if_false, hafter]
      exact ⟨hunknown, _, rfl⟩
    · simp only [State.claimRead, afterClaimRead, hfind, hslot, hsound, Bool.false_eq_true, if_false, hafter]
      exact ⟨hunknown, _, rfl⟩

/-- s with another Claim Queue, n reads of the array made and u claims found UNKNOWN_RECORD. -/
def State.claimsEvaluated (s : State) (queue : List Claim) (reads : List Bool) (n u : Nat) : State :=
  { s with
    array := { script := reads, count := n }
    claims := { queue := queue, counts := { s.claims.counts with unknownRecord := u } } }

/-- A WAITING claim whose record is known is judged from its claim read (R170, R171). -/
theorem evaluateAt_judged {s : State} {i r : Nat} {k : Claim} {j : Judgement} {rest : List Bool} (hl : s.store.lockout = false)
    (hk : s.claims.queue[i]? = some k) (hr : k.resolved = some r) (hj : k.judged = none)
    (h : s.judgedAs k.selector r j s.array.script rest) :
    ∃ n u, evaluateAt i s = s.claimsEvaluated (s.claims.queue.set i { k with judged := some j }) rest n u := by
  obtain ⟨hanswer, n, hafter⟩ := claimRead_judged h
  have hopen : State.lockedOut { s with array := { script := rest, count := n } } = false := hl
  refine ⟨n, if answerUnknown (s.claimRead r) then satInc max32 s.claims.counts.unknownRecord else s.claims.counts.unknownRecord, ?_⟩
  unfold evaluateAt
  simp only [hk, hr, hj, hafter, hopen, Bool.false_eq_true, if_false, hanswer]
  rfl

/-- One whose record is not known waits on. -/
theorem evaluateAt_waits {s : State} {i : Nat} {k : Claim} (hk : s.claims.queue[i]? = some k) (hr : k.resolved = none) :
    evaluateAt i s = s := by
  simp only [evaluateAt, hk, hr]

/-- What a judgement depends on: the classes, and the slots that hold records. -/
theorem judgedAs_congr {s t : State} {sel : Selector} {r : Nat} {j : Judgement} {reads rest : List Bool} (hclasses : t.classes = s.classes)
    (hlist : t.store.fillList = s.store.fillList) (hslots : ∀ l, t.slot l = s.slot l ∨ (t.slot l).header? = none ∧ (s.slot l).header? = none)
    (h : s.judgedAs sel r j reads rest) : t.judgedAs sel r j reads rest := by
  have hheader : ∀ l, (t.slot l).header? = (s.slot l).header? := fun l => by
    rcases hslots l with heq | ⟨ht, hs⟩
    · rw [heq]
    · rw [ht, hs]
  have hkept : ∀ l, (s.slot l).header? ≠ none → t.slot l = s.slot l := fun l hsome => (hslots l).resolve_right fun hnone => hsome hnone.2
  have hfind : t.findRecord r = s.findRecord r := by
    simp only [State.findRecord, hlist, hheader]
  have hfilled : ∀ {l : Fin 256} {h : RecordHeader} {b : RecordBody}, s.slot l = .filled h b ∨ s.slot l = .taken h b →
      t.slot l = .filled h b ∨ t.slot l = .taken h b := fun {l h b} hslot => by
    rw [hkept l (by rcases hslot with hslot | hslot <;> simp [hslot, Slot.header?])]
    exact hslot
  unfold State.judgedAs at h ⊢
  rw [hfind, hclasses]
  rcases h with ⟨i, h, b, hi, hslot, hrest⟩ | ⟨hj, hnone | ⟨i, h, f, hi, hslot, hrest⟩ | ⟨i, h, body, hi, hslot, hrest⟩⟩
  · exact .inl ⟨i, h, b, hi, hfilled hslot, hrest⟩
  · exact .inr ⟨hj, .inl hnone⟩
  · exact .inr ⟨hj, .inr (.inl ⟨i, h, f, hi, by rw [hkept i (by simp [hslot, Slot.header?]), hslot], hrest⟩)⟩
  · exact .inr ⟨hj, .inr (.inr ⟨i, h, body, hi, hfilled hslot, hrest⟩)⟩

/-! ### The answers (R15, R176) -/

theorem offerReply_joins {p : Port} {s : State} (h : s.replyPlacesUsed p < 4) (f : QFrame) :
    ((offerReply p f s).port p).replies = (s.port p).replies ++ [f]
      ∧ (offerReply p f s).replyPlacesUsed p = s.replyPlacesUsed p + 1 := by
  have hroom : s.replyPlacesUsed p < Config.replyPlaces := h
  cases p
  · simp only [offerReply, if_pos hroom]
    simp [State.updPort, State.port, State.replyPlacesUsed]
  · simp only [offerReply, if_pos hroom]
    simp only [State.updPort, State.port, State.replyPlacesUsed, List.length_append, List.length_singleton, true_and]
    omega

/-- Frames offered in order join the reply queue while it has room. -/
theorem offerReplies_join {p : Port} (fs : List QFrame) {s : State} (h : s.replyPlacesUsed p + fs.length ≤ 4) :
    ((fs.foldl (fun s f => offerReply p f s) s).port p).replies = (s.port p).replies ++ fs := by
  induction fs generalizing s with
  | nil => simp
  | cons f fs ih =>
    rw [List.length_cons] at h
    obtain ⟨hjoins, hused⟩ := offerReply_joins (p := p) (s := s) (by omega) f
    rw [List.foldl_cons, ih (by rw [hused]; omega), hjoins, List.append_assoc, List.singleton_append]

theorem offerReplies_only (p : Port) (fs : List QFrame) (s : State) :
    fs.foldl (fun s f => offerReply p f s) s = { s with ports := (fs.foldl (fun s f => offerReply p f s) s).ports } := by
  induction fs generalizing s with
  | nil => rfl
  | cons f fs ih =>
    rw [List.foldl_cons, ih, offerReply_only p f s]

theorem answerJudged_eq (k : Claim) (j : Judgement) (n : Nat) (s : State) :
    answerJudged k j n s = (claimAnswers k j n).foldl (fun s f => offerReply k.port f s) s := by
  unfold answerJudged claimAnswers
  split <;> rfl

/-! ### The supported entries (R175) -/

/-- The count of supported entries after those of a verdict list. -/
def supportedAfter (entries : List VerdictEntry) (n : Nat) : Nat :=
  entries.foldl (fun n v => if v.verdict = .supported then satInc max32 n else n) n

/-- s with the count of supported entries at n. -/
def State.withSupported (s : State) (n : Nat) : State :=
  { s with claims := { s.claims with counts := { s.claims.counts with supported := n } } }

theorem raiseSupported_told (d : Nat) (v : VerdictEntry) (s : State) :
    Told (s.withSupported (supportedAfter [v] s.claims.counts.supported)) (raiseSupported d v s) := by
  by_cases hv : v.verdict = .supported
  · rw [raiseSupported, if_pos hv, supportedAfter, List.foldl_cons, List.foldl_nil, if_pos hv]
    rfl
  · rw [raiseSupported, if_neg hv, supportedAfter, List.foldl_cons, List.foldl_nil, if_neg hv]
    rfl

theorem Told.withSupported {s t : State} (h : Told s t) (n : Nat) : Told (s.withSupported n) (t.withSupported n) := by
  unfold Told at h ⊢
  rw [h]
  rfl

/-- Each supported entry is told and counted. -/
theorem raisesSupported_told (d : Nat) (entries : List VerdictEntry) (s : State) :
    Told (s.withSupported (supportedAfter entries s.claims.counts.supported))
      (entries.foldl (fun s v => raiseSupported d v s) s) := by
  induction entries generalizing s with
  | nil => exact .refl s
  | cons v vs ih =>
    have hfirst := raiseSupported_told d v s
    have hrest := ih (raiseSupported d v s)
    rw [hfirst.claims] at hrest
    exact (hfirst.withSupported (supportedAfter vs (supportedAfter [v] s.claims.counts.supported))).trans hrest

/-! ### A release (R174, R175, R177) -/

/-- t is s with its head claim k, judged j, released: the verdict record filled into the reservation, the answer made, and the claim gone; reads are those of the array that follow. -/
structure Released (k : Claim) (j : Judgement) (reads : List Bool) (s t : State) : Prop where
  store : t.store = (writeRecord k.reservation (claimVerdictBody k j) s).store
  queue : t.claims.queue = s.claims.queue.tail
  released : t.claims.counts.released = satInc max32 s.claims.counts.released
  supported : t.claims.counts.supported = supportedAfter j.entries s.claims.counts.supported
  script : t.array.script = reads
  route : t.route = s.route
  clock : t.clock = s.clock
  replies : s.replyPlacesUsed k.port + (claimAnswers k j s.store.nextNumber).length ≤ 4 →
    (t.port k.port).replies = (s.port k.port).replies ++ claimAnswers k j s.store.nextNumber

/-- A release whose record reads back soundly. -/
theorem releaseClaim_sound {s : State} {j : Judgement} {reads : List Bool} (hl : s.store.lockout = false)
    (hread : s.array.script = false :: reads) (k : Claim) : Released k j reads s (releaseClaim k j s) := by
  have hfill := fillCore_sound hread k.reservation (claimVerdictBody k j)
  generalize hu : State.withClaims (fillCore k.reservation (claimVerdictBody k j) s)
    { (fillCore k.reservation (claimVerdictBody k j) s).claims with
      queue := (fillCore k.reservation (claimVerdictBody k j) s).claims.queue.tail } = u
  generalize hv : answerJudged k j s.store.nextNumber u = v
  have honly : v = { u with ports := v.ports } := by rw [← hv, answerJudged_eq]; exact offerReplies_only _ _ u
  have htold := raisesSupported_told j.drop j.entries v
  generalize hw : j.entries.foldl (fun s v => raiseSupported j.drop v s) v = w at htold
  have hstore : w.store = (writeRecord k.reservation (claimVerdictBody k j) s).store := by
    rw [htold.store]
    change v.store = _
    rw [honly, ← hu, hfill]
    rfl
  have hclaims : w.claims = (v.withSupported (supportedAfter j.entries v.claims.counts.supported)).claims := htold.claims
  have hvclaims : v.claims = { s.claims with queue := s.claims.queue.tail } := by
    rw [honly, ← hu, hfill]
    rfl
  have hrun : releaseClaim k j s = w.updClaimCounts fun n => { n with released := satInc max32 n.released } := by
    have hopen : (w.updClaimCounts fun n => { n with released := satInc max32 n.released }).store.lockout = false := by
      change w.store.lockout = false
      rw [hstore]
      exact hl
    rw [← sweepClaims_unlocked hopen, ← hw, ← hv, ← hu]
    rfl
  have hport : ∀ p, (w.port p).replies = (v.port p).replies := fun p => by
    cases p
    · exact congrArg PortUnit.replies htold.field
    · exact congrArg PortUnit.replies htold.trunk
  rw [hrun]
  refine ⟨hstore, ?_, ?_, ?_, ?_, ?_, ?_, fun hroom => ?_⟩
  · change w.claims.queue = _
    rw [hclaims]
    change v.claims.queue = _
    rw [hvclaims]
  · change satInc max32 w.claims.counts.released = _
    rw [hclaims]
    change satInc max32 v.claims.counts.released = _
    rw [hvclaims]
  · change w.claims.counts.supported = _
    rw [hclaims, hvclaims]
    rfl
  · change w.array.script = _
    rw [htold.array]
    change v.array.script = _
    rw [honly, ← hu, hfill]
    rfl
  · change w.route = _
    rw [htold.route]
    change v.route = _
    rw [honly, ← hu, hfill]
    rfl
  · change w.clock = _
    rw [htold.clock]
    change v.clock = _
    rw [honly, ← hu, hfill]
    rfl
  · have huports : u.ports = s.ports := by rw [← hu, hfill]; rfl
    have hused : u.replyPlacesUsed k.port = s.replyPlacesUsed k.port := by simp only [State.replyPlacesUsed, huports]
    change (w.port k.port).replies = _
    rw [hport, ← hv, answerJudged_eq, offerReplies_join _ (by rw [hused]; exact hroom)]
    simp only [State.port, huports]

/-- Nothing is released while the head waits (R174). -/
theorem releaseClaims_waits {s : State} (h : ∀ k, s.claims.queue.head? = some k → k.judged = none) : releaseClaims s = s := by
  unfold releaseClaims
  cases hq : s.claims.queue with
  | nil => rfl
  | cons k ks =>
    have hk := h k (by rw [hq]; rfl)
    simp only [List.length_cons, releaseLoop, hq, hk]

end Sys2Proof.Machine
end

section
/-! SUPPORT. The lodging of a claim, on either port: its checks, its place and slot, and its reply (R166 to R168). -/
namespace Sys2Proof.Machine

/-! ### What a lodging names -/

/-- The reference that a lodging carries is the one its reply names. -/
theorem lodgeRef_of_parseLodge {payload : List Byte} {o : LodgeOps} (h : parseLodge payload = some o) :
    lodgeRef payload = some o.reference := by
  unfold parseLodge at h
  split at h
  · split at h
    · next hr _ => cases h; exact hr
    · cases h
  · cases h

theorem length_of_parseLodge {payload : List Byte} {o : LodgeOps} (h : parseLodge payload = some o) : payload.length = 7 := by
  unfold parseLodge at h
  split at h
  · rfl
  · cases h

theorem refNamed_drop {s : State} {n : Nat} {d : Drop} (h1 : 1 ≤ n) (h64 : n ≤ 64) (hd : s.findDrop n = some d) :
    s.refNamed (.drop n) = true := by
  simp [State.refNamed, h1, h64, hd]

theorem refClaimable_drop {s : State} {n : Nat} {d : Drop} (hd : s.findDrop n = some d) :
    s.refClaimable (.drop n) = claimable d := by
  simp [State.refClaimable, hd]

/-- A reference at hand passes the checks of R166 and R167, and is resolved at once (R168). -/
theorem atHand_passes {s : State} {x : ClaimRef} {r : Nat} (h : s.atHand x r) :
    s.refNamed x = true ∧ s.refClaimable x = true ∧ s.resolveRef x = some r := by
  obtain ⟨hr, rfl | ⟨n, d, o, rfl, h1, h64, hd, hst, hrec⟩⟩ := h
  · exact ⟨decide_eq_true hr, rfl, rfl⟩
  · refine ⟨refNamed_drop h1 h64 hd, ?_, ?_⟩
    · rw [refClaimable_drop hd, claimable, hst]
    · simp only [State.resolveRef, hd, hst, hrec]

/-! ### The checks (R166, R167) -/

theorem lodgeCheck_passes {s : State} {o : LodgeOps} (hl : s.store.lockout = false) (hr : s.route.state ≠ .noRoute)
    (hnamed : s.refNamed o.reference = true) (hsel : selectorInRange o.selector = true) (hclaim : s.refClaimable o.reference = true) :
    s.lodgeCheck (some o) = none := by
  have hlock : s.lockedOut = false := hl
  have hroute : s.onRoute = true := bne_iff_ne.mpr hr
  simp [State.lodgeCheck, hlock, hroute, hnamed, hsel, hclaim]

theorem trunkLodgeCheck_passes {s : State} {o : LodgeOps} (hl : s.store.lockout = false)
    (hnamed : s.refNamed o.reference = true) (hsel : selectorInRange o.selector = true) (hclaim : s.refClaimable o.reference = true) :
    s.trunkLodgeCheck (some o) = none := by
  have hlock : s.lockedOut = false := hl
  have hrange : lodgeInRange o = true ∧ s.refHeld o.reference = true := by
    unfold lodgeInRange State.refHeld
    cases hx : o.reference with
    | record n => rw [hx] at hnamed; exact ⟨by simpa [hsel, State.refNamed] using hnamed, rfl⟩
    | drop n =>
      rw [hx] at hnamed
      simp only [State.refNamed, Bool.and_eq_true] at hnamed
      obtain ⟨⟨h1, h64⟩, hheld⟩ := hnamed
      exact ⟨by simp only [h1, h64, hsel, Bool.and_self], hheld⟩
  simp [State.trunkLodgeCheck, hlock, hrange, hclaim]

theorem claimRoom_free {s : State} {i : Fin 256} (h : s.claims.queue.length < 8) (hi : s.firstFree i) : s.claimRoom = some i :=
  (if_pos h).trans (lowestFree_of_firstFree hi)

theorem claimRoom_none {s : State} (h : 8 ≤ s.claims.queue.length ∨ ∀ j, (s.slot j).isFree = false) : s.claimRoom = none := by
  unfold State.claimRoom
  split
  · next hroom => exact lowestFree_of_none (h.resolve_left (Nat.not_le.mpr hroom))
  · rfl

/-! ### Lodgings that arrive -/

/-- A lodging from a terminal, at the Station Table first (R5, R36). -/
theorem terminalLodgeFirst (h : Hdr) (payload : List Byte) : FieldRow (fieldFrame deviceAddr typClaimLodge h payload)
    (stationFirst (fieldFrame deviceAddr typClaimLodge h payload)
      (sendClaimReply h.src typClaimLodge (lodgeRef payload) (.refused .notTerminal))
      fun e s => if isTerminal e then deliverLodge h.src typClaimLodge payload s
        else sendClaimReply h.src typClaimLodge (lodgeRef payload) (.refused .notTerminal) s) (.terminalClaimLodge h payload) :=
  terminalLodgeRow h payload

section Terminal
variable {s : State} {h : Hdr} {e : Station} {payload : List Byte} (hh : s.hears h e) (hp : payload.length ≤ 240)
include hh hp

theorem exec_lodge_notTerminal (he : e.binding ≠ .terminal) : exec (.terminalClaimLodge h payload) s = .next
    (sendClaimReply h.src typClaimLodge (lodgeRef payload) (.refused .notTerminal) (s.heard h)) := by
  have hterm : isTerminal e = false := by simpa [isTerminal] using he
  rw [(terminalLodgeFirst h payload).hears hh (by decide) hp]
  simp only [hterm, Bool.false_eq_true, if_false]

theorem exec_lodge_delivered (he : e.binding = .terminal) :
    exec (.terminalClaimLodge h payload) s = .next (deliverLodge h.src typClaimLodge payload (s.heard h)) := by
  have hterm : isTerminal e = true := by simp [isTerminal, he]
  rw [(terminalLodgeFirst h payload).hears hh (by decide) hp]
  simp only [hterm, if_true]

/-- A lodging that a check of R167 refuses. -/
theorem exec_lodge_refused (he : e.binding = .terminal) {w : TermReason} (hw : s.lodgeCheck (parseLodge payload) = some w) :
    exec (.terminalClaimLodge h payload) s = .next (s.refusesLodging h payload w) := by
  have hw' : (s.heard h).lodgeCheck (parseLodge payload) = some w := hw
  have hmalformed : (!(s.heard h).lockedOut && (parseLodge payload).isNone) = decide (s.store.lockout = false ∧ parseLodge payload = none) := by
    have hlock : (s.heard h).lockedOut = s.store.lockout := rfl
    rw [hlock]
    cases s.store.lockout <;> cases parseLodge payload <;> rfl
  rw [exec_lodge_delivered hh hp he]
  simp only [deliverLodge, hw', hmalformed, decide_eq_true_eq]
  rfl

end Terminal

section TerminalChecks
variable {s : State} {o : LodgeOps}

theorem lodgeCheck_lockout (hl : s.store.lockout = true) (x : Option LodgeOps) : s.lodgeCheck x = some .lockout := if_pos hl

theorem lodgeCheck_malformed (hl : s.store.lockout = false) : s.lodgeCheck none = some .state := by
  rw [State.lodgeCheck, if_neg (by simp [State.lockedOut, hl])]

variable (hl : s.store.lockout = false)
include hl

theorem lodgeCheck_noRoute (hr : s.route.state = .noRoute) : s.lodgeCheck (some o) = some .noRoute := by
  have hlock : s.lockedOut = false := hl
  have hroute : s.onRoute = false := bne_eq_false_iff_eq.mpr hr
  simp [State.lodgeCheck, hlock, hroute]

variable (hr : s.route.state ≠ .noRoute)
include hr

theorem lodgeCheck_noDrop (hnamed : s.refNamed o.reference = false) : s.lodgeCheck (some o) = some .noDrop := by
  have hlock : s.lockedOut = false := hl
  have hroute : s.onRoute = true := bne_iff_ne.mpr hr
  simp [State.lodgeCheck, hlock, hroute, hnamed]

variable (hnamed : s.refNamed o.reference = true)
include hnamed

theorem lodgeCheck_badItem (hsel : selectorInRange o.selector = false) : s.lodgeCheck (some o) = some .badItem := by
  have hlock : s.lockedOut = false := hl
  have hroute : s.onRoute = true := bne_iff_ne.mpr hr
  simp [State.lodgeCheck, hlock, hroute, hnamed, hsel]

theorem lodgeCheck_state (hsel : selectorInRange o.selector = true) (hclaim : s.refClaimable o.reference = false) :
    s.lodgeCheck (some o) = some .state := by
  have hlock : s.lockedOut = false := hl
  have hroute : s.onRoute = true := bne_iff_ne.mpr hr
  simp [State.lodgeCheck, hlock, hroute, hnamed, hsel, hclaim]

end TerminalChecks

/-- A reference that names nothing (R167, check 4). -/
theorem refNamed_eq_false {s : State} {x : ClaimRef}
    (h : x = .record 0 ∨ ∃ n, x = .drop n ∧ (n = 0 ∨ 64 < n ∨ s.findDrop n = none)) : s.refNamed x = false := by
  rcases h with rfl | ⟨n, rfl, hn⟩
  · rfl
  · rcases hn with rfl | hn | hn
    · rfl
    · simp [State.refNamed, Nat.not_le.mpr hn]
    · simp [State.refNamed, hn]

theorem refNamed_eq_true {s : State} {x : ClaimRef} (h0 : x ≠ .record 0)
    (hdrop : ∀ n, x = .drop n → 1 ≤ n ∧ n ≤ 64 ∧ s.findDrop n ≠ none) : s.refNamed x = true := by
  cases x with
  | record n => exact decide_eq_true (Nat.pos_of_ne_zero fun e => h0 (by rw [e]))
  | drop n =>
    obtain ⟨h1, h64, hfind⟩ := hdrop n rfl
    simp [State.refNamed, h1, h64, Option.isSome_iff_ne_none, hfind]

theorem claimable_eq_false {d : Drop} (h1 : d.state ≠ .settling) (h2 : ∀ x, d.state ≠ .final x) : claimable d = false := by
  unfold claimable
  split
  · exact absurd ‹_› h1
  · exact absurd ‹_› (h2 _)
  · rfl

theorem claimLodge_frame {m : CmdHdr} {payload : List Byte} (hs : sourceOk m.src = true) (hp : payload.length ≤ 239) (asFrame : Bool) :
    CommandFrame (runClaimLodge m payload) (.claimLodge asFrame m payload) := by
  cases asFrame with
  | false => exact commandFrame_of (payload := cmdClaimLodge :: payload) hs (by simp only [List.length_cons]; omega) fun _ => rfl
  | true => exact lodgeFrame_of (payload := payload) hs (by omega) fun _ => rfl

theorem exec_claimLodge {s : State} {m : CmdHdr} {payload : List Byte} (ht : s.takes m) (hp : payload.length ≤ 239) (asFrame : Bool) :
    exec (.claimLodge asFrame m payload) s = .next (runClaimLodge m payload s.admitted) :=
  (claimLodge_frame ht.2.1 hp asFrame).runs ht fun s => (runClaimLodge_carries _ m payload s).ends

/-! ### Lodgings that are accepted (R168) -/

/-- A claim as it is lodged, WAITING. -/
def lodgedClaim (p : Port) (src : Byte) (o : LodgeOps) (resolved : Option Nat) (now : Nat) (i : Fin 256) : Claim :=
  { tag := o.tag, port := p, station := src, reference := o.reference, resolved := resolved, selector := o.selector
    kind := o.kind, lodged := now, judged := none, reservation := i }

/-- s with slot i reserved for a claim that joins the queue (R168). -/
def State.claimJoined (s : State) (k : Claim) : State :=
  { s.setSlot k.reservation .reserved with
    claims := { queue := s.claims.queue ++ [k], counts := { s.claims.counts with lodged := satInc max32 s.claims.counts.lodged } } }

theorem joinClaim_told (i : Fin 256) (p : Port) (src : Byte) (o : LodgeOps) (s : State) :
    Told (s.claimJoined (lodgedClaim p src o (s.resolveRef o.reference) s.now i)) (joinClaim i p src o s) := by
  have htold := storeLowCheck_told (s.setSlot i .reserved)
  have hclaims := htold.claims
  unfold Told at htold ⊢
  unfold joinClaim reserveSlot
  dsimp only
  rw [hclaims]
  rw [htold]
  rfl

/-- v is s with claim k lodged and its reply made: its slot reserved, its place in the queue taken. -/
structure Joined (s : State) (k : Claim) (reply : QFrame) (v : State) : Prop where
  claims : v.claims = (s.claimJoined k).claims
  store : v.store = (s.claimJoined k).store
  array : v.array = s.array
  classes : v.classes = s.classes
  drops : v.drops = s.drops
  contexts : v.contexts = s.contexts
  comps : v.comps = s.comps
  route : v.route = s.route
  replies : s.replyPlacesUsed k.port < 4 → (v.port k.port).replies = (s.port k.port).replies ++ [reply]
    ∧ v.replyPlacesUsed k.port = s.replyPlacesUsed k.port + 1

/-- What the arrival u of a lodging leaves of s, and its reply w of the joining v. -/
theorem Joined.of_told {s u v w : State} {k : Claim} {reply : QFrame}
    (hu : u = { s with ports := u.ports, stations := u.stations, agent := u.agent }) (htold : Told (u.claimJoined k) v)
    (hw : w = { v with ports := w.ports, agent := w.agent })
    (hreplies : s.replyPlacesUsed k.port < 4 → (w.port k.port).replies = (s.port k.port).replies ++ [reply]
      ∧ w.replyPlacesUsed k.port = s.replyPlacesUsed k.port + 1) : Joined s k reply w := by
  refine ⟨?_, ?_, ?_, ?_, ?_, ?_, ?_, ?_, hreplies⟩
  · rw [hw]; exact htold.claims.trans (by rw [hu]; rfl)
  · rw [hw]; exact htold.store.trans (by rw [hu]; rfl)
  · rw [hw]; exact htold.array.trans (by rw [hu]; rfl)
  · rw [hw]; exact htold.classes.trans (by rw [hu]; rfl)
  · rw [hw]; exact htold.drops.trans (by rw [hu]; rfl)
  · rw [hw]; exact htold.contexts.trans (by rw [hu]; rfl)
  · rw [hw]; exact htold.comps.trans (by rw [hu]; rfl)
  · rw [hw]; exact htold.route.trans (by rw [hu]; rfl)

section Accepted
variable {s : State} {o : LodgeOps} {payload : List Byte} {i : Fin 256} (hparse : parseLodge payload = some o)
  (hl : s.store.lockout = false) (hsel : selectorInRange o.selector = true) (hnamed : s.refNamed o.reference = true)
  (hclaim : s.refClaimable o.reference = true)
include hparse hl hsel hnamed hclaim

/-- A lodging from a terminal that passes its checks meets the room of the Claim Queue and the store (R167). -/
theorem deliverLodge_checked (hr : s.route.state ≠ .noRoute) (h : Hdr) :
    (s.heard h).lodgeCheck (parseLodge payload) = none := by
  rw [hparse]
  exact lodgeCheck_passes (s := s.heard h) hl hr hnamed hsel hclaim

theorem runClaimLodge_checked : s.admitted.trunkLodgeCheck (parseLodge payload) = none := by
  rw [hparse]
  exact trunkLodgeCheck_passes (s := s.admitted) hl hnamed hsel hclaim

variable (hroom : s.claims.queue.length < 8) (hi : s.firstFree i)
include hroom hi

theorem terminalLodge_joins {h : Hdr} {e : Station} (hh : s.hears h e) (he : e.binding = .terminal) (hr : s.route.state ≠ .noRoute) :
    ∃ v, Joined s (lodgedClaim .field h.src o (s.resolveRef o.reference) s.now i) (originate h.src typTerminalReply
        (termReplyPayload typClaimLodge (claimDropByte (some o.reference)) 0 .accepted (s.claimDropState (some o.reference)))) v
      ∧ exec (.terminalClaimLodge h payload) s = .next (settleLodging v) := by
  have hlen := length_of_parseLodge hparse
  have hcheck := deliverLodge_checked hparse hl hsel hnamed hclaim hr h
  have hfree : (s.heard h).claimRoom = some i := claimRoom_free (s := s.heard h) hroom hi
  have htold := joinClaim_told i .field h.src o (s.heard h)
  rw [exec_lodge_delivered hh (by omega) he]
  simp only [hparse] at hcheck
  simp only [deliverLodge, hparse, hcheck, hfree, lodgeRef_of_parseLodge hparse, sendClaimReply]
  generalize joinClaim i .field h.src o (s.heard h) = v at htold
  have hstate : v.claimDropState (some o.reference) = s.claimDropState (some o.reference) := by
    unfold State.claimDropState State.dropState State.findDrop
    rw [htold.drops]
    rfl
  rw [hstate]
  refine ⟨_, Joined.of_told (u := s.heard h) rfl htold ((offerReply_only _ _ v).trans rfl) fun hplace => ?_, rfl⟩
  have hused : v.replyPlacesUsed .field = s.replyPlacesUsed .field := by
    simp only [State.replyPlacesUsed, htold.field]
    rfl
  obtain ⟨hjoins, hcount⟩ := offerReply_joins (p := .field) (s := v) (by rw [hused]; exact hplace) (originate h.src typTerminalReply
    (termReplyPayload typClaimLodge (claimDropByte (some o.reference)) 0 .accepted (s.claimDropState (some o.reference))))
  have hport : v.port .field = (s.heard h).port .field := htold.field
  rw [hport] at hjoins
  rw [hused] at hcount
  exact ⟨hjoins, hcount⟩

theorem trunkLodge_joins {m : CmdHdr} (ht : s.takes m) (asFrame : Bool) :
    ∃ v, Joined s (lodgedClaim .trunk m.src o (s.resolveRef o.reference) s.now i) (originate m.src typMgmtReply
        ([cmdClaimLodge, m.seq, 0, 0] ++ beBytes 2 o.tag ++ beBytes 1 s.claims.queue.length)) v
      ∧ exec (.claimLodge asFrame m payload) s = .next (settleLodging v) := by
  have hlen := length_of_parseLodge hparse
  have hcheck := runClaimLodge_checked hparse hl hsel hnamed hclaim
  have hfree : s.admitted.claimRoom = some i := claimRoom_free (s := s.admitted) hroom hi
  have htold := joinClaim_told i .trunk m.src o s.admitted
  rw [exec_claimLodge ht (by omega)]
  simp only [hparse] at hcheck
  simp only [runClaimLodge, hparse, hcheck, hfree, acceptTrunkClaim]
  generalize joinClaim i .trunk m.src o s.admitted = v at htold
  refine ⟨_, Joined.of_told (u := s.admitted) rfl htold rfl fun _ => ?_, rfl⟩
  have htrunk := htold.trunk
  have hreserved : v.ports.reserved = s.ports.reserved + 1 := by rw [htold]; rfl
  constructor
  · change v.ports.trunk.replies ++ _ = _
    rw [htrunk, List.append_assoc]
    rfl
  · change (v.ports.trunk.replies ++ [_]).length + (v.ports.reserved - 1) = s.ports.trunk.replies.length + s.ports.reserved + 1
    rw [htrunk, hreserved, List.length_append]
    exact Nat.add_right_comm _ _ _

end Accepted

/-- A lodging that passes its checks, with a place and a slot, is answered, and its claim joins the queue. -/
theorem lodges_joins {s : State} {p : Port} {src : Byte} {o : LodgeOps} {c : Instr} {reply : QFrame} {i : Fin 256}
    (h : s.lodges p src o c reply) (hnamed : s.refNamed o.reference = true) (hclaim : s.refClaimable o.reference = true)
    (hroom : s.claims.queue.length < 8) (hi : s.firstFree i) :
    ∃ v, Joined s (lodgedClaim p src o (s.resolveRef o.reference) s.now i) reply v ∧ exec c s = .next (settleLodging v) := by
  obtain ⟨payload, hparse, hl, hsel, ⟨rfl, hr, h, e, rfl, rfl, hh, he, rfl⟩ | ⟨rfl, m, asFrame, rfl, rfl, ht, rfl⟩⟩ := h
  · exact terminalLodge_joins hparse hl hsel hnamed hclaim hroom hi hh he hr
  · exact trunkLodge_joins hparse hl hsel hnamed hclaim hroom hi ht asFrame

/-! ### What becomes of the claim (R168, R170 to R175) -/

section Joined
variable {s v : State} {k : Claim} {reply : QFrame} (hv : Joined s k reply v)
include hv

theorem Joined.queue : v.claims.queue = s.claims.queue ++ [k] := by rw [hv.claims]; rfl

theorem Joined.last : v.claims.queue[v.claims.queue.length - 1]? = some k := by
  rw [hv.queue, List.length_append, List.length_singleton, Nat.add_sub_cancel]
  exact List.getElem?_concat_length

theorem Joined.slot_reserved : v.slot k.reservation = .reserved := by
  rw [State.slot, hv.store]
  exact State.setSlot_slot_self s k.reservation .reserved

theorem Joined.slot_other {l : Fin 256} (hne : l ≠ k.reservation) : v.slot l = s.slot l := by
  have hset := State.setSlot_slot s k.reservation l .reserved
  rw [if_neg hne] at hset
  rw [← hset, State.slot, hv.store]
  rfl

theorem Joined.fillList : v.store.fillList = s.store.fillList := by rw [hv.store]; rfl

/-- A claim whose record is not at hand waits, where the head waits (R168, R174). -/
theorem Joined.settle_waits (hr : k.resolved = none) (hj : k.judged = none)
    (hhead : ∀ q, s.claims.queue.head? = some q → q.judged = none) : settleLodging v = v := by
  rw [settleLodging, evaluateAt_waits hv.last hr]
  refine releaseClaims_waits fun q hq => ?_
  rw [hv.queue] at hq
  cases hs : s.claims.queue with
  | nil => rw [hs] at hq; exact Option.some.inj hq ▸ hj
  | cons p ps => rw [hs] at hq; exact hhead q (by rw [hs]; exact hq)

/-- One whose record is at hand is judged at once (R170, R171). -/
theorem Joined.evaluates {r : Nat} {j : Judgement} {rest : List Bool} (hl : s.store.lockout = false)
    (hfree : (s.slot k.reservation).isFree = true) (hr : k.resolved = some r) (hj : k.judged = none)
    (h : s.judgedAs k.selector r j s.array.script rest) :
    ∃ n u, evaluateAt (v.claims.queue.length - 1) v
      = v.claimsEvaluated (s.claims.queue ++ [{ k with judged := some j }]) rest n u := by
  have hheader : (s.slot k.reservation).header? = none := by
    cases hslot : s.slot k.reservation <;> simp_all [Slot.isFree, Slot.header?]
  have hjudged : v.judgedAs k.selector r j v.array.script rest := by
    rw [hv.array]
    refine judgedAs_congr hv.classes hv.fillList (fun l => ?_) h
    by_cases hl : l = k.reservation
    · subst hl
      exact .inr ⟨by rw [hv.slot_reserved]; rfl, hheader⟩
    · exact .inl (hv.slot_other hl)
  obtain ⟨n, u, heval⟩ := evaluateAt_judged (by rw [hv.store]; exact hl) hv.last hr hj hjudged
  refine ⟨n, u, heval.trans ?_⟩
  rw [hv.queue, List.length_append, List.length_singleton, Nat.add_sub_cancel]
  simp

end Joined

/-! ### The answers of a terminal's lodging (13.4) -/

theorem claimDropByte_drop {n : Nat} (h : n ≤ 64) : claimDropByte (some (.drop n)) = BitVec.ofNat 8 n :=
  if_pos (by omega)

/-- The reply about a SETTLING drop (R167). -/
theorem lodgePayload_settling {s : State} {n : Nat} {d : Drop} (h64 : n ≤ 64) (hd : s.findDrop n = some d) (hst : d.state = .settling) :
    termReplyPayload typClaimLodge (claimDropByte (some (.drop n))) 0 .accepted (s.claimDropState (some (.drop n)))
        = [typClaimLodge, BitVec.ofNat 8 n, 0, 0, 0xFF, dropStateCode .settling]
      ∧ termReplyPayload typClaimLodge (claimDropByte (some (.drop n))) 0 .retry (s.claimDropState (some (.drop n)))
        = [typClaimLodge, BitVec.ofNat 8 n, 0, 1, 0xFF, dropStateCode .settling] := by
  have hstate : s.claimDropState (some (.drop n)) = some .settling := by
    simp only [State.claimDropState, State.dropState, hd, Option.map_some, hst]
  rw [claimDropByte_drop h64, hstate]
  exact ⟨rfl, rfl⟩

/-! ### The lines of a verdict (R139, R173) -/

/-- What a class and a receipt make of a snapshot that no budget and no shock decide. -/
theorem verdictTest_open {x : Snapshot} {k : ProductClass} (he : x.e < k.budget * 3840)
    (hshock : k.shockSensitive = false ∨ x.severeCount = 0) (receipt : Option Int) :
    verdictTest x k receipt = receipt.elim (if k.gapTolerance * 4 ≤ x.gap ∨ 1 ≤ x.lateWarm then .indeterminate else .refuted)
      fun T => if k.receiptLimit < T then .supported else .refuted := by
  have hnot : (decide (k.budget * 3840 ≤ x.e) || (k.shockSensitive && decide (1 ≤ x.severeCount))) = false := by
    rcases hshock with hshock | hshock
    · simp [hshock, he]
    · simp [hshock, he]
  unfold verdictTest
  rw [hnot]
  cases receipt <;> simp

theorem verdictTest_supported {x : Snapshot} {k : ProductClass} (h : k.budget * 3840 ≤ x.e ∨ k.shockSensitive = true ∧ 1 ≤ x.severeCount)
    (receipt : Option Int) : verdictTest x k receipt = .supported := by
  unfold verdictTest
  exact if_pos (by simpa using h)

end Sys2Proof.Machine
end

section
open Sys2Proof Sys2Proof.Machine

/-- Settles O41: the checks in their order, the room for one more claim, the record at hand and the head of the queue decide. -/
theorem claimsAreLodged : Obligations.ClaimsAreLodged := by
  refine ⟨fun s payload o n d hparse href h1 h64 hd hst hsel hl => ?settling, fun s p src o c reply r j rest i k hlodges hhand hi hjudged hroom hk => ?atHand,
    fun i k x => ?verdicts, fun s h e payload hh hp => ?terminal, fun s m asFrame payload r hs hp hbad => ?trunk⟩
  case settling =>
    have hnamed : s.refNamed o.reference = true := by rw [href]; exact refNamed_drop h1 h64 hd
    have hclaim : s.refClaimable o.reference = true := by rw [href, refClaimable_drop hd, claimable, hst]
    have hunresolved : s.resolveRef o.reference = none := by simp only [href, State.resolveRef, hd, hst]
    have hlen := length_of_parseLodge hparse
    obtain ⟨haccepted, hretry⟩ := lodgePayload_settling h64 hd hst
    rw [← href] at haccepted hretry
    refine ⟨fun h e hh he hr => ⟨fun i hi hroom hhead => ?_, fun hfull => ?_⟩, fun m asFrame ht => ⟨fun i hi hroom hhead => ?_, fun hfull => ?_⟩⟩
    · obtain ⟨v, hv, hexec⟩ := terminalLodge_joins hparse hl hsel hnamed hclaim hroom hi hh he hr
      rw [hv.settle_waits hunresolved rfl hhead] at hexec
      refine ⟨v, hexec, ?_, hv.slot_reserved, fun l hne => hv.slot_other hne, fun hplace => ?_, hv.drops, hv.contexts, hv.comps, hv.route⟩
      · rw [hv.claims, ← href, ← hunresolved]
        rfl
      · rw [← haccepted]
        exact (hv.replies hplace).1
    · have hcheck := deliverLodge_checked hparse hl hsel hnamed hclaim hr h
      have hnone : (s.heard h).claimRoom = none := claimRoom_none (s := s.heard h) hfull
      rw [hparse] at hcheck
      rw [exec_lodge_delivered hh (by omega) he]
      simp only [deliverLodge, hparse, hcheck, hnone, lodgeRef_of_parseLodge hparse, ← hretry]
      rfl
    · obtain ⟨v, hv, hexec⟩ := trunkLodge_joins hparse hl hsel hnamed hclaim hroom hi ht asFrame
      rw [hv.settle_waits hunresolved rfl hhead] at hexec
      refine ⟨v, hexec, ?_, hv.slot_reserved, fun l hne => hv.slot_other hne, ?_, hv.drops, hv.contexts, hv.comps, hv.route⟩
      · rw [hv.claims, ← href, ← hunresolved]
        rfl
      · obtain ⟨-, -, hplace⟩ := ht
        exact (hv.replies hplace).1
    · have hcheck := runClaimLodge_checked hparse hl hsel hnamed hclaim
      have hnone : s.admitted.claimRoom = none := claimRoom_none (s := s.admitted) hfull
      rw [hparse] at hcheck
      rw [exec_claimLodge ht (by omega)]
      simp only [runClaimLodge, hparse, hcheck, hnone]
      rfl
  case atHand =>
    obtain ⟨hnamed, hclaim, hresolved⟩ := atHand_passes hhand
    obtain ⟨v, hv, hexec⟩ := lodges_joins hlodges hnamed hclaim hroom hi
    obtain ⟨payload, -, hl, -⟩ := hlodges
    rw [hresolved] at hv
    obtain ⟨m, u, heval⟩ := hv.evaluates hl hi.1 rfl rfl hjudged
    have hkeval : { lodgedClaim p src o (some r) s.now i with judged := some j } = k := hk.symm
    rw [hkeval] at heval
    rw [settleLodging, heval] at hexec
    have hport : k.port = p := by rw [hk]
    have hreservation : k.reservation = i := by rw [hk]
    refine ⟨fun q qs hq hwaits => ?_, fun reads hq hrest => ?_⟩
    · rw [releaseClaims_waits (s := v.claimsEvaluated (s.claims.queue ++ [k]) rest m u) (fun q' hq' => by
        rw [State.claimsEvaluated, hq] at hq'
        exact Option.some.inj hq' ▸ hwaits)] at hexec
      exact ⟨_, hexec, rfl, hv.slot_reserved, fun l hne => hv.slot_other hne, hv.fillList, fun hplace => (hv.replies hplace).1⟩
    · have hrel := releaseClaim_sound (s := v.claimsEvaluated (s.claims.queue ++ [k]) rest m u) (j := j) (reads := reads)
        (by change v.store.lockout = false; rw [hv.store]; exact hl) hrest k
      have hrun : releaseClaims (v.claimsEvaluated (s.claims.queue ++ [k]) rest m u)
          = releaseClaim k j (v.claimsEvaluated (s.claims.queue ++ [k]) rest m u) := by
        have hjudge : k.judged = some j := by rw [hk]
        simp only [releaseClaims, State.claimsEvaluated, hq, List.nil_append, List.length_singleton, releaseLoop, hjudge]
      rw [hrun] at hexec
      have hnumber : (v.claimsEvaluated (s.claims.queue ++ [k]) rest m u).store.nextNumber = s.store.nextNumber := by
        change v.store.nextNumber = _
        rw [hv.store]
        rfl
      have hwritten : ∀ l, (releaseClaim k j (v.claimsEvaluated (s.claims.queue ++ [k]) rest m u)).slot l
          = (writeRecord k.reservation (claimVerdictBody k j) (v.claimsEvaluated (s.claims.queue ++ [k]) rest m u)).slot l := fun l => by
        rw [State.slot, hrel.store]
        rfl
      refine ⟨_, (v.claimsEvaluated (s.claims.queue ++ [k]) rest m u).fillHeader (claimVerdictBody k j), hexec, ?_, ?_, ?_, ?_, hnumber, fun l hne => ?_, ?_, fun hplaces => ?_⟩
      · rw [hrel.queue, State.claimsEvaluated, hq]
        rfl
      · rw [hrel.released]
        change satInc max32 v.claims.counts.released = _
        rw [hv.claims]
        rfl
      · rw [hrel.supported]
        change supportedAfter j.entries v.claims.counts.supported = _
        rw [hv.claims]
        rfl
      · rw [hwritten, ← hreservation, writeRecord_slot, claimVerdictBody, hk]
      · rw [hwritten, writeRecord_other (by rw [hreservation]; exact hne)]
        exact hv.slot_other hne
      · rw [hrel.store, ← hreservation]
        change v.store.fillList ++ [k.reservation] = _
        rw [hv.fillList]
      · obtain ⟨hreply, hused⟩ := hv.replies (by change s.replyPlacesUsed p < 4; omega)
        have hanswers := hrel.replies (by
          rw [hnumber, hport]
          change v.replyPlacesUsed p + _ ≤ 4
          exact (show v.replyPlacesUsed p = s.replyPlacesUsed p + 1 from hused) ▸ hplaces)
        rw [hnumber, hport] at hanswers
        rw [hanswers]
        exact congrArg (· ++ claimAnswers k j s.store.nextNumber) hreply
  case verdicts =>
    refine ⟨fun h0 => ⟨if_pos h0, if_pos h0⟩, fun hpos => if_neg (by omega), fun hpos hover => ?_, fun hpos he hshock => ⟨fun T hT => ?_, fun hT => ?_⟩⟩
    · exact (if_neg (by omega)).trans (verdictTest_supported hover _)
    · refine (if_neg (by omega)).trans ((verdictTest_open he hshock _).trans ?_)
      rw [hT]
      rfl
    · refine (if_neg (by omega)).trans ((verdictTest_open he hshock _).trans ?_)
      rw [hT]
      rfl
  case terminal =>
    refine ⟨fun he => exec_lodge_notTerminal hh hp he, fun he => ⟨fun hl => exec_lodge_refused hh hp he (lodgeCheck_lockout hl _),
      fun hl hnone => exec_lodge_refused hh hp he (by rw [hnone]; exact lodgeCheck_malformed hl), fun o hl ho => ?_⟩⟩
    have refused : ∀ {w : TermReason}, s.lodgeCheck (some o) = some w →
        exec (.terminalClaimLodge h payload) s = .next (s.refusesLodging h payload w) := fun hw =>
      exec_lodge_refused hh hp he (by rw [ho]; exact hw)
    refine ⟨fun hr => refused (lodgeCheck_noRoute hl hr), fun hr => ⟨fun hno => refused (lodgeCheck_noDrop hl hr (refNamed_eq_false hno)),
      fun h0 hdrop => ?_⟩⟩
    have hnamed := refNamed_eq_true h0 hdrop
    refine ⟨fun ⟨n, hsel, hn⟩ => refused (lodgeCheck_badItem hl hr hnamed ?_), fun hsel ⟨n, d, href, hd, h1, h2⟩ =>
      refused (lodgeCheck_state hl hr hnamed ?_ ?_)⟩
    · rw [hsel]
      exact decide_eq_false (by omega)
    · cases hs : o.selector with
      | none => rfl
      | some n => exact decide_eq_true (hsel n hs)
    · rw [href, refClaimable_drop hd, claimable_eq_false h1 h2]
  case trunk =>
    obtain ⟨ht, hl⟩ := hs
    have hlock : s.admitted.lockedOut = false := hl
    refine exec_claimLodge_refused asFrame ht hp ?_
    rcases hbad with ⟨hnone, rfl⟩ | ⟨o, ho, ⟨hrange, rfl⟩ | ⟨hrange, n, href, ⟨hd, rfl⟩ | ⟨d, hd, h1, h2, rfl⟩⟩⟩
    · simp [State.trunkLodgeCheck, hlock, hnone]
    · simp [State.trunkLodgeCheck, hlock, ho, hrange]
    · have hd' : s.admitted.findDrop n = none := hd
      simp [State.trunkLodgeCheck, hlock, ho, hrange, href, State.refHeld, hd']
    · have hd' : s.admitted.findDrop n = some d := hd
      simp [State.trunkLodgeCheck, hlock, ho, hrange, href, State.refHeld, hd', refClaimable_drop hd', claimable_eq_false h1 h2]

end

section
/-! SUPPORT. The end of a stop of one compartment: the compartment brought to it and resolved, the outcome's record filled, and the claims that wait on it judged and released (R54, R68, R75, R137 to R141, R149, R170 to R175). -/
namespace Sys2Proof.Machine

/-! ### One compartment and the context list -/

/-- What is done at c, its own contexts named. -/
theorem AtComp.own {c : Fin 4} {s t : State} {l : List Context} (h : AtComp c { s with contexts := l } t) :
    AtComp c { s with contexts := t.contexts } t := by
  have hl : t.contexts = l := h.accounted.contexts
  subst hl
  exact h

theorem AtComp.continued {c : Fin 4} {s t u : State} (h : AtComp c { s with contexts := t.contexts } t)
    (k : AtComp c { t with contexts := u.contexts } u) : AtComp c { s with contexts := u.contexts } u :=
  (h.withContexts u.contexts).trans k

/-! ### A stop of one compartment -/

/-- Context x is of drop n, ends at T with outcome o, and has compartment c alone, unresolved. -/
def OneStop (c : Fin 4) (n T : Nat) (o : Option StopOutcome) (x : Context) : Prop :=
  x.drop = n ∧ x.endTime = some T ∧ x.outcome = o ∧ ∃ k, x.comps = [k] ∧ k.comp = c ∧ k.resolved = false

/-- s has such a context alone in its list. -/
def State.OneStopLeft (s : State) (c : Fin 4) (n T : Nat) (o : Option StopOutcome) : Prop :=
  ∃ x, s.contexts = [x] ∧ OneStop c n T o x

section Stop
variable {c : Fin 4} {n T : Nat} {o : Option StopOutcome}

theorem OneStop.updComp {x : Context} (h : OneStop c n T o x) {f : CtxComp → CtxComp} (hcomp : ∀ k, (f k).comp = k.comp)
    (hresolved : ∀ k, (f k).resolved = k.resolved) : OneStop c n T o (ctxUpdComp x c f) := by
  obtain ⟨hdrop, hend, hout, k, hk, hc, hr⟩ := h
  refine ⟨hdrop, hend, hout, f k, ?_, (hcomp k).trans hc, (hresolved k).trans hr⟩
  simp [ctxUpdComp, hk, hc]

/-- A piece leaves such a context as such. -/
theorem pieceContexts_oneStop {s : State} (h : s.OneStopLeft c n T o) (p : Nat) :
    ∃ x, s.pieceContexts c p = [x] ∧ OneStop c n T o x := by
  obtain ⟨x, hctx, hx⟩ := h
  unfold State.pieceContexts State.grownContexts
  dsimp only
  split
  · cases s.coveringContext c (s.comp c).window.committed with
    | none => exact ⟨x, hctx, hx⟩
    | some y =>
      rw [Option.elim_some, hctx, List.map_cons, List.map_nil]
      refine ⟨_, rfl, ?_⟩
      split
      · exact hx.updComp (fun _ => rfl) fun _ => rfl
      · exact hx
  · exact ⟨x, hctx, hx⟩

/-- Charging to the end of the stop comes to a last piece that ends there (R68). -/
theorem chargeThrough_lastPiece (ps : List Nat) {s : State} (hl : s.store.lockout = false) (hstop : s.OneStopLeft c n T o)
    (hrises : ps.Pairwise (· < ·)) (hle : ∀ p ∈ ps, p ≤ T) (hT : T ∈ ps) :
    ∃ u, AtComp c { s with contexts := u.contexts } u ∧ u.OneStopLeft c n T o
      ∧ chargeThrough c ps s = evalTg c T (resolveAt c T (chargePiece c T u)) := by
  induction ps generalizing s with
  | nil => exact absurd hT (by simp)
  | cons p ps ih =>
    obtain ⟨hhead, htail⟩ := List.pairwise_cons.1 hrises
    rcases Nat.lt_or_ge p T with hlt | hge
    · have hnot : ∀ x ∈ s.contexts, x.endTime ≠ some p := fun x hx => by
        obtain ⟨y, hctx, -, hend, -⟩ := hstop
        rw [hctx, List.mem_singleton] at hx
        subst hx
        rw [hend]
        intro heq
        have := Option.some.inj heq
        omega
      obtain ⟨v, hcharge, hat, -⟩ := chargeThrough_piece (c := c) hl hnot ps
      obtain ⟨x, hpiece, hx⟩ := pieceContexts_oneStop hstop p
      have hleft : v.OneStopLeft c n T o := ⟨x, hat.accounted.contexts.trans hpiece, hx⟩
      obtain ⟨u, hu, huleft, hrun⟩ := ih (by rw [hat.accounted.store]; exact hl) hleft htail
        (fun q hq => hle q (List.mem_cons_of_mem _ hq)) ((List.mem_cons.1 hT).resolve_left (by omega))
      exact ⟨u, (hat.withContexts u.contexts).trans hu, huleft, hcharge.trans hrun⟩
    · have hpT : p = T := Nat.le_antisymm (hle p List.mem_cons_self) hge
      have hnil : ps = [] := List.eq_nil_iff_forall_not_mem.2 fun q hq => by
        have h1 := hhead q hq
        have h2 := hle q (List.mem_cons_of_mem _ hq)
        omega
      subst hnil hpT
      refine ⟨s, .refl c s, hstop, ?_⟩
      rw [chargeThrough, if_neg (by simp [State.lockedOut, hl])]
      rfl

/-! ### The compartment resolved (R75, R137, R138) -/

/-- P moves, and nothing of it stays. -/
theorem moveProvisional_at (c : Fin 4) (o : Option StopOutcome) (s : State) :
    AtComp c s (moveProvisional c o s) ∧ ((moveProvisional c o s).comp c).window = (s.comp c).window
      ∧ ((moveProvisional c o s).comp c).account.p = 0 := by
  obtain ⟨hbreach, hbreached⟩ := addBreach_at c (s.comp c).account.p s
  have hupd : ∀ u : State, ((u.updAccount c fun a => { a with p := 0 }).comp c)
      = { u.comp c with account := { (u.comp c).account with p := 0 } } := fun u =>
    State.updComp_comp_self u c fun k => { k with account := { k.account with p := 0 } }
  have hmoved : AtComp c s (if movesToBreach o = true then addBreach c (s.comp c).account.p s
        else s.updAccount c fun a => addToH a (s.comp c).account.p)
      ∧ ((if movesToBreach o = true then addBreach c (s.comp c).account.p s
        else s.updAccount c fun a => addToH a (s.comp c).account.p).comp c).window = (s.comp c).window := by
    split
    · exact ⟨hbreach, by rw [hbreached]⟩
    · refine ⟨updComp_at c _ s, ?_⟩
      rw [State.updAccount, State.updComp_comp_self]
  obtain ⟨hat, hwindow⟩ := hmoved
  unfold moveProvisional
  dsimp only
  rw [hupd]
  exact ⟨hat.trans (updComp_at c _ _), hwindow, rfl⟩

theorem resolveAt_oneStop {s : State} (hl : s.store.lockout = false) (h : s.OneStopLeft c n T o) :
    resolveAt c T s = resolveComp c n s := by
  obtain ⟨x, hctx, hdrop, hend, -, k, hk, hc, hr⟩ := h
  have hends : endsAt c T x = true := by simp [endsAt, hend, ctxComp, hk, hc, hr]
  rw [resolveAt, hctx, List.filter_cons_of_pos hends, List.filter_nil, List.map_cons, List.map_nil, List.foldl_cons, List.foldl_nil,
    if_neg (by simp [State.lockedOut, hl]), hdrop]

/-- The last compartment of a stop is resolved, and settlement completes (R137, R140). -/
theorem resolveComp_last {s : State} (h : s.OneStopLeft c n T o) :
    ∃ v y, AtComp c { s with contexts := [y] } v ∧ (v.comp c).window = (s.comp c).window ∧ (v.comp c).account.p = 0
      ∧ y.drop = n ∧ y.endTime = some T ∧ y.outcome = o ∧ resolveComp c n s = completeSettlement y v := by
  obtain ⟨x, hctx, hdrop, hend, hout, k, hk, hc, -⟩ := h
  obtain ⟨hat, hwindow, hp⟩ := moveProvisional_at c x.outcome s
  generalize hv : moveProvisional c x.outcome s = v at hat hwindow hp
  have hfind : s.findContext n = some x := by simp [State.findContext, hctx, hdrop]
  have hcomp : ctxComp x c = some k := by simp [ctxComp, hk, hc]
  generalize hsnap : takeSnapshot (v.comp c) k (s.comp c).account.p (movesToBreach x.outcome) = snap
  have hupd : v.updContext n (fun x => ctxUpdComp x c fun k => { k with resolved := true, snapshot := some snap })
      = { v with contexts := [{ x with comps := [{ k with resolved := true, snapshot := some snap }] }] } := by
    simp [State.updContext, hat.accounted.contexts, hctx, hdrop, ctxUpdComp, hk, hc]
  refine ⟨_, { x with comps := [{ k with resolved := true, snapshot := some snap }] }, hat.withContexts _, hwindow, hp, hdrop, hend, hout, ?_⟩
  have hfind' : State.findContext { v with contexts := [{ x with comps := [{ k with resolved := true, snapshot := some snap }] }] } n
      = some { x with comps := [{ k with resolved := true, snapshot := some snap }] } := by
    simp [State.findContext, hdrop]
  unfold resolveComp
  simp only [hfind, hcomp, hv, hsnap, hupd, hfind', List.all_cons, List.all_nil, Bool.and_self, if_true]

end Stop

/-! ### Settlement completes (R140, R141) -/

/-- The drop of a number changed is the one it was, changed. -/
theorem updDrop_findDrop {f : Drop → Drop} (hf : ∀ d, (f d).number = d.number) (n : Nat) (s : State) :
    (s.updDrop n f).findDrop n = (s.findDrop n).map f := by
  have hnumber : ((fun d => decide (d.number = n)) ∘ fun d : Drop => if d.number = n then f d else d)
      = fun d => decide (d.number = n) := funext fun d => by
    simp only [Function.comp]
    split
    · rw [hf]
    · rfl
  unfold State.findDrop State.updDrop
  dsimp only
  rw [List.find?_map, hnumber]
  cases hfind : s.drops.find? fun d => decide (d.number = n) with
  | none => rfl
  | some d =>
    have hd : d.number = n := by simpa using List.find?_some hfind
    simp [hd]

/-- u is s with the stop of drop n settled at T, its record b filled into slot i, and the claims not yet told; reads are those of the array that follow. -/
structure StopSettled (n T : Nat) (o : Option StopOutcome) (i : Fin 256) (reads : List Bool) (b : DropOutcomeBody) (s u : State) : Prop where
  contexts : u.contexts = []
  drop : ∃ d, u.findDrop n = some d ∧ d.state = .final (o.getD .abandoned) ∧ d.record = some s.store.nextNumber ∧ d.reservation = none
  number : b.number = n
  outcome : b.outcome = o.getD .abandoned
  endTime : b.endTime = T
  store : u.store = (writeRecord i (.dropOutcome b) s).store
  script : u.array.script = reads
  claims : u.claims = s.claims
  comps : u.comps = s.comps
  route : u.route = s.route
  stations : u.stations = s.stations
  classes : u.classes = s.classes
  clock : u.clock = s.clock
  config : u.config = s.config

/-- A drop as its outcome's record makes it (R140). -/
def recordedDrop (o : Option StopOutcome) (number : Nat) (d : Drop) : Drop :=
  { d with state := .final (o.getD .abandoned), record := some number, reservation := none }

/-- Settlement whose record reads back soundly. -/
theorem completeSettlement_sound {s : State} {y : Context} {n T : Nat} {o : Option StopOutcome} {d : Drop} {i : Fin 256}
    {reads : List Bool} (hl : s.store.lockout = false) (hctx : s.contexts = [y]) (hdrop : y.drop = n) (hend : y.endTime = some T)
    (hout : y.outcome = o) (hd : s.findDrop n = some d) (hi : d.reservation = some i) (hread : s.array.script = false :: reads) :
    ∃ u b, StopSettled n T o i reads b s u ∧ completeSettlement y s = tellClaims n s.store.nextNumber u := by
  subst hdrop hout
  have hnumber : d.number = y.drop := State.findDrop_number hd
  obtain ⟨d', hd', hnumber', hi'⟩ : ∃ d', (s.judged y).findDrop y.drop = some d' ∧ d'.number = y.drop ∧ d'.reservation = some i := by
    have hfind := updDrop_findDrop (f := fun d => { d with items := d.items.map (autoVerdict s.classes y) }) (fun _ => rfl) y.drop s
    rw [hd] at hfind
    exact ⟨_, hfind, hnumber, hi⟩
  have hrun := completeSettlement_some hd'
  obtain ⟨b, hb⟩ : ∃ b, b = dropOutcomeBody d' y := ⟨_, rfl⟩
  have hfill : fillOutcome d' y (s.judged y)
      = { writeRecord i (.dropOutcome b) (s.judged y) with array := { script := reads, count := s.array.count + 1 } } := by
    simp only [fillOutcome, hi', ← hb]
    exact fillReserved_sound (s := s.judged y) hl hread i _
  have hopen : State.lockedOut { writeRecord i (.dropOutcome b) (s.judged y) with array := { script := reads, count := s.array.count + 1 } }
      = false := hl
  rw [hfill, countCompletion, if_neg (by rw [hopen]; exact Bool.false_ne_true)] at hrun
  refine ⟨_, b, ?_, hrun⟩
  refine ⟨?_, ?_, ?_, ?_, ?_, rfl, rfl, rfl, rfl, rfl, rfl, rfl, rfl, rfl⟩
  · change s.contexts.filter (fun z => z.drop != y.drop) = []
    simp [hctx]
  · have hfind := updDrop_findDrop (f := recordedDrop y.outcome s.store.nextNumber) (fun _ => rfl) y.drop (s.judged y)
    rw [hd'] at hfind
    exact ⟨_, hfind, rfl, rfl, rfl⟩
  · rw [hb]; exact hnumber'
  · rw [hb]; rfl
  · rw [hb]
    change y.endTime.getD 0 = T
    rw [hend]
    rfl

/-! ### The end of the stop (R54, R137) -/

theorem exec_stopEndAdvance {s t : State} {n : Nat} (hw : s.working = true) (h : advanceStopEnd n s = t) :
    exec (.stopEndAdvance n) s = .next t := next_ends hw (advanceStopEnd_carries _ n s).ends h

/-- The unresolved compartments of a context. -/
def unresolved (x : Context) : List (Fin 4) := (x.comps.filter fun k => !k.resolved).map (·.comp)

/-- On an OPEN route the compartments of a stop whose end the horizon has reached are brought there in order. -/
theorem advanceStopEnd_reached {s : State} {n T : Nat} {x : Context} (hroute : s.route.state = .opened)
    (hx : s.findContext n = some x) (hT : x.endTime = some T) (hreach : T + s.config.settleDelay ≤ s.now) :
    advanceStopEnd n s = (unresolved x).foldl (fun s c => advanceTo c T s) s := by
  have hreached : s.horizonReached T = true := decide_eq_true hreach
  have hframe := foldl_window (fun s c => advanceTo_frame c T s) (unresolved x) s
  simp only [advanceStopEnd, hx, hT, hreached, if_true]
  exact endRouteIfComplete_opened (by rw [← hroute]; exact congrArg Route.state hframe.route)

/-- Every working window of the list stands at T at least, unless LOCKOUT cuts this off. -/
theorem foldl_advanceTo_least {T : Nat} (l : List (Fin 4)) {s : State} (hon : s.onRoute = true)
    (hl : (l.foldl (fun s c => advanceTo c T s) s).store.lockout = false) :
    ∀ c ∈ l, (s.comp c).window.armed = true → T ≤ ((l.foldl (fun s c => advanceTo c T s) s).comp c).window.committed := by
  induction l generalizing s with
  | nil => exact nofun
  | cons c l ih =>
    intro k hk harmed
    rw [List.foldl_cons] at hl ⊢
    have hframe := advanceTo_frame c T s
    have hrest := foldl_window (fun s c => advanceTo_frame c T s) l (advanceTo c T s)
    rcases List.mem_cons.1 hk with rfl | hk
    · have hopen : (advanceTo k T s).store.lockout = false := by
        cases h : (advanceTo k T s).store.lockout
        · rfl
        · rw [hrest.lockout h] at hl; exact absurd hl (by simp)
      exact Nat.le_trans (advanceTo_reaches harmed hon hopen) (hrest.comps k).committed
    · exact ih (by rw [State.onRoute, hframe.route]; exact hon) hl k hk (by rw [(hframe.comps k).armed]; exact harmed)

/-- A window with no event pending is charged to T. -/
theorem advanceTo_empty {s : State} {c : Fin 4} {T : Nat} (hl : s.store.lockout = false) (hon : s.onRoute = true)
    (harmed : (s.comp c).window.armed = true) (hnone : (s.comp c).window.events = []) (hlt : (s.comp c).window.committed < T) :
    advanceTo c T s = chargeTo c T s := by
  have hworks : windowWorks (s.windowMode c) = true := (windowWorks_iff s c).2 ⟨hl, harmed, hon⟩
  have hretire : retireAll c (fun t => t < T) s = s := by rw [retireAll, hnone]; rfl
  have hopen : ¬ s.lockedOut = true := by simp [State.lockedOut, hl]
  unfold advanceTo
  rw [hretire]
  simp only [hworks, hlt, decide_true, Bool.and_self, if_true]
  exact if_neg hopen

/-- t is s with the stop of drop n, of compartment c alone, settled: what StopSettled says, and the compartment stands at T with nothing provisional. -/
structure StopEnded (c : Fin 4) (n T : Nat) (o : Option StopOutcome) (i : Fin 256) (reads : List Bool) (b : DropOutcomeBody)
    (s u : State) : Prop where
  settled : ∃ v, StopSettled n T o i reads b v u ∧ AtComp c { s with contexts := v.contexts } v
  committed : (u.comp c).window.committed = T
  charged : (u.comp c).account.p = 0

/-- Charging to the end of a stop of one compartment settles the stop. -/
theorem chargeTo_ends {s : State} {c : Fin 4} {n T : Nat} {o : Option StopOutcome} {d : Drop} {i : Fin 256} {reads : List Bool}
    (hl : s.store.lockout = false) (hstop : s.OneStopLeft c n T o) (hlt : (s.comp c).window.committed < T)
    (hd : s.findDrop n = some d) (hi : d.reservation = some i) (hread : s.array.script = false :: reads) :
    ∃ u b, StopEnded c n T o i reads b s u ∧ chargeTo c T s = evalTg c T (tellClaims n s.store.nextNumber u) := by
  obtain ⟨hrises, hwithin⟩ := pieceEnds_rises (s.splitPoints c) (s.comp c).window.committed T
  obtain ⟨p, hp, hpleft, hrun⟩ := chargeThrough_lastPiece _ hl hstop hrises (fun q hq => (hwithin q hq).2) (pieceEnds_last _ hlt)
  obtain ⟨hpiece, hcharged⟩ := chargePiece_at c T p
  obtain ⟨x, hctx, hx⟩ := pieceContexts_oneStop hpleft T
  have hqleft : (chargePiece c T p).OneStopLeft c n T o := ⟨x, hpiece.accounted.contexts.trans hctx, hx⟩
  have hpq := hp.continued hpiece.own
  obtain ⟨v, y, hv, hwindow, hprov, hdrop, hend, hout, hresolve⟩ := resolveComp_last hqleft
  have hsv := hpq.continued hv.own
  have hstore : v.store = s.store := hsv.accounted.store
  have hfind : v.findDrop n = some d := by rw [State.findDrop, hsv.accounted.drops]; exact hd
  obtain ⟨u, b, hsettled, hcomplete⟩ := completeSettlement_sound (by rw [hstore]; exact hl) hv.accounted.contexts hdrop hend hout hfind hi
    (by rw [hsv.accounted.array]; exact hread)
  have hcomp : u.comp c = v.comp c := by rw [State.comp, hsettled.comps]; rfl
  refine ⟨u, b, ⟨⟨v, hsettled, hsv⟩, ?_, ?_⟩, ?_⟩
  · rw [hcomp, hwindow, hcharged]
    rfl
  · rw [hcomp, hprov]
  · rw [chargeTo, hrun, resolveAt_oneStop (by rw [hpq.accounted.store]; exact hl) hqleft, hresolve, hcomplete, hstore]

end Sys2Proof.Machine
end

section
/-! SUPPORT. The claims that wait on a drop whose record has been filled: judged from that record in the order of their lodging, and released in it (R170 to R175). -/
namespace Sys2Proof.Machine

/-! ### All claims judged -/

/-- A claim judged from a DROP_OUTCOME record (R172). -/
def judgedFrom (classes : Vector (Option ProductClass) 16) (b : DropOutcomeBody) (k : Claim) : Claim :=
  { k with judged := some { drop := b.number, entries := judgeItems classes k.selector b } }

/-- Claims that wait on one sound record are judged from it one after the other. -/
theorem evaluateEach_judged {r : Nat} {i : Fin 256} {h : RecordHeader} {b : DropOutcomeBody} {rest : List Bool} (waiting : List Claim)
    {before : List Claim} {s : State} (hl : s.store.lockout = false) (hq : s.claims.queue = before ++ waiting)
    (hwaiting : ∀ k ∈ waiting, k.resolved = some r ∧ k.judged = none) (hfind : s.findRecord r = some i)
    (hslot : s.slot i = .filled h (.dropOutcome b)) (hread : s.array.script = List.replicate waiting.length false ++ rest) :
    ∃ n u, (List.range' before.length waiting.length).foldl (fun s i => evaluateAt i s) s
      = s.claimsEvaluated (before ++ waiting.map (judgedFrom s.classes b)) rest n u := by
  induction waiting generalizing before s with
  | nil =>
    refine ⟨s.array.count, s.claims.counts.unknownRecord, ?_⟩
    have hrest : rest = s.array.script := hread.symm
    have hbefore : before ++ [] = s.claims.queue := hq.symm
    rw [List.length_nil, List.range'_zero, List.foldl_nil, List.map_nil, hbefore, hrest]
    rfl
  | cons k ks ih =>
    obtain ⟨hresolved, hjudged⟩ := hwaiting k List.mem_cons_self
    have hk : s.claims.queue[before.length]? = some k := by rw [hq]; simp
    have hread' : s.array.script = false :: (List.replicate ks.length false ++ rest) := hread
    obtain ⟨n, u, hone⟩ := evaluateAt_judged hl hk hresolved hjudged (.inl ⟨i, h, b, hfind, .inl hslot, rfl, hread'⟩)
    have hset : s.claims.queue.set before.length (judgedFrom s.classes b k) = before ++ [judgedFrom s.classes b k] ++ ks := by
      rw [hq]; simp
    have hone' : evaluateAt before.length s
        = s.claimsEvaluated (before ++ [judgedFrom s.classes b k] ++ ks) (List.replicate ks.length false ++ rest) n u := by
      rw [← hset]
      exact hone
    obtain ⟨n', u', hrest⟩ := ih (before := before ++ [judgedFrom s.classes b k])
      (s := s.claimsEvaluated (before ++ [judgedFrom s.classes b k] ++ ks) (List.replicate ks.length false ++ rest) n u)
      hl rfl (fun q hmem => hwaiting q (List.mem_cons_of_mem _ hmem)) hfind hslot rfl
    refine ⟨n', u', ?_⟩
    rw [List.length_append, List.length_singleton] at hrest
    rw [List.length_cons, List.range'_succ, List.foldl_cons, hone', hrest, List.map_cons]
    simp only [List.append_assoc, List.singleton_append]
    rfl

/-! ### All claims released -/

/-- The verdict record of claim k is filled into its reservation. -/
def State.verdictFilled (t : State) (k : Claim) (j : Judgement) : Prop :=
  ∃ h, t.slot k.reservation = .filled h (claimVerdictBody k j)

/-- Claims all judged are released one after the other, each into its own reservation (R174, R175). -/
theorem releaseLoop_sound (verdict : Claim → Judgement) {rest : List Bool} (queue : List Claim) {s : State}
    (hl : s.store.lockout = false) (hq : s.claims.queue = queue) (hjudged : ∀ k ∈ queue, k.judged = some (verdict k))
    (hread : s.array.script = List.replicate queue.length false ++ rest) (hapart : (queue.map (·.reservation)).Nodup) :
    (releaseLoop queue.length s).claims.queue = []
      ∧ (releaseLoop queue.length s).store.fillList = s.store.fillList ++ queue.map (·.reservation)
      ∧ (∀ k ∈ queue, (releaseLoop queue.length s).verdictFilled k (verdict k))
      ∧ ∀ l, l ∉ queue.map (·.reservation) → (releaseLoop queue.length s).slot l = s.slot l := by
  induction queue generalizing s with
  | nil => exact ⟨hq, (List.append_nil _).symm, nofun, fun _ _ => rfl⟩
  | cons k ks ih =>
    obtain ⟨hhead, htail⟩ := List.nodup_cons.1 (List.map_cons ▸ hapart)
    have hk := hjudged k List.mem_cons_self
    have hrel := releaseClaim_sound (j := verdict k) (reads := List.replicate ks.length false ++ rest) hl hread k
    have hslots : ∀ l, (releaseClaim k (verdict k) s).slot l = (writeRecord k.reservation (claimVerdictBody k (verdict k)) s).slot l :=
      fun l => by rw [State.slot, hrel.store]; rfl
    have hstep : releaseLoop (k :: ks).length s = releaseLoop ks.length (releaseClaim k (verdict k) s) := by
      simp only [List.length_cons, releaseLoop, hq, hk]
    obtain ⟨hqueue, hlist, hfilled, hothers⟩ := ih (s := releaseClaim k (verdict k) s) (by rw [hrel.store]; exact hl)
      (by rw [hrel.queue, hq]; rfl) (fun q hmem => hjudged q (List.mem_cons_of_mem _ hmem)) hrel.script htail
    rw [hstep]
    refine ⟨hqueue, ?_, fun q hmem => ?_, fun l hnot => ?_⟩
    · rw [hlist, hrel.store, List.map_cons]
      change s.store.fillList ++ [k.reservation] ++ _ = _
      rw [List.append_assoc, List.singleton_append]
    · rcases List.mem_cons.1 hmem with rfl | hmem
      · refine ⟨s.fillHeader (claimVerdictBody q (verdict q)), ?_⟩
        rw [hothers _ hhead, hslots, writeRecord_slot]
      · exact hfilled q hmem
    · obtain ⟨hne, hnot⟩ := not_or.1 (mt List.mem_cons.2 (List.map_cons ▸ hnot))
      rw [hothers l hnot, hslots, writeRecord_other hne]

/-! ### The Claim Unit told of a settlement (R170) -/

/-- A queue that holds no claim is told nothing. -/
theorem tellClaims_none {s : State} (h : s.claims.queue = []) (d n : Nat) : tellClaims d n s = s := by
  have htold : s.claimsTold d n = s := by
    unfold State.claimsTold
    rw [h, List.map_nil, ← h]
  have hrun : tellClaims d n s
      = releaseClaims ((List.range (s.claimsTold d n).claims.queue.length).foldl (fun s i => evaluateAt i s) (s.claimsTold d n)) := rfl
  rw [hrun, htold, h, List.length_nil, List.range_zero, List.foldl_nil]
  exact releaseClaims_waits fun k hk => absurd hk (by rw [h]; simp)

/-- A claim told the record of the drop it waits on. -/
def resolvedTo (n : Nat) (k : Claim) : Claim := { k with resolved := some n }

/-- Claims that all wait on a drop are judged from its sound record and released in order. -/
theorem tellClaims_sound {s : State} {d n : Nat} {i : Fin 256} {h : RecordHeader} {b : DropOutcomeBody} {rest : List Bool}
    (hl : s.store.lockout = false) (hwaits : ∀ k ∈ s.claims.queue, waitsOn d k = true) (hfind : s.findRecord n = some i)
    (hslot : s.slot i = .filled h (.dropOutcome b))
    (hread : s.array.script = List.replicate (2 * s.claims.queue.length) false ++ rest)
    (hapart : (s.claims.queue.map (·.reservation)).Nodup) :
    (tellClaims d n s).claims.queue = []
      ∧ (tellClaims d n s).store.fillList = s.store.fillList ++ s.claims.queue.map (·.reservation)
      ∧ (∀ k ∈ s.claims.queue, (tellClaims d n s).verdictFilled (judgedFrom s.classes b (resolvedTo n k))
          { drop := b.number, entries := judgeItems s.classes k.selector b })
      ∧ ∀ l, l ∉ s.claims.queue.map (·.reservation) → (tellClaims d n s).slot l = s.slot l := by
  have htold : (s.claimsTold d n).claims.queue = s.claims.queue.map (resolvedTo n) :=
    List.map_congr_left fun k hk => if_pos (hwaits k hk)
  have hsplit : s.array.script = List.replicate s.claims.queue.length false ++ (List.replicate s.claims.queue.length false ++ rest) := by
    rw [hread, Nat.two_mul, ← List.replicate_append_replicate, List.append_assoc]
  obtain ⟨m, u, hjudged⟩ := evaluateEach_judged (s := s.claimsTold d n) (before := []) (s.claims.queue.map (resolvedTo n)) hl htold
    (fun k hk => by
      obtain ⟨q, hq, rfl⟩ := List.mem_map.1 hk
      have hunjudged := hwaits q hq
      simp only [waitsOn, Bool.and_eq_true, Option.isNone_iff_eq_none] at hunjudged
      obtain ⟨⟨hnone, -⟩, -⟩ := hunjudged
      exact ⟨rfl, hnone⟩) hfind hslot (by rw [List.length_map]; exact hsplit)
  have hrun : tellClaims d n s = releaseClaims
      ((List.range (s.claimsTold d n).claims.queue.length).foldl (fun s i => evaluateAt i s) (s.claimsTold d n)) := rfl
  rw [htold, List.range_eq_range'] at hrun
  rw [List.length_nil, List.nil_append] at hjudged
  rw [hjudged] at hrun
  have hreservations : ((s.claims.queue.map (resolvedTo n)).map (judgedFrom (s.claimsTold d n).classes b)).map (·.reservation)
      = s.claims.queue.map (·.reservation) := by
    rw [List.map_map, List.map_map]
    rfl
  have hrelease := releaseLoop_sound (fun k => { drop := b.number, entries := judgeItems s.classes k.selector b })
    ((s.claims.queue.map (resolvedTo n)).map (judgedFrom (s.claimsTold d n).classes b))
    (s := (s.claimsTold d n).claimsEvaluated ((s.claims.queue.map (resolvedTo n)).map (judgedFrom (s.claimsTold d n).classes b))
      (List.replicate s.claims.queue.length false ++ rest) m u) hl rfl (fun k hk => by
        obtain ⟨q, hq, rfl⟩ := List.mem_map.1 hk
        rfl) (by rw [List.length_map, List.length_map]; rfl) (by rw [hreservations]; exact hapart)
  rw [hreservations] at hrelease
  obtain ⟨hqueue, hlist, hfilled, hothers⟩ := hrelease
  rw [hrun]
  exact ⟨hqueue, hlist, fun k hk => hfilled _ (List.mem_map_of_mem (List.mem_map_of_mem hk)), hothers⟩

/-! ### The record just written -/

/-- A record of a number that the store did not hold is found in the slot it was written into (R147). -/
theorem writeRecord_findRecord {s : State} {i : Fin 256} (hnone : s.findRecord s.store.nextNumber = none) (hi : i ∉ s.store.fillList)
    (body : RecordBody) : (writeRecord i body s).findRecord s.store.nextNumber = some i := by
  have hbefore : s.store.fillList.find? (fun j => ((writeRecord i body s).slot j).header?.any fun h => h.number == s.store.nextNumber)
      = none := by
    rw [List.find?_eq_none]
    intro j hj
    have hne : j ≠ i := fun e => hi (by rw [← e]; exact hj)
    rw [writeRecord_other hne]
    exact List.find?_eq_none.1 hnone j hj
  have hlast : ((writeRecord i body s).slot i).header?.any (fun h => h.number == s.store.nextNumber) = true := by
    rw [writeRecord_slot]
    exact beq_self_eq_true s.store.nextNumber
  change (s.store.fillList ++ [i]).find? _ = _
  rw [List.find?_append, hbefore, Option.none_or]
  exact List.find?_cons_of_pos hlast

/-- The chain after a fill is that of the record's header (R149, R151). -/
theorem writeRecord_chain (i : Fin 256) (body : RecordBody) (s : State) :
    (writeRecord i body s).store.chain = (s.fillHeader body).chain := by simp only [writeRecord]

theorem fillHeader_dropOutcome (b : DropOutcomeBody) (s : State) :
    s.fillHeader (.dropOutcome b) = { number := s.store.nextNumber, kind := .dropOutcome, routeId := s.route.id, fillTime := s.now,
                                      chain := (s.fillHeader (.dropOutcome b)).chain } := by
  simp only [State.fillHeader, bodyKind]

theorem fillHeader_dropOutcome_chain (b : DropOutcomeBody) (s : State) : (s.fillHeader (.dropOutcome b)).chain
    = chainValue s.store.chain s.store.nextNumber .dropOutcome s.route.id s.now (.dropOutcome b) := by
  simp only [State.fillHeader, bodyKind]

section Ended
variable {c : Fin 4} {n T : Nat} {o : Option StopOutcome} {i : Fin 256} {reads : List Bool} {b : DropOutcomeBody} {s u : State}
  (h : StopEnded c n T o i reads b s u)
include h

theorem StopEnded.store : u.store = (writeRecord i (.dropOutcome b) s).store := by
  obtain ⟨⟨v, hv, hat⟩, -, -⟩ := h
  have hstore : v.store = s.store := hat.accounted.store
  have hroute : v.route = s.route := hat.accounted.route
  have hclock : v.clock = s.clock := hat.accounted.clock
  rw [hv.store]
  simp only [writeRecord, State.fillHeader, State.now, hstore, hroute, hclock]

theorem StopEnded.slot (l : Fin 256) : u.slot l = (writeRecord i (.dropOutcome b) s).slot l := by
  rw [State.slot, h.store]
  rfl

theorem StopEnded.others {k : Fin 4} (hk : k ≠ c) : u.comp k = s.comp k := by
  obtain ⟨⟨v, hv, hat⟩, -, -⟩ := h
  rw [State.comp, hv.comps]
  exact hat.others k hk

theorem StopEnded.route : u.route = s.route := by
  obtain ⟨⟨v, hv, hat⟩, -, -⟩ := h
  exact hv.route.trans hat.accounted.route

theorem StopEnded.stations : u.stations = s.stations := by
  obtain ⟨⟨v, hv, hat⟩, -, -⟩ := h
  exact hv.stations.trans hat.accounted.stations

theorem StopEnded.classes : u.classes = s.classes := by
  obtain ⟨⟨v, hv, hat⟩, -, -⟩ := h
  exact hv.classes.trans hat.accounted.classes

theorem StopEnded.clock : u.clock = s.clock := by
  obtain ⟨⟨v, hv, hat⟩, -, -⟩ := h
  exact hv.clock.trans hat.accounted.clock

theorem StopEnded.config : u.config = s.config := by
  obtain ⟨⟨v, hv, hat⟩, -, -⟩ := h
  exact hv.config.trans hat.accounted.config

theorem StopEnded.claims : u.claims = s.claims := by
  obtain ⟨⟨v, hv, hat⟩, -, -⟩ := h
  exact hv.claims.trans hat.accounted.claims

end Ended

/-- The end of a stop of one compartment with no event pending, reached on an OPEN route. -/
theorem exec_stopEnds {s : State} {n T : Nat} {x : Context} {k : CtxComp} {d : Drop} {i : Fin 256} {reads : List Bool}
    (hw : s.working = true) (hl : s.store.lockout = false) (hroute : s.route.state = .opened) (hx : s.findContext n = some x)
    (hT : x.endTime = some T) (hreach : T + s.config.settleDelay ≤ s.now) (hctx : s.contexts = [x]) (hdrop : x.drop = n)
    (hk : x.comps = [k]) (hr : k.resolved = false) (harmed : (s.comp k.comp).window.armed = true)
    (hnone : (s.comp k.comp).window.events = []) (hlt : (s.comp k.comp).window.committed < T) (hd : s.findDrop n = some d)
    (hi : d.reservation = some i) (hread : s.array.script = false :: reads) :
    ∃ u b, StopEnded k.comp n T x.outcome i reads b s u
      ∧ exec (.stopEndAdvance n) s = .next (evalTg k.comp T (tellClaims n s.store.nextNumber u)) := by
  have hon : s.onRoute = true := by simp [State.onRoute, hroute]
  have hleft : s.OneStopLeft k.comp n T x.outcome := ⟨x, hctx, hdrop, hT, rfl, k, hk, rfl, hr⟩
  obtain ⟨u, b, hended, hcharge⟩ := chargeTo_ends hl hleft hlt hd hi hread
  have hlist : unresolved x = [k.comp] := by simp [unresolved, hk, hr]
  refine ⟨u, b, hended, exec_stopEndAdvance hw ?_⟩
  rw [advanceStopEnd_reached hroute hx hT hreach, hlist, List.foldl_cons, List.foldl_nil, advanceTo_empty hl hon harmed hnone hlt, hcharge]

/-- What StoreSound says of the reservations of a drop and of the claims (R148). -/
theorem reservations_apart {s : State} {n : Nat} {d : Drop} {i : Fin 256} (hs : s.StoreSound) (hd : s.findDrop n = some d)
    (hi : d.reservation = some i) :
    i ∉ s.store.fillList ∧ i ∉ s.claims.queue.map (·.reservation) ∧ (s.claims.queue.map (·.reservation)).Nodup := by
  obtain ⟨-, hfilled, hnodup, hreserved, -, -⟩ := hs
  have hmem : i ∈ s.drops.filterMap (·.reservation) := List.mem_filterMap.2 ⟨d, List.mem_of_find?_eq_some hd, hi⟩
  have hslot : s.slot i = .reserved := hreserved i (by simp only [State.reservations, List.append_assoc]; exact List.mem_append_left _ hmem)
  obtain ⟨-, hqueue, hdisjoint⟩ := List.nodup_append.1 hnodup
  refine ⟨fun hin => ?_, fun hin => hdisjoint i (List.mem_append_left _ hmem) i hin rfl, hqueue⟩
  have := (hfilled i).2 hin
  rw [hslot] at this
  exact absurd this (by simp [Slot.header?])

end Sys2Proof.Machine
end

section
open Sys2Proof Sys2Proof.Machine

/-- Settles O20: the compartments are brought to the end; the one of a small stop is resolved there, its record filled, and the claims that wait on it told. -/
theorem stopEndSettlesDrop : Obligations.StopEndSettlesDrop := by
  intro s n T x hw hl hroute hx hT hreach
  refine ⟨?reached, fun k d i reads hctx hdrop hk hr harmed hnone hlt hd hi hqueue hread => ?settled,
    fun k d i reads hs hctx hdrop hk hr harmed hnone hlt hd hi hfree hwaits hread => ?claims⟩
  case reached =>
    refine ⟨_, exec_stopEndAdvance hw (advanceStopEnd_reached hroute hx hT hreach), ?_⟩
    cases hlock : ((unresolved x).foldl (fun s c => advanceTo c T s) s).store.lockout with
    | true => exact .inl rfl
    | false =>
      refine .inr fun k hk hr harmed => ?_
      have hmem : k.comp ∈ unresolved x := List.mem_map_of_mem (List.mem_filter.2 ⟨hk, by simp [hr]⟩)
      exact foldl_advanceTo_least _ (by simp [State.onRoute, hroute]) hlock k.comp hmem harmed
  case settled =>
    obtain ⟨u, b, hended, hexec⟩ := exec_stopEnds hw hl hroute hx hT hreach hctx hdrop hk hr harmed hnone hlt hd hi hread
    rw [tellClaims_none (by rw [hended.claims]; exact hqueue)] at hexec
    obtain ⟨hat, hcomp⟩ := evalTg_at k.comp T u
    obtain ⟨-, -, hp, -⟩ := evaluated_charges (u.comp k.comp).profile (u.comp k.comp).account T
    have hstore := hat.accounted.store.trans hended.store
    have hchain := (congrArg Store.chain hstore).trans (writeRecord_chain i (.dropOutcome b) s)
    obtain ⟨v, hsettled, hv⟩ := hended.settled
    have hnext : v.store.nextNumber = s.store.nextNumber := by rw [hv.accounted.store]
    refine ⟨_, hexec, hat.accounted.contexts.trans hsettled.contexts, ?_, ?_, ?_, ⟨b, ?_, hsettled.number.trans (State.findDrop_number hd).symm,
      hsettled.outcome, hsettled.endTime, ?_⟩, ?_, fun c hc => (hat.others c hc).trans (hended.others hc),
      hat.accounted.route.trans hended.route, hat.accounted.stations.trans hended.stations, hat.accounted.classes.trans hended.classes,
      hat.accounted.clock.trans hended.clock, hat.accounted.config.trans hended.config⟩
    · rw [hcomp]; exact hended.committed
    · rw [hcomp]; exact hp.trans hended.charged
    · rw [State.findDrop, hat.accounted.drops, ← hnext]
      exact hsettled.drop
    · rw [hat.accounted.slot, hended.slot, writeRecord_slot, hchain]
      exact congrArg (Slot.filled · (.dropOutcome b)) (fillHeader_dropOutcome b s)
    · exact hchain.trans (fillHeader_dropOutcome_chain b s)
    · exact congrArg Store.fillList hstore
  case claims =>
    have hread' : s.array.script = false :: (List.replicate (2 * s.claims.queue.length) false ++ reads) := by
      rw [hread, Nat.add_comm]
      rfl
    obtain ⟨u, b, hended, hexec⟩ := exec_stopEnds hw hl hroute hx hT hreach hctx hdrop hk hr harmed hnone hlt hd hi hread'
    obtain ⟨houtside, hother, hapart⟩ := reservations_apart hs hd hi
    obtain ⟨v, hsettled, -⟩ := hended.settled
    have hfind : u.findRecord s.store.nextNumber = some i := by
      have hwritten := writeRecord_findRecord hfree houtside (.dropOutcome b)
      rw [← hwritten]
      simp only [State.findRecord, hended.store, hended.slot]
    have hslot : u.slot i = .filled (s.fillHeader (.dropOutcome b)) (.dropOutcome b) := by rw [hended.slot, writeRecord_slot]
    have hclaims : u.claims.queue = s.claims.queue := by rw [hended.claims]
    obtain ⟨hqueue, hlist, hfilled, hothers⟩ := tellClaims_sound (s := u) (d := n) (by rw [hended.store]; exact hl)
      (by rw [hclaims]; exact hwaits) hfind hslot (by rw [hclaims]; exact hsettled.script) (by rw [hclaims]; exact hapart)
    obtain ⟨hat, -⟩ := evalTg_at k.comp T (tellClaims n s.store.nextNumber u)
    rw [hclaims] at hlist hfilled hothers
    refine ⟨_, s.fillHeader (.dropOutcome b), b, hexec, ?_, rfl, ?_, ?_, fun q hq => ?_⟩
    · rw [hat.accounted.slot, hothers i hother, hslot]
    · rw [hat.accounted.claims, hqueue]
    · rw [hat.accounted.store, hlist, hended.store]
      rfl
    · obtain ⟨h', hverdict⟩ := hfilled q hq
      refine ⟨h', (hat.accounted.slot _).trans (hverdict.trans ?_)⟩
      rw [hended.classes]
      rfl

end
